-- ==== Sys2Proof/Word.lean ====
section
/-! DEFINITION. Plain words of the model: bytes, stamps and digests, the four trunks, and one value per trunk. -/

namespace Sys2Proof

/-- One byte of a record or frame. -/
abbrev Byte := BitVec 8

/-- A packed version stamp: time, counter and site (R33). -/
abbrev Stamp := BitVec 64

/-- A 128-bit key digest (Table 0-3). -/
abbrev Digest := BitVec 128

/-- The trunks T0 to T3, and the trunk slots of the same names (0.6). -/
inductive Trunk where
  | t0 | t1 | t2 | t3
  deriving DecidableEq, Repr

/-- The trunk's number, 0 to 3. -/
def Trunk.index : Trunk → Nat
  | .t0 => 0
  | .t1 => 1
  | .t2 => 2
  | .t3 => 3

/-- The trunk of a trunk number; numbers above 3 name none. -/
def Trunk.ofNat? : Nat → Option Trunk
  | 0 => some .t0
  | 1 => some .t1
  | 2 => some .t2
  | 3 => some .t3
  | _ => none

/-- Every trunk, in number order. -/
def Trunk.all : List Trunk := [.t0, .t1, .t2, .t3]

/-- One value for each trunk. -/
structure Quad (α : Type) where
  t0 : α
  t1 : α
  t2 : α
  t3 : α
  deriving DecidableEq, Repr

/-- The value of one trunk. -/
def Quad.get {α : Type} (q : Quad α) : Trunk → α
  | .t0 => q.t0
  | .t1 => q.t1
  | .t2 => q.t2
  | .t3 => q.t3

/-- The four values with one of them replaced. -/
def Quad.set {α : Type} (q : Quad α) (t : Trunk) (v : α) : Quad α :=
  match t with
  | .t0 => { q with t0 := v }
  | .t1 => { q with t1 := v }
  | .t2 => { q with t2 := v }
  | .t3 => { q with t3 := v }

/-- The same value for every trunk. -/
def Quad.all {α : Type} (v : α) : Quad α := ⟨v, v, v, v⟩

/-- The four values in trunk order. -/
def Quad.toList {α : Type} (q : Quad α) : List α := [q.t0, q.t1, q.t2, q.t3]

/-- Apply a function to each of the four values. -/
def Quad.map {α β : Type} (q : Quad α) (v : α → β) : Quad β := ⟨v q.t0, v q.t1, v q.t2, v q.t3⟩

/-- Rounded up quotient: the smallest integer not below a / b (0.6). -/
def ceilDiv (a b : Nat) : Nat := (a + b - 1) / b

end Sys2Proof
end

