-- ==== Sys2Proof/Config.lean ====
section
/-! DEFINITION. The part's capacities and fixed figures (Table 0-2 and the owning chapters), and the free values. -/

namespace Sys2Proof.Config

/-- Largest site clock and HLC time: 42 bits (R34). -/
def maxTime : Nat := 4398046511103
/-- Bucket ids run from 0 to 4,095 (Section 1.1). -/
def buckets : Nat := 4096
/-- Positions of the entry table (Section 1.3). -/
def journalSize : Nat := 65536
/-- Object records the map holds at most (R47). -/
def mapSize : Nat := 65536
/-- Outbound share limit in slots (R61). -/
def outLimit : Nat := 589824
/-- Inbound share limit in slots (R61). -/
def inLimit : Nat := 196608
/-- Body bytes one segment slot holds (Section 4.1). -/
def segBytes : Nat := 8128
/-- Largest body (R16 step 3). -/
def maxBody : Nat := 268435456
/-- Outbound use at which parking turns ON (R69). -/
def parkOnAt : Nat := 524288
/-- Outbound use at which parking turns OFF (R69). -/
def parkOffAt : Nat := 458752
/-- Frame places of the reorder store and records of the retransmit store (R123, R132). -/
def storeFrames : Nat := 32768
/-- Places of the apply backlog (R144). -/
def backlogLimit : Nat := 16384
/-- Apply slots (Section 7.5). -/
def applySlots : Nat := 256
/-- Records of the refill table (R73). -/
def refillRecords : Nat := 64
/-- Lowest BODY-WANTED tag (R73). -/
def firstRefillTag : Nat := 257
/-- Reports the report queue holds (R185). -/
def reportLimit : Nat := 256
/-- Entry acknowledgements one SERVICE frame carries (R129). -/
def acksPerFrame : Nat := 1000
/-- 2^48 - 1: the frame number never given to a frame (R122). -/
def noFrame : Nat := 281474976710655
/-- The value of next seq at which the SEQ-LIMIT flag is set (R24). -/
def seqLimit : Nat := 4294967295
/-- Highest seq an entry is sealed with (Table 1-4, R136). -/
def maxSeq : Nat := 4294967294
/-- Body bytes of one BODY-OUT record (R148). -/
def bodyOutBytes : Nat := 65512
/-- Payload bytes of a trunk frame (Section 5.1). -/
def payloadBytes : Nat := 8160
/-- Largest body of a site link record (Section 9.1). -/
def recordBody : Nat := 65520
/-- The HEAD frame's alignment word (Table 5-1). -/
def alignWord : BitVec 32 := 0x5E3AC691#32
/-- The record marker (Section 9.1). -/
def marker : Nat := 0xC35A
/-- One millisecond in the model's unit of time, the nanosecond. -/
def nsPerMs : Nat := 1000000
/-- What an idle step lets pass: one millisecond (DESIGN CHOICE, log 1). -/
def idleNs : Nat := 1000000

/-- FREE VALUE (log 12): the order in which entries that join the refill queue at one moment stand there.
The manual says "in either order" (Section 11.2.2). Applied to the free counter and the entry's index. -/
opaque refillRank : Nat → Nat → Nat

/-- FREE VALUE (log 46): the order in which records that join the slot wait list at one freed slot stand there.
The manual gives none (Section 7.5). Applied to the free counter and the record's key. -/
opaque waitRank : Nat → Nat → Nat

/-- FREE VALUE (log 14): whether a timer's left-over part of a millisecond is rounded up in TRUNK-QUERY.
Applied to the left-over nanoseconds. -/
opaque msRoundUp : Nat → Bool

/-- FREE VALUE (log 15): what the two-byte HEAD cycles field of TRUNK-QUERY holds for a count above 65,535. -/
opaque headCyclesField : Nat → BitVec 16

/-- The orders in which R168 lets the close of the period, the coming into force of the staged fields, the R97 test and an
identification made by that close be taken at one cycle start. -/
inductive CycleOrder where
  /-- staged fields, R97 test, close; an identification waits for its IDENTIFICATION_ACTION -/
  | closeLast
  /-- staged fields, close, R97 test; an identification waits for its IDENTIFICATION_ACTION -/
  | closeMiddle
  /-- close, staged fields, R97 test; an identification waits for its IDENTIFICATION_ACTION -/
  | closeFirst
  /-- staged fields, close, identification, R97 test -/
  | closeMiddleActed
  /-- close, staged fields, identification, R97 test -/
  | closeFirstActed
  /-- close, identification, staged fields, R97 test -/
  | identificationFirst
  deriving DecidableEq, Repr, Inhabited

/-- FREE VALUE (log 41): the order of the events of a cycle start. The manual says "in either order" (R168). Applied to the
free counter. -/
opaque cycleOrder : Nat → CycleOrder

end Sys2Proof.Config
end

