-- ==== Sys2Proof/Syntax.lean ====
section
/-! DEFINITION. The commands: one constructor of Instr for each row of spec/opcode_table.json, and what their operands hold. -/

namespace Sys2Proof

/-- A site link record as taken from the stream, less its header check: the tag, the body bytes and the body check
received with it (Section 9.1). The kind and the role are the command's. -/
structure Wire where
  tag : BitVec 16
  body : List Byte
  check : BitVec 32
  deriving DecidableEq, Repr

/-- The two roles the host does not send (R177). -/
inductive WrongRole where
  /-- REPLY set with PART-TAG clear -/
  | replyToHost
  /-- PART-TAG set with REPLY clear -/
  | partRequest
  deriving DecidableEq, Repr

/-- One write of a patch list: a field number and a value (Table 1-4). -/
structure PatchWrite where
  field : Nat
  value : List Byte
  deriving DecidableEq, Repr

/-- The header fields of a HEAD frame that the receiver reads (Table 10-10). -/
structure HeadFrame where
  site : Byte
  k : Byte
  align : BitVec 32
  incarnation : Stamp
  cycle : Byte
  ready : Bool
  locked : Bool
  alarm : Bool
  deriving DecidableEq, Repr

/-- The header fields of a FILL frame that the receiver reads (Table 10-10). -/
structure FillFrame where
  site : Byte
  incarnation : Stamp
  ready : Bool
  deriving DecidableEq, Repr

/-- The header fields of a PROBE frame that the receiver reads (Table 10-10). -/
structure ProbeFrame where
  site : Byte
  incarnation : Stamp
  heard : Bool
  deriving DecidableEq, Repr

/-- An entry acknowledgement: bucket, epoch and seq (Section 1.6). -/
structure EntryAck where
  bucket : Nat
  epoch : Nat
  seq : Nat
  deriving DecidableEq, Repr

/-- The content of a SERVICE frame (R126, R129): the received-through number (none for FFFFFFFFFFFFh), the 256 marks
in order, and the entry acknowledgements in order. -/
structure ServiceFrame where
  through : Option Nat
  marks : List Bool
  acks : List EntryAck
  deriving DecidableEq, Repr

/-- The commands: one constructor for each row of spec/opcode_table.json, in the table's order. -/
inductive Instr where
  /-- POWER_ON_RESET (R193) -/
  | powerOnReset
  /-- SET_CLOCK (R35) -/
  | setClock (w : Wire)
  /-- SET_SITE (R37) -/
  | setSite (w : Wire)
  /-- BUCKET_SET (R2) -/
  | bucketSet (w : Wire)
  /-- BUCKET_QUERY (R11) -/
  | bucketQuery (w : Wire)
  /-- SUBMIT (R17) -/
  | submit (w : Wire)
  /-- CHUNK (R66) -/
  | chunk (w : Wire)
  /-- TRUNK_SET (R85) -/
  | trunkSet (w : Wire)
  /-- TRUNK_ENABLE (R87) -/
  | trunkEnable (w : Wire)
  /-- TRUNK_DISABLE (R88) -/
  | trunkDisable (w : Wire)
  /-- TRUNK_TEST (R104) -/
  | trunkTest (w : Wire)
  /-- TRUNK_RESTART (R89) -/
  | trunkRestart (w : Wire)
  /-- TRUNK_CLEAR (R173) -/
  | trunkClear (w : Wire)
  /-- TRUNK_QUERY (R106) -/
  | trunkQuery (w : Wire)
  /-- COUNTER_READ (R158) -/
  | counterRead (w : Wire)
  /-- COUNTER_WRITE (R158) -/
  | counterWrite (w : Wire)
  /-- APPLY_RESUME (R150) -/
  | applyResume (w : Wire)
  /-- STATUS_READ (R187) -/
  | statusRead (w : Wire)
  /-- STATUS_PEEK (R188) -/
  | statusPeek (w : Wire)
  /-- REPORT_MASK (R189) -/
  | reportMask (w : Wire)
  /-- STATS_READ (R191) -/
  | statsRead (w : Wire)
  /-- RESTART (R192) -/
  | restart (w : Wire)
  /-- UNKNOWN_KIND_REQUEST (R180): the kind code received and the record -/
  | unknownKindRequest (kind : Byte) (w : Wire)
  /-- ROLE_FAULT_RECORD (R177): the role received and the record -/
  | roleFaultRecord (role : WrongRole) (w : Wire)
  /-- HEADER_FAULT (R178): the bytes the assembler is given next -/
  | headerFault (bytes : List Byte)
  /-- APPLY_REPLY (R149): the header's kind and result, and the record -/
  | applyReply (kind : Byte) (result : BitVec 16) (w : Wire)
  /-- BODY_WANTED_REPLY (R74): the header's kind and result, and the record -/
  | bodyWantedReply (kind : Byte) (result : BitVec 16) (w : Wire)
  /-- RECORD_SEND (R184) -/
  | recordSend
  /-- CYCLE_START (R83) -/
  | cycleStart (t : Trunk)
  /-- FRAME_PERIOD (R84) -/
  | framePeriod (t : Trunk)
  /-- PROBE_PERIOD (R102) -/
  | probePeriod (t : Trunk)
  /-- RTO_EXPIRY (R125): the frame number whose timeout expires -/
  | rtoExpiry (t : Trunk) (frame : Nat)
  /-- RESYNC_TIMEOUT (R169) -/
  | resyncTimeout (t : Trunk)
  /-- STALL_EXPIRY (R171) -/
  | stallExpiry (t : Trunk)
  /-- IDENTIFICATION_ACTION (R167) -/
  | identificationAction (t : Trunk)
  /-- HEAD_RECEIVED (R95) -/
  | headReceived (t : Trunk) (f : HeadFrame)
  /-- FILL_RECEIVED (R94) -/
  | fillReceived (t : Trunk) (f : FillFrame)
  /-- PROBE_RECEIVED (R103) -/
  | probeReceived (t : Trunk) (f : ProbeFrame)
  /-- SERVICE_RECEIVED (R126) -/
  | serviceReceived (t : Trunk) (f : ServiceFrame)
  /-- CARRY_RECEIVED (R132): the frame number and the payload bytes -/
  | carryReceived (t : Trunk) (frame : Nat) (payload : List Byte)
  /-- TEST_FRAME_RECEIVED (R105): the test frame counter and the payload bytes -/
  | testFrameReceived (t : Trunk) (counter : BitVec 32) (payload : List Byte)
  /-- INVALID_FRAME_RECEIVED (R82) -/
  | invalidFrameReceived (t : Trunk)
  /-- NOTICE_RETRY (R139) -/
  | noticeRetry (t : Trunk)
  /-- APPLY_FORWARD (R145): the trunk and bucket of the inbound record -/
  | applyForward (t : Trunk) (bucket : Nat)
  /-- BODY_WANTED_SEND (R73) -/
  | bodyWantedSend
  /-- PARK_ENTRY (R71) -/
  | parkEntry
  deriving DecidableEq, Repr

end Sys2Proof
end

