-- ==== Sys2Proof/WellFormed.lean ====
section
/-! DEFINITION. When a command's operands lie within the ranges the record and frame formats give them (Chapter 10). -/

namespace Sys2Proof

/-- The body of a taken record is at most 65,520 bytes (R178). -/
def Wire.wellFormed (w : Wire) : Bool := w.body.length ≤ Config.recordBody

/-- The codes of the twenty-one host requests run from 01h to 15h (Table 10-2). -/
def isHostRequestKind (kind : Byte) : Bool := 1 ≤ kind.toNat && kind.toNat ≤ 0x15

/-- An entry acknowledgement fits its eight bytes (Section 10.2.1). -/
def EntryAck.wellFormed (a : EntryAck) : Bool := a.bucket < 65536 && a.epoch < 65536 && a.seq < 4294967296

/-- A received-through number is a frame number below 2^48 - 1, the marks are 256 and the acknowledgements at most 1,000
(Section 10.2.1, R195). -/
def ServiceFrame.wellFormed (f : ServiceFrame) : Bool :=
  (match f.through with
    | none => true
    | some n => n < Config.noFrame)
  && f.marks.length = 256 && f.acks.length ≤ Config.acksPerFrame && f.acks.all EntryAck.wellFormed

/-- A command's operands lie within the ranges of their fields. -/
def Instr.wellFormed : Instr → Bool
  | .powerOnReset => true
  | .setClock w => w.wellFormed
  | .setSite w => w.wellFormed
  | .bucketSet w => w.wellFormed
  | .bucketQuery w => w.wellFormed
  | .submit w => w.wellFormed
  | .chunk w => w.wellFormed
  | .trunkSet w => w.wellFormed
  | .trunkEnable w => w.wellFormed
  | .trunkDisable w => w.wellFormed
  | .trunkTest w => w.wellFormed
  | .trunkRestart w => w.wellFormed
  | .trunkClear w => w.wellFormed
  | .trunkQuery w => w.wellFormed
  | .counterRead w => w.wellFormed
  | .counterWrite w => w.wellFormed
  | .applyResume w => w.wellFormed
  | .statusRead w => w.wellFormed
  | .statusPeek w => w.wellFormed
  | .reportMask w => w.wellFormed
  | .statsRead w => w.wellFormed
  | .restart w => w.wellFormed
  | .unknownKindRequest kind w => !isHostRequestKind kind && w.wellFormed
  | .roleFaultRecord _ w => w.wellFormed
  | .headerFault bytes => !bytes.isEmpty
  | .applyReply _ _ w => w.wellFormed
  | .bodyWantedReply _ _ w => w.wellFormed
  | .recordSend => true
  | .cycleStart _ => true
  | .framePeriod _ => true
  | .probePeriod _ => true
  | .rtoExpiry _ frame => frame < Config.noFrame
  | .resyncTimeout _ => true
  | .stallExpiry _ => true
  | .identificationAction _ => true
  | .headReceived _ _ => true
  | .fillReceived _ _ => true
  | .probeReceived _ _ => true
  | .serviceReceived _ f => f.wellFormed
  | .carryReceived _ frame payload => frame ≤ Config.noFrame && payload.length ≤ Config.payloadBytes
  | .testFrameReceived _ _ payload => payload.length = Config.payloadBytes
  | .invalidFrameReceived _ => true
  | .noticeRetry _ => true
  | .applyForward _ bucket => bucket < Config.buckets
  | .bodyWantedSend => true
  | .parkEntry => true

end Sys2Proof
end

