-- ==== Sys2Proof/Decode.lean ====
section
/-! DEFINITION. The commands that words of the opcode table spell: the table gives no row any bits, so none. -/

namespace Sys2Proof

/-- The command that the word w of nbits bits spells by the bits of spec/opcode_table.json. No row of the table has bits
(every row's fields are empty), so no word spells a command. -/
def decodeTableWord (_nbits _w : Nat) : Option Instr := none

end Sys2Proof
end

