-- ==== Sys2Proof/Machine/State.lean ====
section
/-! DEFINITION. The state of the part, block by block, as plain data; its value after power-on reset; why a step can stop. -/

namespace Sys2Proof.Machine

/-- A sparse table: keys strictly rising, and no entry equal to what an unlisted key reads as (Tables.lean). -/
abbrev Table (α : Type) := List (Nat × α)

/-! ## Codes and names -/

/-- Result codes (Table 10-12). -/
inductive Result where
  | ok | clamped | notReady | noBucket | draining | full | bodyFull | mapFull | tooLarge | badPatch | dropped | noEntry
  | outOfOrder | badPlan | wrongState | faultPersists | badArgument | badCheck | unknownKind | clockExhausted | failed | gone
  deriving DecidableEq, Repr

/-- Bucket states (Table 1-1). -/
inductive BucketState where
  | absent | active | paused | draining
  deriving DecidableEq, Repr

/-- Bands (Table 1-1). -/
inductive Band where
  | express | bulk
  deriving DecidableEq, Repr

/-- Per-peer state of a journal entry; SENDING holds the piece index, the next segment (Table 1-4, R25). -/
inductive PeerState where
  | queued
  | sending (piece : Nat)
  | sent
  deriving DecidableEq, Repr

/-- Body states (Table 1-4). -/
inductive BodyState where
  | filling | ready | parked | refilling
  deriving DecidableEq, Repr

/-- Trunk states (Section 5.4). -/
inductive TrunkState where
  | off | test | hunt | align | running | resync | down | faulted
  deriving DecidableEq, Repr

/-- Signatures and fault causes (Tables 8-2, 8-3; STALLED by R171). -/
inductive Signature where
  | silent | looped | foreign | garbled | stalled | clean
  deriving DecidableEq, Repr

/-- Test patterns (Table 5-6). -/
inductive Pattern where
  | zeros | ones | alternate | ramp | custom | customPair
  deriving DecidableEq, Repr

/-- The error counters of a trunk (Table 8-1). -/
inductive CounterName where
  | frameCheck | headError | resend
  deriving DecidableEq, Repr

/-- Part-wide latches (Table 9-3). -/
inductive PartLatch where
  | skew | clockAhead | parking | applyHeld | linkError | mapBlocked
  deriving DecidableEq, Repr

/-- Per-trunk latches (Table 9-3). -/
inductive TrunkLatch where
  | unidentified | identified | remoteAlarm | resync | down | faulted | counterSat | windowFull
  deriving DecidableEq, Repr

/-- Types of a LINK-ERROR report (R185). -/
inductive LinkErrorType where
  | header | bodyCheck | partTag
  deriving DecidableEq, Repr

/-! ## Stamp Clock -/

/-- The Stamp Clock (Chapter 2). The site clock is held as the value last given and the moment it was given (R34). -/
structure StampClock where
  set : Bool
  base : Nat
  setAt : Nat
  skew : Nat
  site : Option Nat
  incarnation : Option Stamp
  l : Nat
  c : Nat
  deriving DecidableEq, Repr

/-! ## Journal -/

/-- A journal entry's name (R13). -/
structure Handle where
  index : Nat
  gen : Nat
  deriving DecidableEq, Repr

/-- A bucket record (Table 1-1). -/
structure Bucket where
  state : BucketState
  targets : Quad Bool
  band : Band
  nextSeq : Nat
  epochs : Quad Nat
  rebase : Quad Bool
  seqLimit : Bool
  deriving DecidableEq, Repr

/-- What an entry's kind carries (Table 1-4): a VOID has nothing left (R75). -/
inductive Change where
  | body (length : Nat) (check : BitVec 64) (ref : BitVec 64) (patches : List PatchWrite)
  | patch (patches : List PatchWrite)
  | drop
  | void
  deriving DecidableEq, Repr

/-- The slots and the fill record of an outbound entry that holds slots (Table 4-1): the bytes received, and the running
check before its final exclusive-or (R62). -/
structure Fill where
  slots : Nat
  bytes : List Byte
  crc : BitVec 64
  deriving DecidableEq, Repr

/-- A journal entry (Table 1-4), with its Body Store items (Table 4-1): a slot is pending while it has a per-peer state,
the entry is sealed while it has a seq, and an entry owns slots while it has a fill. refillTag is the tag of the refill
by which the entry is REFILLING (R74 to R76). -/
structure JEntry where
  index : Nat
  gen : Nat
  bucket : Nat
  digest : Digest
  stamp : Stamp
  change : Change
  bodyState : BodyState
  seq : Option Nat
  peers : Quad (Option PeerState)
  fill : Option Fill
  framesOut : Nat
  refillTag : Option Nat
  deriving DecidableEq, Repr

/-- The journal: the entries in the order they were appended, whose part of one bucket is its bucket order (R12), and
the generation of every position (R13). -/
structure Journal where
  entries : List JEntry
  gens : Table Nat
  deriving DecidableEq, Repr

/-! ## Object Map -/

/-- An object record (Table 3-1). -/
structure ObjRec where
  bucket : Nat
  digest : Digest
  stamp : Option Stamp
  tombstone : Bool
  unsealed : Option Handle
  pins : Nat
  deriving DecidableEq, Repr

/-! ## Body Store -/

/-- The Body Store (Table 4-1); the reservation list and the refill queue name entries by index. -/
structure BodyStore where
  outUse : Nat
  inUse : Nat
  reservation : List Nat
  parkOn : Bool
  refillQueue : List Nat
  refillTable : List (Nat × Handle)
  deriving DecidableEq, Repr

/-! ## Trunk ports -/

/-- A band plan (Table 6-2). -/
structure Plan where
  xs : Nat
  xe : Nat
  bs : Nat
  be : Nat
  bulk : Bool
  deriving DecidableEq, Repr

/-- The fields that TRUNK-SET stages (Table 5-3). -/
structure Paced where
  lineRate : Nat
  divider : Nat
  rtt : Nat
  plan : Plan
  echo : Bool
  echoM : Nat
  echoN : Nat
  deriving DecidableEq, Repr

/-- A trunk's configuration in force (Table 5-3). The report policy IDENTIFY is identifyPolicy. -/
structure TrunkConfig where
  peer : Option Nat
  k : Nat
  paced : Paced
  alignDelay : Nat
  resyncTimeout : Nat
  stallTime : Nat
  probePeriod : Nat
  identifyPolicy : Bool
  deriving DecidableEq, Repr

/-- The receive lock (Section 5.5.2). -/
structure Lock where
  held : Bool
  remoteK : Option Nat
  expected : Option Nat
  run : Nat
  headErrors : Nat
  peerLocked : Bool
  deriving DecidableEq, Repr

/-- The remote alarm filter (R101). -/
structure AlarmFilter where
  alarm : Bool
  run : Nat
  deriving DecidableEq, Repr

/-- A trunk frame: its kind, the header fields of Table 10-10, and its payload up to the last byte that is not padding. -/
structure Frame where
  kind : Nat
  ready : Bool
  locked : Bool
  alarm : Bool
  heard : Bool
  echo : Bool
  site : Nat
  k : Nat
  align : BitVec 32
  incarnation : Stamp
  number : Nat
  cycle : Nat
  counter : BitVec 32
  payload : List Byte
  deriving DecidableEq, Repr

/-- A record of the retransmit store (Table 6-4). -/
structure SentFrame where
  number : Nat
  frame : Frame
  handle : Handle
  firstSend : Nat
  lastSend : Nat
  queued : Bool
  deriving DecidableEq, Repr

/-- The test generator and checker (Section 5.7). -/
structure TestUnit where
  send : Pattern
  check : Pattern
  custom1 : BitVec 64
  custom2 : BitVec 64
  good : Nat
  mismatched : Nat
  counter : BitVec 32
  deriving DecidableEq, Repr

/-- The per-trunk statistics (R191). -/
structure TrunkStats where
  framesSent : BitVec 32
  framesReceived : BitVec 32
  entriesBegun : BitVec 32
  entriesAcked : BitVec 32
  duplicates : BitVec 32
  protocolRestarts : BitVec 32
  deriving DecidableEq, Repr

/-- A trunk port (Chapters 5, 6 and 7). Moments are in ns. position is the position of the next frame of the cycle; the
retransmit store is in frame-number order and its queued records are the resend queue (R124). -/
structure Port where
  state : TrunkState
  config : TrunkConfig
  staged : Option Paced
  cycleAt : Nat
  frameAt : Nat
  position : Nat
  cycleCounter : Nat
  rxPos : Nat
  lock : Lock
  filter : AlarmFilter
  lastCycle : Nat
  headCycles : Nat
  alignCycle : Nat
  alignDelay : Nat
  runCycle : Nat
  cycleService : Option ServiceFrame
  peerSeenRunning : Bool
  peerHears : Bool
  heard : Bool
  prevHead : Bool
  probeEntry : Nat
  lastProbe : Option Nat
  recorded : Option Stamp
  expressStart : Nat
  bulkStart : Nat
  nextFrame : Nat
  store : List SentFrame
  peerThrough : Option Nat
  peerThroughAt : Nat
  ackStart : Nat
  reorder : Table (List Byte)
  expectedFrame : Nat
  test : TestUnit
  stats : TrunkStats
  line : List Frame
  deriving DecidableEq, Repr

/-! ## Trunk supervisors -/

/-- The three error counters (R156). -/
structure Counters where
  frameCheck : Nat
  headError : Nat
  resend : Nat
  deriving DecidableEq, Repr

/-- The tally of a cycle period (R160). -/
structure Tally where
  arrivals : Nat
  invalid : Nat
  looped : Bool
  foreign : Bool
  peer : Bool
  deriving DecidableEq, Repr

/-- A record of the history (R162). -/
structure PeriodRec where
  signature : Signature
  looped : Bool
  foreign : Bool
  peer : Bool
  deriving DecidableEq, Repr

/-- A running timer: the moment it started and its length, in ns (R169, R170). -/
structure Timer where
  start : Nat
  length : Nat
  deriving DecidableEq, Repr

/-- A trunk supervisor (Chapter 8). requests are the identified signatures its trunk's state machine has not yet acted
on (R167, log 7). -/
structure Supervisor where
  counters : Counters
  tally : Tally
  history : List PeriodRec
  runSignature : Option Signature
  runLength : Nat
  latest : Option Signature
  lastIdentified : Option Signature
  faultCause : Option Signature
  resync : Option Timer
  stall : Option Timer
  requests : List Signature
  deriving DecidableEq, Repr

/-! ## Apply Unit -/

/-- The fields of a NOTICE piece as it carries them (Section 10.2.2); kind is the change kind code. -/
structure Notice where
  kind : Nat
  rebase : Bool
  bucket : Nat
  epoch : Nat
  seq : Nat
  bodyLength : Nat
  segments : Nat
  digest : Digest
  stamp : Stamp
  check : BitVec 64
  patches : List PatchWrite
  deriving DecidableEq, Repr

/-- A SEGMENT piece (Section 10.2.2); count is the byte count it carries. -/
structure Segment where
  bucket : Nat
  seq : Nat
  index : Nat
  count : Nat
  bytes : List Byte
  deriving DecidableEq, Repr

/-- What a CARRY payload holds (Section 10.2.2): a piece, or what R195 calls a STRAY-PIECE at once. -/
inductive Piece where
  | notice (n : Notice)
  | segment (g : Segment)
  | stray
  deriving DecidableEq, Repr

/-- An inbound entry (Table 7-3), with its bytes and running check (R79). -/
structure InEntry where
  notice : Notice
  received : Nat
  slots : Nat
  bytes : List Byte
  crc : BitVec 64
  mapped : Bool
  current : Bool
  deriving DecidableEq, Repr

/-- A duplicate entry whose segments are being passed over (Table 7-2). -/
structure Skip where
  seq : Nat
  segments : Nat
  passed : Nat
  deriving DecidableEq, Repr

/-- An inbound record (Table 7-2). -/
structure InRec where
  epoch : Option Nat
  expected : Nat
  applied : Nat
  reassembly : Option InEntry
  skip : Option Skip
  queue : List InEntry
  held : Bool
  ackOwed : Bool
  inFlight : Option Nat
  deriving DecidableEq, Repr

/-- An apply slot in use (Section 7.5). Its entry is the head of its record's apply queue, or, after a peer change took
the entry from its record (R154), the entry held here. -/
structure ApplySlot where
  tag : Nat
  trunk : Trunk
  bucket : Nat
  orphan : Option InEntry
  deriving DecidableEq, Repr

/-- The Apply Unit (Chapter 7). Records are keyed by 4,096 times the trunk number plus the bucket id; granted are the
records that have been handed a slot and have not yet gone forward with it (R145, log 17). -/
structure ApplyUnit where
  records : Table InRec
  slots : List ApplySlot
  waitList : List Nat
  granted : List Nat
  backlog : Nat
  deriving DecidableEq, Repr

/-! ## Site Link Interface -/

/-- The receive assembler (R178): IN-STEP or SEARCH, and the bytes collected that no record has taken. -/
structure Assembler where
  inStep : Bool
  buf : List Byte
  deriving DecidableEq, Repr

/-- The part-wide latches, or their mask bits (Table 9-3). -/
structure PartLatches where
  skew : Bool
  clockAhead : Bool
  parking : Bool
  applyHeld : Bool
  linkError : Bool
  mapBlocked : Bool
  deriving DecidableEq, Repr

/-- One trunk's latches, or their mask bits (Table 9-3). -/
structure TrunkLatches where
  unidentified : Bool
  identified : Bool
  remoteAlarm : Bool
  resync : Bool
  down : Bool
  faulted : Bool
  counterSat : Bool
  windowFull : Bool
  deriving DecidableEq, Repr

/-- The 38 latches, or the 38 bits of the report mask (Table 9-3). -/
structure LatchSet where
  part : PartLatches
  trunk : Quad TrunkLatches
  deriving DecidableEq, Repr

/-- A report (R185). -/
inductive Report where
  | partChange (l : PartLatch)
  | trunkChange (t : Trunk) (l : TrunkLatch)
  | counterSaturated (t : Trunk) (c : CounterName)
  | linkError (type : LinkErrorType)
  deriving DecidableEq, Repr

/-- A record the part puts on the site link (Section 9.1), less its two checks, which Layouts.lean computes. -/
structure LinkRecord where
  kind : Byte
  partTag : Bool
  reply : Bool
  tag : Nat
  result : Result
  body : List Byte
  deriving DecidableEq, Repr

/-- The part-wide statistics (R191). -/
structure PartStats where
  submits : BitVec 32
  supersedes : BitVec 32
  merges : BitVec 32
  parks : BitVec 32
  refills : BitVec 32
  lostBodies : BitVec 32
  voids : BitVec 32
  staleDiscards : BitVec 32
  uncheckedApplies : BitVec 32
  skewClamps : BitVec 32
  borrowAheads : BitVec 32
  badAcks : BitVec 32
  deriving DecidableEq, Repr

/-- The kinds of the part's own requests (R181). -/
inductive PartKind where
  | apply | bodyWanted
  deriving DecidableEq, Repr

/-- The Site Link Interface (Chapter 9). replies are the replies and BAD-CHECK records ready to leave (R184); sent is
what the part has put on the link, oldest first (log 5). -/
structure Sli where
  asm : Assembler
  tags : List (Nat × PartKind)
  latches : LatchSet
  mask : LatchSet
  reports : List Report
  replies : List LinkRecord
  partQueue : List LinkRecord
  sent : List LinkRecord
  stats : PartStats
  deriving DecidableEq, Repr

/-! ## The whole -/

/-- The state of the part. now is the model's own count of ns since power-on (log 1), freeCount its counter behind the
free values (logs 12, 41 and 46), pending the commands that wait, first in first out. -/
structure State where
  now : Nat
  clock : StampClock
  buckets : Table Bucket
  journal : Journal
  map : List ObjRec
  body : BodyStore
  ports : Quad Port
  sups : Quad Supervisor
  apply : ApplyUnit
  sli : Sli
  freeCount : Nat
  pending : List Instr
  deriving DecidableEq, Repr

/-- Why a step stops with a fault: never, so there is no constructor (no rule of the manual stops the part). Safe. -/
inductive Fault where
  deriving DecidableEq, Repr

/-- Why a step refuses. -/
inductive Refusal where
  /-- Raised by exec's arm of a command that has no meaning yet; no arm raises it. Safe. -/
  | notModelled (mnemonic : String)
  deriving DecidableEq, Repr

/-! ## Reset values -/

/-- The Stamp Clock at power-on reset (R34, R36 to R39). -/
def StampClock.reset : StampClock := ⟨false, 0, 0, 1000, none, none, 0, 0⟩

/-- A bucket record at power-on reset and PART restart (R1). -/
def Bucket.reset : Bucket := ⟨.absent, .all false, .express, 1, .all 0, .all false, false⟩

/-- The journal at power-on reset and PART restart (R32). -/
def Journal.reset : Journal := ⟨[], []⟩

/-- The Body Store at power-on reset and PART restart (R61). -/
def BodyStore.reset : BodyStore := ⟨0, 0, [], false, [], []⟩

/-- The staged fields' reset values (Table 5-3); BS and BE have none of their own (log 6). -/
def Paced.reset : Paced := ⟨1000, 1, 200000, ⟨0, 13, 0, 0, false⟩, false, 1, 1⟩

/-- A trunk's configuration at its reset values (Table 5-3). -/
def TrunkConfig.reset : TrunkConfig := ⟨none, 16, .reset, 0, 2000, 30, 250, false⟩

/-- The lock with everything clear or absent (Section 5.5.2). -/
def Lock.reset : Lock := ⟨false, none, none, 0, 0, false⟩

/-- The test unit at reset (R107); the patterns have no reset value of their own (log 6). -/
def TestUnit.reset : TestUnit := ⟨.zeros, .zeros, 0, 0, 0, 0, 0⟩

/-- The per-trunk statistics at reset. -/
def TrunkStats.reset : TrunkStats := ⟨0, 0, 0, 0, 0, 0⟩

/-- A trunk port at power-on reset (R107, R131, R132). -/
def Port.reset : Port where
  state := .off
  config := .reset
  staged := none
  cycleAt := 0
  frameAt := 0
  position := 0
  cycleCounter := 0
  rxPos := 0
  lock := .reset
  filter := ⟨false, 0⟩
  lastCycle := 0
  headCycles := 0
  alignCycle := 0
  alignDelay := 0
  runCycle := 0
  cycleService := none
  peerSeenRunning := false
  peerHears := false
  heard := false
  prevHead := false
  probeEntry := 0
  lastProbe := none
  recorded := none
  expressStart := 0
  bulkStart := 0
  nextFrame := 0
  store := []
  peerThrough := none
  peerThroughAt := 0
  ackStart := 0
  reorder := []
  expectedFrame := 0
  test := .reset
  stats := .reset
  line := []

/-- An empty tally (R160). -/
def Tally.empty : Tally := ⟨0, 0, false, false, false⟩

/-- A supervisor at power-on reset (R159, R176). -/
def Supervisor.reset : Supervisor := ⟨⟨0, 0, 0⟩, .empty, [], none, 0, none, none, none, none, none, []⟩

/-- An inbound record at power-on reset and PART restart (R135). -/
def InRec.reset : InRec := ⟨none, 0, 0, none, none, [], false, false, none⟩

/-- The Apply Unit at power-on reset and PART restart (R135). -/
def ApplyUnit.reset : ApplyUnit := ⟨[], [], [], [], 0⟩

/-- Every part-wide latch or mask bit clear. -/
def PartLatches.clear : PartLatches := ⟨false, false, false, false, false, false⟩

/-- Every latch or mask bit of a trunk clear. -/
def TrunkLatches.clear : TrunkLatches := ⟨false, false, false, false, false, false, false, false⟩

/-- Every latch or mask bit clear. -/
def LatchSet.clear : LatchSet := ⟨.clear, .all .clear⟩

/-- The part-wide statistics at reset (R191). -/
def PartStats.reset : PartStats := ⟨0, 0, 0, 0, 0, 0, 0, 0, 0, 0, 0, 0⟩

/-- The SLI at power-on reset (R193). -/
def Sli.reset : Sli := ⟨⟨false, []⟩, [], .clear, .clear, [], [], [], [], .reset⟩

/-- The part after power-on reset, with no command waiting. -/
def State.reset : State where
  now := 0
  clock := .reset
  buckets := []
  journal := .reset
  map := []
  body := .reset
  ports := .all .reset
  sups := .all .reset
  apply := .reset
  sli := .reset
  freeCount := 0
  pending := []

end Sys2Proof.Machine
end

