-- ==== Sys2Proof/Machine/Tables.lean ====
section
/-! DEFINITION. Sparse tables in canonical form, byte order and byte slices, free places. -/

namespace Sys2Proof.Machine

/-! ## Sparse tables -/

/-- What a key reads as: its entry, or the value d that unlisted keys read as. -/
def Table.get {α : Type} (d : α) (k : Nat) (t : Table α) : α := (t.lookup k).getD d

/-- Put an entry at its place in key order, replacing the one that stands there. -/
def Table.put {α : Type} (k : Nat) (v : α) : Table α → Table α
  | [] => [(k, v)]
  | (k', v') :: r =>
    if k < k' then (k, v) :: (k', v') :: r
    else if k = k' then (k, v) :: r
    else (k', v') :: Table.put k v r

/-- Take an entry out. -/
def Table.del {α : Type} (k : Nat) (t : Table α) : Table α := t.filter (fun e => e.1 != k)

/-- Write a key; the value d takes the entry out, so that equal tables are equal data. -/
def Table.set {α : Type} [DecidableEq α] (d : α) (k : Nat) (v : α) (t : Table α) : Table α :=
  if v = d then Table.del k t else Table.put k v t

/-- Change every entry whose key satisfies p. -/
def Table.mapOn {α : Type} [DecidableEq α] (d : α) (p : Nat → Bool) (g : α → α) (t : Table α) : Table α :=
  (t.map (fun e => if p e.1 then (e.1, g e.2) else e)).filter (fun e => decide (e.2 ≠ d))

/-- Keys strictly rising. -/
def Table.sorted {α : Type} : Table α → Bool
  | [] => true
  | e :: r => r.all (fun e' => e.1 < e'.1) && Table.sorted r

/-- The canonical form: keys strictly rising and no entry equal to what an unlisted key reads as. -/
def Table.wf {α : Type} [DecidableEq α] (d : α) (t : Table α) : Bool :=
  Table.sorted t && t.all (fun e => decide (e.2 ≠ d))

/-- The entries in cyclic key order from start: those at or above it, then those below it. -/
def Table.from {α : Type} (start : Nat) (t : Table α) : Table α :=
  t.filter (fun e => start ≤ e.1) ++ t.filter (fun e => e.1 < start)

/-! ## Free places -/

/-- The lowest number from lo on that is not in used. -/
def lowestFree (lo : Nat) (used : List Nat) : Nat :=
  ((List.range (used.length + 1)).map (lo + ·)).find? (fun n => !used.contains n) |>.getD lo

/-! ## Bytes, most significant first (0.6) -/

/-- The n low bytes of v, most significant byte first. -/
def beBytes : Nat → Nat → List Byte
  | 0, _ => []
  | n + 1, v => BitVec.ofNat 8 (v / 256 ^ n) :: beBytes n v

/-- The number that bytes spell, most significant byte first. -/
def beNat (bs : List Byte) : Nat := bs.foldl (fun a b => a * 256 + b.toNat) 0

/-- n bytes from an offset; bytes past the end read as 0 (padding is sent as 0, Section 10.2.2). -/
def slice (bs : List Byte) (off n : Nat) : List Byte := (bs.drop off ++ List.replicate n 0).take n

/-- The multi-byte field of n bytes at an offset. -/
def fieldAt (bs : List Byte) (off n : Nat) : Nat := beNat (slice bs off n)

/-- A bit of a number. -/
def bitOf (v i : Nat) : Bool := v.testBit i

/-- A number with the given low bits, bit 0 first. -/
def bitsToNat : List Bool → Nat
  | [] => 0
  | b :: r => (if b then 1 else 0) + 2 * bitsToNat r

end Sys2Proof.Machine
end

