-- ==== Sys2Proof/Machine/Checks.lean ====
section
/-! DEFINITION. The four check functions (Section 10.3, R62). -/

namespace Sys2Proof.Machine

/-- One step of a reflected register: shift right, combining the polynomial when the low bit was 1. -/
def crcStep {w : Nat} (poly reg : BitVec w) : BitVec w :=
  if reg.getLsbD 0 then (reg >>> 1) ^^^ poly else reg >>> 1

/-- One byte into a reflected register: exclusive-or into the low 8 bits, then eight steps. -/
def crcByte {w : Nat} (poly reg : BitVec w) (b : Byte) : BitVec w :=
  let r := reg ^^^ b.setWidth w
  crcStep poly (crcStep poly (crcStep poly (crcStep poly (crcStep poly (crcStep poly (crcStep poly (crcStep poly r)))))))

/-- Bytes folded in order into a reflected register. -/
def crcFold {w : Nat} (poly reg : BitVec w) (bs : List Byte) : BitVec w := bs.foldl (crcByte poly) reg

/-- One step of the header check's register: most significant bit first, no reflection. -/
def crc16Step (reg : BitVec 16) : BitVec 16 :=
  if reg.getLsbD 15 then (reg <<< 1) ^^^ 0x1021#16 else reg <<< 1

/-- One byte into the header check's register. -/
def crc16Byte (reg : BitVec 16) (b : Byte) : BitVec 16 :=
  let r := reg ^^^ (b.setWidth 16 <<< 8)
  crc16Step (crc16Step (crc16Step (crc16Step (crc16Step (crc16Step (crc16Step (crc16Step r)))))))

/-- The record header check: CRC-16, polynomial 1021h, initial value FFFFh (Section 9.1). -/
def headerCheck (bs : List Byte) : BitVec 16 := bs.foldl crc16Byte 0xFFFF#16

/-- The record body check: CRC-32, reflected polynomial 82F63B78h (Section 9.1). -/
def bodyCheck (bs : List Byte) : BitVec 32 := crcFold 0x82F63B78#32 0xFFFFFFFF#32 bs ^^^ 0xFFFFFFFF#32

/-- The frame check: CRC-32, reflected polynomial EDB88320h (Section 10.2). -/
def frameCheck (bs : List Byte) : BitVec 32 := crcFold 0xEDB88320#32 0xFFFFFFFF#32 bs ^^^ 0xFFFFFFFF#32

/-- The starting value of a photo body's running check (R62). -/
def photoStart : BitVec 64 := 0xFFFFFFFFFFFFFFFF#64

/-- Bytes folded into a photo body's running check (R62). -/
def photoFold (reg : BitVec 64) (bs : List Byte) : BitVec 64 := crcFold 0xB4E5A3D2C1F08967#64 reg bs

/-- The finished check of a running check (R62). -/
def photoFinish (reg : BitVec 64) : BitVec 64 := reg ^^^ 0xFFFFFFFFFFFFFFFF#64

/-- The 64-bit check of a photo body (R62). -/
def photoCheck (bs : List Byte) : BitVec 64 := photoFinish (photoFold photoStart bs)

end Sys2Proof.Machine
end

