-- ==== Sys2Proof/Machine/Budget.lean ====
section
/-! DEFINITION. The cycle budget: frame period, window and retransmission timeout, band plans and echo (Sections 6.1 and 6.2). -/

namespace Sys2Proof.Machine

/-- Frame period P in ns (R108). -/
def framePeriodOf (lineRate divider : Nat) : Nat := ceilDiv (65536000 * divider) lineRate

/-- The window before its clamp (R109). -/
def rawWindow (rtt p k : Nat) : Nat := ceilDiv (rtt * 1000) p + k

/-- The window W in frames: clamped to 2K to 32,768 (R109). -/
def windowOf (rtt p k : Nat) : Nat := min (max (rawWindow rtt p k) (2 * k)) Config.storeFrames

/-- The retransmission timeout in µs (R110). -/
def rtoOf (rtt p k : Nat) : Nat := ceilDiv (rtt * 5) 4 + ceilDiv (2 * k * p) 1000

/-- P for paced fields. -/
def Paced.period (c : Paced) : Nat := framePeriodOf c.lineRate c.divider

/-- W for paced fields and K. -/
def Paced.window (c : Paced) (k : Nat) : Nat := windowOf c.rtt c.period k

/-- Whether the clamp of R109 acts on W. -/
def Paced.windowClamped (c : Paced) (k : Nat) : Bool := c.window k != rawWindow c.rtt c.period k

/-- RTO in µs for paced fields and K. -/
def Paced.rto (c : Paced) (k : Nat) : Nat := rtoOf c.rtt c.period k

/-- P in force on a trunk. -/
def Port.period (p : Port) : Nat := p.config.paced.period

/-- The cycle period K × P in force, in ns (R108). -/
def Port.cyclePeriod (p : Port) : Nat := p.config.k * p.period

/-- W in force. -/
def Port.window (p : Port) : Nat := p.config.paced.window p.config.k

/-- RTO in force, in ns. -/
def Port.rtoNs (p : Port) : Nat := p.config.paced.rto p.config.k * 1000

/-- In-flight: the records of the retransmit store (R123). -/
def Port.inFlight (p : Port) : Nat := p.store.length

/-- Table 6-2. -/
def Plan.fits (p : Plan) (k : Nat) : Bool :=
  if p.bulk then p.xs ≤ p.xe && p.xe < p.bs && p.bs ≤ p.be && p.be + 3 ≤ k
  else p.xs ≤ p.xe && p.xe + 3 ≤ k

/-- The role of a data slot: its own class, or none for an idle slot (R113). -/
def Plan.role (p : Plan) (slot : Nat) : Option Band :=
  if p.xs ≤ slot ∧ slot ≤ p.xe then some .express
  else if p.bulk = true ∧ p.bs ≤ slot ∧ slot ≤ p.be then some .bulk
  else none

/-- Whether the cycle is an echo cycle (R114). -/
def Port.echoCycle (p : Port) : Bool :=
  p.config.paced.echo && p.runCycle % (p.config.paced.echoM * p.config.paced.echoN) == 0

end Sys2Proof.Machine
end

