-- ==== Sys2Proof/Machine/Layouts.lean ====
section
/-! DEFINITION. Codes, stamps, handles, and the byte layouts of records, frames and pieces (Chapter 10). -/

namespace Sys2Proof.Machine

/-! ## Codes (Tables 10-2, 10-11, 10-12) -/

/-- Table 10-12. -/
def Result.code : Result → Nat
  | .ok => 0x00
  | .clamped => 0x01
  | .notReady => 0x02
  | .noBucket => 0x03
  | .draining => 0x04
  | .full => 0x05
  | .bodyFull => 0x06
  | .mapFull => 0x07
  | .tooLarge => 0x08
  | .badPatch => 0x09
  | .dropped => 0x0A
  | .noEntry => 0x0B
  | .outOfOrder => 0x0C
  | .badPlan => 0x0D
  | .wrongState => 0x0E
  | .faultPersists => 0x0F
  | .badArgument => 0x10
  | .badCheck => 0x11
  | .unknownKind => 0x12
  | .clockExhausted => 0x13
  | .failed => 0x20
  | .gone => 0x21

/-- Bucket state codes (Table 10-11). -/
def BucketState.code : BucketState → Nat
  | .absent => 0
  | .active => 1
  | .paused => 2
  | .draining => 3

/-- Band codes (Table 10-11). -/
def Band.code : Band → Nat
  | .express => 0
  | .bulk => 1

/-- Body state codes (Table 10-11). -/
def BodyState.code : BodyState → Nat
  | .filling => 1
  | .ready => 2
  | .parked => 3
  | .refilling => 4

/-- Trunk state codes (Table 10-11). -/
def TrunkState.code : TrunkState → Nat
  | .off => 0
  | .test => 1
  | .hunt => 2
  | .align => 3
  | .running => 4
  | .resync => 5
  | .down => 6
  | .faulted => 7

/-- Signature and fault cause codes; 0 is none (Table 10-11). -/
def signatureCode : Option Signature → Nat
  | none => 0
  | some .silent => 1
  | some .looped => 2
  | some .foreign => 3
  | some .garbled => 4
  | some .stalled => 5
  | some .clean => 6

/-- Test patterns by code (Table 10-11). -/
def Pattern.ofCode? : Nat → Option Pattern
  | 0 => some .zeros
  | 1 => some .ones
  | 2 => some .alternate
  | 3 => some .ramp
  | 4 => some .custom
  | 5 => some .customPair
  | _ => none

/-- Change kind codes (Table 10-11). -/
def Change.code : Change → Nat
  | .body _ _ _ _ => 1
  | .patch _ => 2
  | .drop => 3
  | .void => 4

/-- Latch numbers of the part-wide latches (Table 10-8). -/
def PartLatch.number : PartLatch → Nat
  | .skew => 0
  | .clockAhead => 1
  | .parking => 2
  | .applyHeld => 3
  | .linkError => 4
  | .mapBlocked => 5

/-- j of a per-trunk latch (Table 10-8). -/
def TrunkLatch.offset : TrunkLatch → Nat
  | .unidentified => 0
  | .identified => 1
  | .remoteAlarm => 2
  | .resync => 3
  | .down => 4
  | .faulted => 5
  | .counterSat => 6
  | .windowFull => 7

/-- Latch number of a per-trunk latch (Table 10-8). -/
def TrunkLatch.number (t : Trunk) (l : TrunkLatch) : Nat := 6 + 8 * t.index + l.offset

/-- Counter numbers (Table 10-7). -/
def CounterName.code : CounterName → Nat
  | .frameCheck => 0
  | .headError => 1
  | .resend => 2

/-- LINK-ERROR types (Table 10-7). -/
def LinkErrorType.code : LinkErrorType → Nat
  | .header => 1
  | .bodyCheck => 2
  | .partTag => 3

/-- Record kind codes (Table 10-2). -/
def kindSetClock : Byte := 0x01#8
def kindSetSite : Byte := 0x02#8
def kindBucketSet : Byte := 0x03#8
def kindBucketQuery : Byte := 0x04#8
def kindSubmit : Byte := 0x05#8
def kindChunk : Byte := 0x06#8
def kindTrunkSet : Byte := 0x07#8
def kindTrunkEnable : Byte := 0x08#8
def kindTrunkDisable : Byte := 0x09#8
def kindTrunkTest : Byte := 0x0A#8
def kindTrunkClear : Byte := 0x0B#8
def kindTrunkRestart : Byte := 0x0C#8
def kindTrunkQuery : Byte := 0x0D#8
def kindStatusRead : Byte := 0x0E#8
def kindStatusPeek : Byte := 0x0F#8
def kindCounterRead : Byte := 0x10#8
def kindCounterWrite : Byte := 0x11#8
def kindStatsRead : Byte := 0x12#8
def kindReportMask : Byte := 0x13#8
def kindApplyResume : Byte := 0x14#8
def kindRestart : Byte := 0x15#8
def kindApply : Byte := 0x40#8
def kindBodyWanted : Byte := 0x41#8
def kindBodyOut : Byte := 0x42#8
def kindStatusChange : Byte := 0x60#8
def kindCounterSaturated : Byte := 0x61#8
def kindLinkError : Byte := 0x62#8

/-! ## Stamps and handles -/

/-- A stamp's packed value (R33). -/
def packStamp (time counter site : Nat) : Stamp := BitVec.ofNat 64 (time * 2 ^ 22 + counter * 2 ^ 6 + site)

/-- A stamp's time (R33). -/
def stampTime (s : Stamp) : Nat := s.toNat / 2 ^ 22

/-- A stamp's counter (R33). -/
def stampCounter (s : Stamp) : Nat := s.toNat / 2 ^ 6 % 2 ^ 16

/-- A stamp's site (R33). -/
def stampSite (s : Stamp) : Nat := s.toNat % 2 ^ 6

/-- A handle's 32-bit value (R13). -/
def Handle.value (h : Handle) : Nat := h.index * 65536 + h.gen

/-- The handle of a 32-bit value (R13). -/
def Handle.ofValue (v : Nat) : Handle := ⟨v / 65536, v % 65536⟩

/-- The handle that names no entry (R13). -/
def Handle.none : Handle := ⟨0, 0⟩

/-- A trunk set as bits: bit n is Tn (Table 10-9). -/
def targetBits (q : Quad Bool) : Nat := bitsToNat q.toList

/-- The trunk set of bits (Table 10-9); bits 4 to 7 are not read. -/
def targetsOf (v : Nat) : Quad Bool := ⟨bitOf v 0, bitOf v 1, bitOf v 2, bitOf v 3⟩

/-- A Bool as a one-byte or four-byte field. -/
def flag (b : Bool) : Nat := if b then 1 else 0

/-! ## Patch writes -/

/-- Patch writes as bytes (Table 10-3). -/
def patchBytes (ps : List PatchWrite) : List Byte :=
  ps.flatMap fun p => BitVec.ofNat 8 p.field :: BitVec.ofNat 8 p.value.length :: p.value

/-- count patch writes read from an offset by their value lengths, and the offset after them; none when a write would
reach past the limit (R194, R195). -/
def parsePatches (bs : List Byte) (limit : Nat) : Nat → Nat → Option (List PatchWrite × Nat)
  | 0, off => some ([], off)
  | n + 1, off =>
    if off + 2 ≤ limit ∧ off + 2 + fieldAt bs (off + 1) 1 ≤ limit then
      (parsePatches bs limit n (off + 2 + fieldAt bs (off + 1) 1)).map fun r =>
        (⟨fieldAt bs off 1, slice bs (off + 2) (fieldAt bs (off + 1) 1)⟩ :: r.1, r.2)
    else none

/-- The limits of step 4 of R16 on a patch list: one write per field number, field numbers to 31, values to 48 bytes,
32 writes. -/
def patchesOk (ps : List PatchWrite) : Bool :=
  decide (ps.map (·.field)).Nodup && ps.all (fun p => p.field ≤ 31 && p.value.length ≤ 48) && ps.length ≤ 32

/-! ## Site link records (Section 10.1) -/

/-- The header's flags byte (Table 10-1). -/
def LinkRecord.flags (r : LinkRecord) : Nat := flag r.partTag + 2 * flag r.reply

/-- Offsets 0 to 9 of a header (Table 10-1). -/
def headerLead (kind : Byte) (flags tag result length : Nat) : List Byte :=
  beBytes 2 Config.marker ++ [kind, BitVec.ofNat 8 flags] ++ beBytes 2 tag ++ beBytes 2 result ++ beBytes 2 length

/-- A whole header: the check covers offsets 0 to 9 and 12 to 15 (Table 10-1). -/
def headerBytes (kind : Byte) (flags tag result length : Nat) : List Byte :=
  let lead := headerLead kind flags tag result length
  let tail : List Byte := beBytes 4 0
  lead ++ beBytes 2 (headerCheck (lead ++ tail)).toNat ++ tail

/-- The bytes of a record on the site link: header, body, body check (Section 9.1). -/
def LinkRecord.toBytes (r : LinkRecord) : List Byte :=
  headerBytes r.kind r.flags r.tag r.result.code r.body.length ++ r.body ++ beBytes 4 (bodyCheck r.body).toNat

/-- A header as the assembler tests it: marker, header check, and a body length of at most 65,520 (R178). -/
def headerOk (h : List Byte) : Bool :=
  fieldAt h 0 2 == Config.marker
    && fieldAt h 10 2 == (headerCheck (slice h 0 10 ++ slice h 12 4)).toNat
    && fieldAt h 8 2 ≤ Config.recordBody

/-- The body of a report (Table 10-7). -/
def Report.body : Report → List Byte
  | .partChange l => [BitVec.ofNat 8 l.number, 0xFF#8, 0#8, 0#8]
  | .trunkChange t l => [BitVec.ofNat 8 (l.number t), BitVec.ofNat 8 t.index, 0#8, 0#8]
  | .counterSaturated t c => [BitVec.ofNat 8 t.index, BitVec.ofNat 8 c.code, 0#8, 0#8]
  | .linkError e => [BitVec.ofNat 8 e.code, 0#8, 0#8, 0#8]

/-- The kind of a report (Table 10-2). -/
def Report.kind : Report → Byte
  | .partChange _ => kindStatusChange
  | .trunkChange _ _ => kindStatusChange
  | .counterSaturated _ _ => kindCounterSaturated
  | .linkError _ => kindLinkError

/-- A report as a record: PART-TAG set, tag 0, result 0 (R177, R185). -/
def Report.record (r : Report) : LinkRecord := ⟨r.kind, true, false, 0, .ok, r.body⟩

/-! ## Trunk frames (Section 10.2) -/

/-- Frame kind codes (Table 10-10). -/
def frameHead : Nat := 1
def frameService : Nat := 2
def frameCarry : Nat := 3
def frameFill : Nat := 4
def frameProbe : Nat := 5
def frameTest : Nat := 6

/-- A frame of a kind with every other field clear. DESIGN CHOICE (log 47, unsafe): a header field that Table 10-10 does not
assign to a frame's kind, and a flag bit that the kind does not use, leave as 0; R195 says only that a receiver ignores
them. -/
def Frame.blank (kind : Nat) : Frame :=
  ⟨kind, false, false, false, false, false, 0, 0, 0#32, 0#64, 0, 0, 0#32, []⟩

/-- The header's flags byte (Table 10-10). -/
def Frame.flags (f : Frame) : Nat := bitsToNat [f.ready, f.locked, f.alarm, f.heard, f.echo]

/-- The 28-byte header (Table 10-10); its reserved byte leaves as 0 (DESIGN CHOICE, log 47, unsafe). -/
def Frame.header (f : Frame) : List Byte :=
  beBytes 1 f.kind ++ beBytes 1 f.flags ++ beBytes 1 f.site ++ beBytes 1 f.k ++ beBytes 4 f.align.toNat
    ++ beBytes 8 f.incarnation.toNat ++ beBytes 6 f.number ++ beBytes 1 f.cycle ++ beBytes 1 0 ++ beBytes 4 f.counter.toNat

/-- The header and the payload, padded with zeros to 8,160 bytes: what the frame check covers. -/
def Frame.checked (f : Frame) : List Byte := f.header ++ slice f.payload 0 Config.payloadBytes

/-- The 8,192 bytes of a frame on the line (Section 10.2). -/
def Frame.toBytes (f : Frame) : List Byte := f.checked ++ beBytes 4 (frameCheck f.checked).toNat

/-- Marks packed eight to a byte, mark i at bit 7 - (i mod 8) (Section 10.2.1). -/
def packMarks : Nat → List Bool → List Byte
  | 0, _ => []
  | n + 1, ms => BitVec.ofNat 8 (bitsToNat ((ms ++ List.replicate 8 false).take 8).reverse) :: packMarks n (ms.drop 8)

/-- The marks of packed bytes (Section 10.2.1). -/
def unpackMarks (bs : List Byte) : List Bool :=
  bs.flatMap fun b => [b.getLsbD 7, b.getLsbD 6, b.getLsbD 5, b.getLsbD 4, b.getLsbD 3, b.getLsbD 2, b.getLsbD 1, b.getLsbD 0]

/-- A received-through number as its field: FFFFFFFFFFFFh for none (Section 10.2.1). -/
def throughField (r : Option Nat) : Nat := r.getD Config.noFrame

/-- An entry acknowledgement's eight bytes (Section 10.2.1). -/
def EntryAck.toBytes (a : EntryAck) : List Byte := beBytes 2 a.bucket ++ beBytes 2 a.epoch ++ beBytes 4 a.seq

/-- A SERVICE payload (Section 10.2.1); its reserved fields, and the bytes behind its last acknowledgement, leave as 0
(DESIGN CHOICE, log 47, unsafe). -/
def servicePayload (f : ServiceFrame) : List Byte :=
  beBytes 6 (throughField f.through) ++ beBytes 2 0 ++ packMarks 32 f.marks ++ beBytes 2 f.acks.length ++ beBytes 6 0
    ++ f.acks.flatMap EntryAck.toBytes

/-- Entry acknowledgements read from an offset (Section 10.2.1). -/
def parseAcks (bs : List Byte) : Nat → Nat → List EntryAck
  | 0, _ => []
  | n + 1, off => ⟨fieldAt bs off 2, fieldAt bs (off + 2) 2, fieldAt bs (off + 4) 4⟩ :: parseAcks bs n (off + 8)

/-- A SERVICE payload read (Section 10.2.1). -/
def parseService (bs : List Byte) : ServiceFrame :=
  ⟨if fieldAt bs 0 6 = Config.noFrame then none else some (fieldAt bs 0 6), unpackMarks (slice bs 8 32),
    parseAcks bs (fieldAt bs 40 2) 48⟩

/-- A NOTICE as CARRY payload (Section 10.2.2); flag bits 1 to 7 leave as 0 (DESIGN CHOICE, log 47, unsafe). -/
def noticePayload (n : Notice) : List Byte :=
  beBytes 1 1 ++ beBytes 1 n.kind ++ beBytes 1 (flag n.rebase) ++ beBytes 1 n.patches.length ++ beBytes 2 n.bucket
    ++ beBytes 2 n.epoch ++ beBytes 4 n.seq ++ beBytes 4 n.bodyLength ++ beBytes 4 n.segments ++ beBytes 16 n.digest.toNat
    ++ beBytes 8 n.stamp.toNat ++ beBytes 8 n.check.toNat ++ patchBytes n.patches

/-- A SEGMENT as CARRY payload (Section 10.2.2); its reserved fields leave as 0 (DESIGN CHOICE, log 47, unsafe). -/
def segmentPayload (g : Segment) : List Byte :=
  beBytes 1 2 ++ beBytes 1 0 ++ beBytes 2 g.bucket ++ beBytes 4 g.seq ++ beBytes 4 g.index ++ beBytes 2 g.count
    ++ beBytes 2 0 ++ g.bytes

/-- The piece of a CARRY payload (Section 10.2.2, R195): an unknown piece type, and a NOTICE whose patch writes would
reach past the payload, are stray. -/
def parsePiece (bs : List Byte) : Piece :=
  if fieldAt bs 0 1 = 1 then
    match parsePatches bs Config.payloadBytes (fieldAt bs 3 1) 52 with
    | none => .stray
    | some (ps, _) =>
      .notice ⟨fieldAt bs 1 1, bitOf (fieldAt bs 2 1) 0, fieldAt bs 4 2, fieldAt bs 6 2, fieldAt bs 8 4, fieldAt bs 12 4,
        fieldAt bs 16 4, BitVec.ofNat 128 (fieldAt bs 20 16), BitVec.ofNat 64 (fieldAt bs 36 8),
        BitVec.ofNat 64 (fieldAt bs 44 8), ps⟩
  else if fieldAt bs 0 1 = 2 then
    .segment ⟨fieldAt bs 2 2, fieldAt bs 4 4, fieldAt bs 8 4, fieldAt bs 12 2,
      if fieldAt bs 12 2 ≤ Config.segBytes then slice bs 16 (fieldAt bs 12 2) else []⟩
  else .stray

/-! ## What arrives, as commands -/

/-- The command that the 8,192 bytes of an arriving frame are (R82, R195): a frame whose check fails, whose kind is
unknown, or a SERVICE frame of more than 1,000 acknowledgements is an invalid one. -/
def frameCommand (t : Trunk) (bs : List Byte) : Instr :=
  let h := slice bs 0 28
  let payload := slice bs 28 Config.payloadBytes
  let flags := fieldAt h 1 1
  if fieldAt bs 8188 4 ≠ (frameCheck (slice bs 0 8188)).toNat then .invalidFrameReceived t
  else if fieldAt h 0 1 = frameHead then
    .headReceived t ⟨BitVec.ofNat 8 (fieldAt h 2 1), BitVec.ofNat 8 (fieldAt h 3 1), BitVec.ofNat 32 (fieldAt h 4 4),
      BitVec.ofNat 64 (fieldAt h 8 8), BitVec.ofNat 8 (fieldAt h 22 1), bitOf flags 0, bitOf flags 1, bitOf flags 2⟩
  else if fieldAt h 0 1 = frameService then
    if fieldAt payload 40 2 ≤ Config.acksPerFrame then .serviceReceived t (parseService payload)
    else .invalidFrameReceived t
  else if fieldAt h 0 1 = frameCarry then .carryReceived t (fieldAt h 16 6) payload
  else if fieldAt h 0 1 = frameFill then
    .fillReceived t ⟨BitVec.ofNat 8 (fieldAt h 2 1), BitVec.ofNat 64 (fieldAt h 8 8), bitOf flags 0⟩
  else if fieldAt h 0 1 = frameProbe then
    .probeReceived t ⟨BitVec.ofNat 8 (fieldAt h 2 1), BitVec.ofNat 64 (fieldAt h 8 8), bitOf flags 3⟩
  else if fieldAt h 0 1 = frameTest then .testFrameReceived t (BitVec.ofNat 32 (fieldAt h 24 4)) payload
  else .invalidFrameReceived t

/-- The host request of a kind code (Table 10-2); any other code is an unknown kind (R194). -/
def requestCommand (kind : Byte) (w : Wire) : Instr :=
  if kind = kindSetClock then .setClock w
  else if kind = kindSetSite then .setSite w
  else if kind = kindBucketSet then .bucketSet w
  else if kind = kindBucketQuery then .bucketQuery w
  else if kind = kindSubmit then .submit w
  else if kind = kindChunk then .chunk w
  else if kind = kindTrunkSet then .trunkSet w
  else if kind = kindTrunkEnable then .trunkEnable w
  else if kind = kindTrunkDisable then .trunkDisable w
  else if kind = kindTrunkTest then .trunkTest w
  else if kind = kindTrunkClear then .trunkClear w
  else if kind = kindTrunkRestart then .trunkRestart w
  else if kind = kindTrunkQuery then .trunkQuery w
  else if kind = kindStatusRead then .statusRead w
  else if kind = kindStatusPeek then .statusPeek w
  else if kind = kindCounterRead then .counterRead w
  else if kind = kindCounterWrite then .counterWrite w
  else if kind = kindStatsRead then .statsRead w
  else if kind = kindReportMask then .reportMask w
  else if kind = kindApplyResume then .applyResume w
  else if kind = kindRestart then .restart w
  else .unknownKindRequest kind w

/-- The command that a record taken from the stream is: its 16-byte header, which the assembler has accepted, its body
and its body check, by role (Table 9-1). A host reply is an APPLY reply unless its tag is one of BODY-WANTED's. -/
def recordCommand (header body check : List Byte) : Instr :=
  let kind := BitVec.ofNat 8 (fieldAt header 2 1)
  let flags := fieldAt header 3 1
  let w : Wire := ⟨BitVec.ofNat 16 (fieldAt header 4 2), body, BitVec.ofNat 32 (beNat check)⟩
  let result := BitVec.ofNat 16 (fieldAt header 6 2)
  match bitOf flags 0, bitOf flags 1 with
  | false, false => requestCommand kind w
  | false, true => .roleFaultRecord .replyToHost w
  | true, false => .roleFaultRecord .partRequest w
  | true, true =>
    if Config.firstRefillTag ≤ w.tag.toNat ∧ w.tag.toNat < Config.firstRefillTag + Config.refillRecords then
      .bodyWantedReply kind result w
    else .applyReply kind result w

end Sys2Proof.Machine
end

