-- ==== Sys2Proof/Machine/Operands.lean ====
section
/-! DEFINITION. The operand forms: the body of each host request read by its layout, and the length test (Tables 10-3, 10-5, 10-9, R194). -/

namespace Sys2Proof.Machine

/-- The length test of a request of one size (R194). -/
def fitsSize (n : Nat) (body : List Byte) : Bool := body.length == n

/-- SET-CLOCK (Table 10-9). -/
structure ClockReq where
  time : Nat
  skew : Nat
  deriving DecidableEq, Repr

def parseClock (b : List Byte) : ClockReq := ⟨fieldAt b 0 8, fieldAt b 8 4⟩

/-- BUCKET-SET (Table 10-9): the state and band as their codes. -/
structure BucketReq where
  bucket : Nat
  state : Nat
  targets : Quad Bool
  band : Nat
  deriving DecidableEq, Repr

def parseBucket (b : List Byte) : BucketReq := ⟨fieldAt b 0 2, fieldAt b 2 1, targetsOf (fieldAt b 3 1), fieldAt b 4 1⟩

/-- SUBMIT (Table 10-3): the kind as its code. -/
structure SubmitReq where
  bucket : Nat
  kind : Nat
  length : Nat
  digest : Digest
  check : BitVec 64
  ref : BitVec 64
  patches : List PatchWrite
  deriving DecidableEq, Repr

/-- The patch writes of a SUBMIT body and the offset after them (R194). -/
def submitPatches (b : List Byte) : Option (List PatchWrite × Nat) := parsePatches b b.length (fieldAt b 3 1) 40

/-- The length of a SUBMIT body equals 40 plus its writes, none of which reaches past the end (R194). -/
def fitsSubmit (b : List Byte) : Bool :=
  match submitPatches b with
  | none => false
  | some r => r.2 == b.length

def parseSubmit (b : List Byte) : SubmitReq :=
  ⟨fieldAt b 0 2, fieldAt b 2 1, fieldAt b 4 4, BitVec.ofNat 128 (fieldAt b 8 16), BitVec.ofNat 64 (fieldAt b 24 8),
    BitVec.ofNat 64 (fieldAt b 32 8), ((submitPatches b).map (·.1)).getD []⟩

/-- CHUNK (Table 10-5). -/
structure ChunkReq where
  handle : Handle
  offset : Nat
  data : List Byte
  deriving DecidableEq, Repr

/-- A CHUNK body is 8 to 65,520 bytes (R194). -/
def fitsChunk (b : List Byte) : Bool := 8 ≤ b.length && b.length ≤ Config.recordBody

def parseChunk (b : List Byte) : ChunkReq := ⟨Handle.ofValue (fieldAt b 0 4), fieldAt b 4 4, b.drop 8⟩

/-- TRUNK-SET: the configuration block as carried (Section 10.1.3). -/
structure ConfigReq where
  trunk : Nat
  peer : Nat
  k : Nat
  divider : Nat
  lineRate : Nat
  rtt : Nat
  xs : Nat
  xe : Nat
  bs : Nat
  be : Nat
  bulk : Bool
  echo : Bool
  identify : Bool
  m : Nat
  n : Nat
  alignDelay : Nat
  probePeriod : Nat
  resyncTimeout : Nat
  stallTime : Nat
  deriving DecidableEq, Repr

def parseConfig (b : List Byte) : ConfigReq where
  trunk := fieldAt b 0 1
  peer := fieldAt b 1 1
  k := fieldAt b 2 1
  divider := fieldAt b 3 1
  lineRate := fieldAt b 4 4
  rtt := fieldAt b 8 4
  xs := fieldAt b 12 1
  xe := fieldAt b 13 1
  bs := fieldAt b 14 1
  be := fieldAt b 15 1
  bulk := bitOf (fieldAt b 16 1) 0
  echo := bitOf (fieldAt b 16 1) 1
  identify := bitOf (fieldAt b 16 1) 2
  m := fieldAt b 17 1
  n := fieldAt b 18 1
  alignDelay := fieldAt b 19 1
  probePeriod := fieldAt b 20 2
  resyncTimeout := fieldAt b 22 2
  stallTime := fieldAt b 24 2

/-- A configuration as the block of TRUNK-SET and TRUNK-QUERY (Section 10.1.3). -/
def configBlock (t : Trunk) (c : TrunkConfig) : List Byte :=
  beBytes 1 t.index ++ beBytes 1 (c.peer.getD 255) ++ beBytes 1 c.k ++ beBytes 1 c.paced.divider
    ++ beBytes 4 c.paced.lineRate ++ beBytes 4 c.paced.rtt
    ++ beBytes 1 c.paced.plan.xs ++ beBytes 1 c.paced.plan.xe ++ beBytes 1 c.paced.plan.bs ++ beBytes 1 c.paced.plan.be
    ++ beBytes 1 (bitsToNat [c.paced.plan.bulk, c.paced.echo, c.identifyPolicy])
    ++ beBytes 1 c.paced.echoM ++ beBytes 1 c.paced.echoN ++ beBytes 1 c.alignDelay ++ beBytes 2 c.probePeriod
    ++ beBytes 2 c.resyncTimeout ++ beBytes 2 c.stallTime ++ beBytes 2 0

/-- TRUNK-TEST (Table 10-9): the patterns as their codes. -/
structure TestReq where
  trunk : Nat
  send : Nat
  check : Nat
  custom1 : BitVec 64
  custom2 : BitVec 64
  deriving DecidableEq, Repr

def parseTest (b : List Byte) : TestReq :=
  ⟨fieldAt b 0 1, fieldAt b 1 1, fieldAt b 2 1, BitVec.ofNat 64 (fieldAt b 4 8), BitVec.ofNat 64 (fieldAt b 12 8)⟩

/-- COUNTER-WRITE (Table 10-9). -/
structure CounterReq where
  trunk : Nat
  writeFrameCheck : Bool
  writeHeadError : Bool
  writeResend : Bool
  frameCheck : Nat
  headError : Nat
  resend : Nat
  deriving DecidableEq, Repr

def parseCounter (b : List Byte) : CounterReq :=
  ⟨fieldAt b 0 1, bitOf (fieldAt b 1 1) 0, bitOf (fieldAt b 1 1) 1, bitOf (fieldAt b 1 1) 2, fieldAt b 4 2, fieldAt b 6 2,
    fieldAt b 8 2⟩

/-- APPLY-RESUME (Table 10-9). -/
structure ResumeReq where
  trunk : Nat
  bucket : Nat
  deriving DecidableEq, Repr

def parseResume (b : List Byte) : ResumeReq := ⟨fieldAt b 0 1, fieldAt b 2 2⟩

/-- The trunk number, site id or scope byte with which a request body begins (Table 10-9). -/
def parseFirst (b : List Byte) : Nat := fieldAt b 0 1

/-- The report mask of a REPORT-MASK body: bit i is latch i, bits 38 to 63 are not read (Table 10-8). -/
def parseMask (b : List Byte) : LatchSet :=
  let v := fieldAt b 0 8
  let trunk := fun t : Trunk =>
    (⟨bitOf v (6 + 8 * t.index), bitOf v (7 + 8 * t.index), bitOf v (8 + 8 * t.index), bitOf v (9 + 8 * t.index),
      bitOf v (10 + 8 * t.index), bitOf v (11 + 8 * t.index), bitOf v (12 + 8 * t.index), bitOf v (13 + 8 * t.index)⟩ :
      TrunkLatches)
  ⟨⟨bitOf v 0, bitOf v 1, bitOf v 2, bitOf v 3, bitOf v 4, bitOf v 5⟩, ⟨trunk .t0, trunk .t1, trunk .t2, trunk .t3⟩⟩

/-- The bits of a latch set in latch number order (Table 10-8). -/
def LatchSet.bits (s : LatchSet) : List Bool :=
  [s.part.skew, s.part.clockAhead, s.part.parking, s.part.applyHeld, s.part.linkError, s.part.mapBlocked]
    ++ s.trunk.toList.flatMap fun l =>
      [l.unidentified, l.identified, l.remoteAlarm, l.resync, l.down, l.faulted, l.counterSat, l.windowFull]

/-- The 64-bit latch vector or mask (Table 10-8). -/
def LatchSet.vector (s : LatchSet) : Nat := bitsToNat s.bits

end Sys2Proof.Machine
end

