-- ==== Sys2Proof/Machine/Flags.lean ====
section
/-! DEFINITION. State updates by block, latches and their standing conditions, reports, error counters (Sections 8.1, 9.3 and 9.4). -/

namespace Sys2Proof.Machine

/-! ## Updates by block -/

/-- A trunk's port. -/
def State.port (s : State) (t : Trunk) : Port := s.ports.get t

/-- A trunk's supervisor. -/
def State.sup (s : State) (t : Trunk) : Supervisor := s.sups.get t

/-- Replace a trunk's port. -/
def State.setPort (s : State) (t : Trunk) (p : Port) : State := { s with ports := s.ports.set t p }

/-- Replace a trunk's supervisor. -/
def State.setSup (s : State) (t : Trunk) (p : Supervisor) : State := { s with sups := s.sups.set t p }

/-- Replace the SLI. -/
def State.setSli (s : State) (x : Sli) : State := { s with sli := x }

/-- Replace the Stamp Clock. -/
def State.setClock (s : State) (x : StampClock) : State := { s with clock := x }

/-- Replace the bucket table. -/
def State.setBuckets (s : State) (x : Table Bucket) : State := { s with buckets := x }

/-- Replace the journal. -/
def State.setJournal (s : State) (x : Journal) : State := { s with journal := x }

/-- Replace the object map. -/
def State.setMap (s : State) (x : List ObjRec) : State := { s with map := x }

/-- Replace the Body Store. -/
def State.setBody (s : State) (x : BodyStore) : State := { s with body := x }

/-- Replace the Apply Unit. -/
def State.setApply (s : State) (x : ApplyUnit) : State := { s with apply := x }

/-- Move the model's time on to a moment; time does not go back (log 2). -/
def State.advanceTo (s : State) (moment : Nat) : State := { s with now := max s.now moment }

/-- Replace the part-wide statistics. -/
def State.setStats (s : State) (x : PartStats) : State := s.setSli { s.sli with stats := x }

/-- A trunk is available: in RUNNING or RESYNC (Section 5.4). -/
def State.available (s : State) (t : Trunk) : Bool :=
  (s.port t).state = .running || (s.port t).state = .resync

/-! ## Latches and reports -/

/-- One part-wide latch or mask bit. -/
def PartLatches.get (x : PartLatches) : PartLatch → Bool
  | .skew => x.skew
  | .clockAhead => x.clockAhead
  | .parking => x.parking
  | .applyHeld => x.applyHeld
  | .linkError => x.linkError
  | .mapBlocked => x.mapBlocked

/-- Write one part-wide latch. -/
def PartLatches.put (x : PartLatches) (l : PartLatch) (v : Bool) : PartLatches :=
  match l with
  | .skew => { x with skew := v }
  | .clockAhead => { x with clockAhead := v }
  | .parking => { x with parking := v }
  | .applyHeld => { x with applyHeld := v }
  | .linkError => { x with linkError := v }
  | .mapBlocked => { x with mapBlocked := v }

/-- One latch or mask bit of a trunk. -/
def TrunkLatches.get (x : TrunkLatches) : TrunkLatch → Bool
  | .unidentified => x.unidentified
  | .identified => x.identified
  | .remoteAlarm => x.remoteAlarm
  | .resync => x.resync
  | .down => x.down
  | .faulted => x.faulted
  | .counterSat => x.counterSat
  | .windowFull => x.windowFull

/-- Write one latch of a trunk. -/
def TrunkLatches.put (x : TrunkLatches) (l : TrunkLatch) (v : Bool) : TrunkLatches :=
  match l with
  | .unidentified => { x with unidentified := v }
  | .identified => { x with identified := v }
  | .remoteAlarm => { x with remoteAlarm := v }
  | .resync => { x with resync := v }
  | .down => { x with down := v }
  | .faulted => { x with faulted := v }
  | .counterSat => { x with counterSat := v }
  | .windowFull => { x with windowFull := v }

/-- A latch set with one part-wide latch written. -/
def LatchSet.putPart (x : LatchSet) (l : PartLatch) (v : Bool) : LatchSet := { x with part := x.part.put l v }

/-- A latch set with one latch of a trunk written. -/
def LatchSet.putTrunk (x : LatchSet) (t : Trunk) (l : TrunkLatch) (v : Bool) : LatchSet :=
  { x with trunk := x.trunk.set t ((x.trunk.get t).put l v) }

/-- Queue a report; one that finds 256 in the queue is not queued (R185). -/
def Sli.report (x : Sli) (r : Report) : Sli :=
  if x.reports.length < Config.reportLimit then { x with reports := x.reports ++ [r] } else x

/-- Queue a report when a condition holds. -/
def Sli.reportIf (x : Sli) (c : Bool) (r : Report) : Sli := if c then x.report r else x

/-- Set a part-wide latch; its passage from clear to set queues a STATUS-CHANGE under its mask bit (R185, R186). -/
def Sli.latch (x : Sli) (l : PartLatch) : Sli :=
  if x.latches.part.get l then x
  else ({ x with latches := x.latches.putPart l true }).reportIf (x.mask.part.get l) (.partChange l)

/-- Set a latch of a trunk; its passage queues a STATUS-CHANGE under its mask bit and the further condition ok (for
UNIDENTIFIED the DETECT policy, R164; true for every other latch). -/
def Sli.latchTrunk (x : Sli) (t : Trunk) (l : TrunkLatch) (ok : Bool) : Sli :=
  if (x.latches.trunk.get t).get l then x
  else ({ x with latches := x.latches.putTrunk t l true }).reportIf ((x.mask.trunk.get t).get l && ok) (.trunkChange t l)

/-- Set the LINK-ERROR latch. Its passage queues no STATUS-CHANGE: a role fault "sends no report" (R185), and Table 9-4
shows only LINK-ERROR reports (DEDUCED, log 8). -/
def Sli.latchLinkError (x : Sli) : Sli := { x with latches := x.latches.putPart .linkError true }

/-- A link fault with a report of a type: the latch, and the report under the LINK-ERROR mask bit (R185). -/
def Sli.linkFault (x : Sli) (e : LinkErrorType) : Sli :=
  x.latchLinkError.reportIf x.mask.part.linkError (.linkError e)

/-- Set a part-wide latch (R186). -/
def State.latch (s : State) (l : PartLatch) : State := s.setSli (s.sli.latch l)

/-- Set a latch of a trunk (R186). -/
def State.latchTrunk (s : State) (t : Trunk) (l : TrunkLatch) : State := s.setSli (s.sli.latchTrunk t l true)

/-- Set UNIDENTIFIED: reported only under DETECT (R164, R166). -/
def State.latchUnidentified (s : State) (t : Trunk) : State :=
  s.setSli (s.sli.latchTrunk t .unidentified (!(s.port t).config.identifyPolicy))

/-! ## Error counters (Section 8.1) -/

/-- One counter. -/
def Counters.get (x : Counters) : CounterName → Nat
  | .frameCheck => x.frameCheck
  | .headError => x.headError
  | .resend => x.resend

/-- Write one counter. -/
def Counters.put (x : Counters) (c : CounterName) (v : Nat) : Counters :=
  match c with
  | .frameCheck => { x with frameCheck := v }
  | .headError => { x with headError := v }
  | .resend => { x with resend := v }

/-- One event of a counter's kind (R156). At 255 the counter stays, COUNTER-SAT is set, and a COUNTER-SATURATED report
is queued under the latch's mask bit, after the STATUS-CHANGE of the latch's passage (R157, log 22). -/
def State.countEvent (s : State) (t : Trunk) (c : CounterName) : State :=
  let sup := s.sup t
  if sup.counters.get c < 255 then
    s.setSup t { sup with counters := sup.counters.put c (sup.counters.get c + 1) }
  else
    s.setSli ((s.sli.latchTrunk t .counterSat true).reportIf (s.sli.mask.trunk.get t).counterSat (.counterSaturated t c))

/-- n events of a counter's kind, one after another. -/
def State.countEvents (s : State) (t : Trunk) (c : CounterName) : Nat → State
  | 0 => s
  | n + 1 => (s.countEvent t c).countEvents t c n

/-! ## Standing conditions (Table 9-3) -/

/-- UNIDENTIFIED: the latest closed period was non-CLEAN and the run does not stand identified (R164). -/
def Supervisor.unidentifiedNow (x : Supervisor) : Bool :=
  (match x.latest with
    | none => false
    | some .clean => false
    | some _ => true)
  && x.runLength != 5

/-- IDENTIFIED: the run stands identified (R165). -/
def Supervisor.identifiedNow (x : Supervisor) : Bool := x.runLength == 5

/-- COUNTER-SAT: a counter of the trunk is at 255 (R157). -/
def Supervisor.saturatedNow (x : Supervisor) : Bool :=
  x.counters.frameCheck == 255 || x.counters.headError == 255 || x.counters.resend == 255

/-- The conditions of a trunk's latches (Table 9-3). -/
def State.trunkConditions (s : State) (t : Trunk) : TrunkLatches where
  unidentified := (s.sup t).unidentifiedNow
  identified := (s.sup t).identifiedNow
  remoteAlarm := (s.port t).filter.alarm
  resync := (s.port t).state = .resync
  down := (s.port t).state = .down
  faulted := (s.port t).state = .faulted
  counterSat := (s.sup t).saturatedNow
  windowFull := (s.port t).window ≤ (s.port t).inFlight

/-- Some inbound record is held (R149). -/
def State.someHeld (s : State) : Bool := s.apply.records.any (fun e => e.2.held)

/-- The standing conditions of every latch; an event latch has none (Table 9-3). -/
def State.conditions (s : State) : LatchSet where
  part := ⟨false, false, s.body.parkOn, s.someHeld, false, false⟩
  trunk := ⟨s.trunkConditions .t0, s.trunkConditions .t1, s.trunkConditions .t2, s.trunkConditions .t3⟩

/-- What a STATUS-READ leaves of part-wide latches: those set whose condition is present (R187). -/
def PartLatches.keep (x c : PartLatches) : PartLatches :=
  ⟨x.skew && c.skew, x.clockAhead && c.clockAhead, x.parking && c.parking, x.applyHeld && c.applyHeld,
    x.linkError && c.linkError, x.mapBlocked && c.mapBlocked⟩

/-- What a STATUS-READ leaves of a trunk's latches (R187). -/
def TrunkLatches.keep (x c : TrunkLatches) : TrunkLatches :=
  ⟨x.unidentified && c.unidentified, x.identified && c.identified, x.remoteAlarm && c.remoteAlarm, x.resync && c.resync,
    x.down && c.down, x.faulted && c.faulted, x.counterSat && c.counterSat, x.windowFull && c.windowFull⟩

/-- What a STATUS-READ leaves of the latches (R187). -/
def LatchSet.keep (x c : LatchSet) : LatchSet :=
  ⟨x.part.keep c.part, ⟨x.trunk.t0.keep c.trunk.t0, x.trunk.t1.keep c.trunk.t1, x.trunk.t2.keep c.trunk.t2,
    x.trunk.t3.keep c.trunk.t3⟩⟩

end Sys2Proof.Machine
end

