-- ==== Sys2Proof/Machine/Ops.lean ====
section
/-! DEFINITION. The shared operations of the Stamp Clock, the Object Map, the Body Store and the Journal (Chapters 1 to 4). -/

namespace Sys2Proof.Machine

/-! ## Stamp Clock -/

/-- The site clock's reading pt: 0 while unset, else the value last given plus the whole ms since, stopping at the
maximum (R34). -/
def State.siteClock (s : State) : Nat :=
  if s.clock.set then min Config.maxTime (s.clock.base + (s.now - s.clock.setAt) / Config.nsPerMs) else 0

/-- Table 2-3: the new l and c, and whether the issue borrows ahead; none when the issue fails. -/
def issuePair (pt l c : Nat) : Option (Nat × Nat × Bool) :=
  if l < pt then some (pt, 0, false)
  else if c < 65535 then some (l, c + 1, false)
  else if l < Config.maxTime then some (l + 1, 0, true)
  else none

/-- A borrow ahead is counted and latched (R41). -/
def State.borrowed (s : State) : State :=
  (s.setStats { s.sli.stats with borrowAheads := s.sli.stats.borrowAheads + 1 }).latch .clockAhead

/-- Issue a stamp for a site (R40). A failed issue answers none. -/
def State.issue (s : State) (site : Nat) : Option (Stamp × State) :=
  match issuePair s.siteClock s.clock.l s.clock.c with
  | none => none
  | some (l, c, borrow) =>
    let s1 := s.setClock { s.clock with l := l, c := c }
    some (packStamp l c site, if borrow then s1.borrowed else s1)

/-- The skew clamp: the time and counter the merge uses, and whether the clamp acts (R42). -/
def skewClamp (pt skew lm cm : Nat) : Nat × Nat × Bool :=
  if pt + skew < lm then (pt + skew, 0, true) else (lm, cm, false)

/-- The counter of Table 2-4 for a new l. -/
def mergeCounter (nl l c lm cm : Nat) : Nat :=
  if nl = l ∧ nl = lm then max c cm + 1
  else if nl = l then c + 1
  else if nl = lm then cm + 1
  else 0

/-- R43: the new l and c, and whether the merge borrows ahead. -/
def mergePair (pt l c lm cm : Nat) : Nat × Nat × Bool :=
  let nl := max (max l lm) pt
  let nc := mergeCounter nl l c lm cm
  if nc < 65536 then (nl, nc, false)
  else if nl < Config.maxTime then (nl + 1, 0, true)
  else (nl, 65535, false)

/-- A skew clamp is counted and latched (R42). -/
def State.skewClamped (s : State) : State :=
  (s.setStats { s.sli.stats with skewClamps := s.sli.stats.skewClamps + 1 }).latch .skew

/-- Merge a received stamp (R42, R43). -/
def State.merge (s : State) (stamp : Stamp) : State :=
  let r := skewClamp s.siteClock s.clock.skew (stampTime stamp) (stampCounter stamp)
  let s1 := if r.2.2 then s.skewClamped else s
  let m := mergePair s.siteClock s.clock.l s.clock.c r.1 r.2.1
  let s2 := s1.setClock { s1.clock with l := m.1, c := m.2.1 }
  if m.2.2 then s2.borrowed else s2

/-! ## Object Map -/

/-- The record's key is the named object's, in both halves (R47). -/
def ObjRec.names (r : ObjRec) (b : Nat) (d : Digest) : Bool := r.bucket == b && r.digest == d

/-- The record of an object, read without a touch. -/
def State.findObj (s : State) (b : Nat) (d : Digest) : Option ObjRec := s.map.find? (·.names b d)

/-- Change the record of an object in its place in the touch order. -/
def State.changeObj (s : State) (b : Nat) (d : Digest) (g : ObjRec → ObjRec) : State :=
  s.setMap (s.map.map fun r => if r.names b d then g r else r)

/-- Move the record of an object to the most recent end, changed (R53). -/
def touchObj (m : List ObjRec) (b : Nat) (d : Digest) (g : ObjRec → ObjRec) : List ObjRec :=
  m.filter (fun r => !r.names b d) ++ (m.filter (·.names b d)).map g

/-- The map can take a new record: it has a free place, or a record to evict (R50, R52). -/
def State.mapHasRoom (s : State) : Bool :=
  s.map.length < Config.mapSize || s.map.any (fun r => r.pins == 0)

/-- The records after the least recently touched one with pin count 0 has left (R51). -/
def evictOne : List ObjRec → List ObjRec
  | [] => []
  | r :: rest => if r.pins = 0 then rest else r :: evictOne rest

/-- The records with room made for an insert: a full map evicts one (R50, R51). -/
def makeRoom (m : List ObjRec) : List ObjRec := if m.length < Config.mapSize then m else evictOne m

/-- Find or insert an object's record and change it, in one request: a found record is touched, a new one is inserted at
the most recent end (R49, R50, R53). The caller has made sure there is room. -/
def State.findOrInsert (s : State) (b : Nat) (d : Digest) (g : ObjRec → ObjRec) : State :=
  match s.findObj b d with
  | some _ => s.setMap (touchObj s.map b d g)
  | none => s.setMap (makeRoom s.map ++ [g ⟨b, d, none, false, none, 0⟩])

/-- The find-or-insert-and-pin of an accepted NOTICE: whether the entry is mapped (R52, R54). -/
def State.pinForNotice (s : State) (b : Nat) (d : Digest) : Bool × State :=
  if (s.findObj b d).isSome || s.mapHasRoom then
    (true, s.findOrInsert b d fun r => { r with pins := r.pins + 1 })
  else (false, s.latch .mapBlocked)

/-- Release one pin (R54). -/
def State.unpin (s : State) (b : Nat) (d : Digest) : State :=
  s.changeObj b d fun r => { r with pins := r.pins - 1 }

/-- Outcomes of the stale test (Table 3-3). -/
inductive Staleness where
  | unchecked | stale | newer
  deriving DecidableEq, Repr

/-- Table 3-3 for a mapped entry: a record without a stamp is UNCHECKED; the comparison is strict (R57). -/
def staleOutcome (rec : Option Stamp) (stamp : Stamp) : Staleness :=
  match rec with
  | none => .unchecked
  | some r => if stamp.toNat < r.toNat then .stale else .newer

/-! ## Handles and entries -/

/-- The entry a handle names, if the handle is valid (R13). -/
def State.entryAt (s : State) (h : Handle) : Option JEntry :=
  s.journal.entries.find? fun e => e.index == h.index && e.gen == h.gen

/-- An entry's handle (R13). -/
def JEntry.handle (e : JEntry) : Handle := ⟨e.index, e.gen⟩

/-- Replace the entry at a position. -/
def State.putEntry (s : State) (e : JEntry) : State :=
  s.setJournal { s.journal with entries := s.journal.entries.map fun x => if x.index = e.index then e else x }

/-- Replace the entry list. -/
def State.setEntries (s : State) (es : List JEntry) : State := s.setJournal { s.journal with entries := es }

/-- A bucket's entries in bucket order (R12). -/
def State.entriesOf (s : State) (b : Nat) : List JEntry := s.journal.entries.filter (fun e => e.bucket == b)

/-- A position's generation after an append or a supersede: 65,535 goes to 1 (R13). -/
def nextGen (g : Nat) : Nat := if g = 65535 then 1 else g + 1

/-- An entry's body length: that of a BODY, 0 for every other kind (R120). -/
def Change.length : Change → Nat
  | .body n _ _ _ => n
  | _ => 0

/-- An entry's body check: that of a BODY, 0 for every other kind (R120). -/
def Change.check : Change → BitVec 64
  | .body _ c _ _ => c
  | _ => 0#64

/-- An entry's host body ref. -/
def Change.ref : Change → BitVec 64
  | .body _ _ r _ => r
  | _ => 0#64

/-- An entry's patch list: empty for a DROP or a VOID (R120). -/
def Change.patches : Change → List PatchWrite
  | .body _ _ _ p => p
  | .patch p => p
  | _ => []

/-- The slots, and the segments, of a body (Section 4.1). -/
def slotsFor (length : Nat) : Nat := ceilDiv length Config.segBytes

/-- The segments of an entry (Section 1.5). -/
def JEntry.segments (e : JEntry) : Nat := slotsFor e.change.length

/-- No slot is pending. -/
def JEntry.noPending (e : JEntry) : Bool := e.peers.toList.all (·.isNone)

/-- The body state at the moment an entry takes a kind (R14). -/
def Change.firstState (c : Change) : BodyState := if c.length = 0 then .ready else .filling

/-- The bucket's record. -/
def State.bucket (s : State) (b : Nat) : Bucket := s.buckets.get .reset b

/-- Write a bucket's record. -/
def State.setBucket (s : State) (b : Nat) (r : Bucket) : State := s.setBuckets (s.buckets.set .reset b r)

/-! ## Send cursors (R23) -/

/-- The slot is QUEUED or SENDING for the entry. -/
def JEntry.toSend (e : JEntry) (t : Trunk) : Bool :=
  match e.peers.get t with
  | some .queued => true
  | some (.sending _) => true
  | _ => false

/-- The entry is SENDING for the slot. -/
def JEntry.isSending (e : JEntry) (t : Trunk) : Bool :=
  match e.peers.get t with
  | some (.sending _) => true
  | _ => false

/-- The cursor entry of a bucket for a slot: the oldest that is QUEUED or SENDING for it. -/
def State.cursor (s : State) (b : Nat) (t : Trunk) : Option JEntry := (s.entriesOf b).find? (·.toSend t)

/-- The four conditions under which a bucket's cursor entry is sendable work for a slot. A piece index past the last
segment gives no piece. -/
def State.sendable (s : State) (b : Nat) (t : Trunk) : Option JEntry :=
  match s.cursor b t with
  | none => none
  | some e =>
    let r := s.bucket b
    let stateOk := r.state = .active || r.state = .draining || (r.state = .paused && e.isSending t)
    let bodyOk := e.change = .void || e.bodyState = .ready
    let sealOk := e.seq.isSome || !r.seqLimit
    let pieceOk := match e.peers.get t with
      | some (.sending i) => decide (i < e.segments)
      | _ => true
    if stateOk && bodyOk && sealOk && pieceOk then some e else none

/-! ## Refill queue membership (R72) -/

/-- The entry is PARKED and the cursor entry of an available slot. -/
def State.refillDue (s : State) (e : JEntry) : Bool :=
  e.bodyState = .parked && Trunk.all.any fun t => s.available t && ((s.cursor e.bucket t).map (·.index)) == some e.index

/-- Insert by rank. -/
def rankInsert (rank : Nat → Nat) (x : Nat) : List Nat → List Nat
  | [] => [x]
  | y :: r => if rank x ≤ rank y then x :: y :: r else y :: rankInsert rank x r

/-- A list in the order of a rank. -/
def rankSort (rank : Nat → Nat) (l : List Nat) : List Nat := l.foldr (rankInsert rank) []

/-- Bring the refill queue up to date: entries no longer due leave it, entries newly due join its tail, several at one
moment in a free order (R72, log 12). -/
def State.refillRefresh (s : State) : State :=
  let due := (s.journal.entries.filter s.refillDue).map (·.index)
  let kept := s.body.refillQueue.filter due.contains
  let joining := due.filter fun i => !s.body.refillQueue.contains i
  { s with
    body := { s.body with refillQueue := kept ++ rankSort (Config.refillRank s.freeCount) joining }
    freeCount := if joining.length < 2 then s.freeCount else s.freeCount + 1 }

/-! ## Outbound slots (Section 4.2) -/

/-- The slots an entry holds. -/
def JEntry.slotsHeld (e : JEntry) : Nat :=
  match e.fill with
  | none => 0
  | some f => f.slots

/-- The stop test of the park state, made after each release (R69). -/
def parkStop (b : BodyStore) : BodyStore :=
  if b.parkOn = true ∧ b.outUse ≤ Config.parkOffAt then { b with parkOn := false } else b

/-- Release an entry's slots: uses fall, the entry leaves the reservation list and its fill record ends (R65). An entry
that owns no slots releases nothing. -/
def State.releaseSlots (s : State) (e : JEntry) : State :=
  match e.fill with
  | none => s
  | some f =>
    (s.putEntry { e with fill := none }).setBody
      (parkStop { s.body with
        outUse := s.body.outUse - f.slots
        reservation := s.body.reservation.filter (· != e.index) })

/-- The start test of the park state, made after each reservation (R69). -/
def State.parkStart (s : State) : State :=
  if s.body.parkOn = false ∧ Config.parkOnAt ≤ s.body.outUse then
    (s.setBody { s.body with parkOn := true }).latch .parking
  else s

/-- Reserve the slots of an entry's body: the entry joins the tail of the reservation list with a fresh fill record, and
the park threshold is tested (R64). A body of length 0 reserves nothing. -/
def State.reserveSlots (s : State) (e : JEntry) : State :=
  if e.change.length = 0 then s
  else
    ((s.putEntry { e with fill := some ⟨slotsFor e.change.length, [], photoStart⟩ }).setBody
      { s.body with
        outUse := s.body.outUse + slotsFor e.change.length
        reservation := s.body.reservation ++ [e.index] }).parkStart

/-! ## Buckets and removal -/

/-- The drain test: a DRAINING bucket without entries passes to ABSENT (R6). -/
def State.drainTest (s : State) (b : Nat) : State :=
  let r := s.bucket b
  if r.state = .draining ∧ (s.entriesOf b).isEmpty = true then
    s.setBucket b { r with state := .absent, targets := .all false, band := .express, rebase := .all false }
  else s

/-- Removal of an entry, less the drain test (R29 steps 1 to 5). -/
def State.takeOut (s : State) (e : JEntry) : State :=
  let s1 := s.releaseSlots e
  let s2 := if e.seq.isNone then s1.changeObj e.bucket e.digest fun r => { r with unsealed := none } else s1
  let s3 := s2.unpin e.bucket e.digest
  s3.setEntries (s3.journal.entries.filter (fun x => x.index != e.index))

/-- Removal of an entry (R29). -/
def State.removeEntry (s : State) (e : JEntry) : State := (s.takeOut e).drainTest e.bucket

/-- Conversion to VOID (R75): the slots are released, kind VOID with body state READY, voids counted. -/
def State.convertVoid (s : State) (e : JEntry) : State :=
  let s1 := s.releaseSlots e
  let s2 := s1.putEntry { e with change := .void, bodyState := .ready, fill := none, refillTag := none }
  s2.setStats { s2.sli.stats with voids := s2.sli.stats.voids + 1 }

/-- A slot leaves an entry's pending set; the slot takes its per-peer state with it (R12). -/
def JEntry.dropSlot (e : JEntry) (t : Trunk) : JEntry := { e with peers := e.peers.set t none }

/-- An entry the Body Store loses on its refill while unsealed (R68, R75): removed, lost bodies counted. -/
def State.loseEntry (s : State) (e : JEntry) : State :=
  let s1 := s.removeEntry e
  s1.setStats { s1.sli.stats with lostBodies := s1.sli.stats.lostBodies + 1 }

/-- The frames-out counts fall for frames that leave a retransmit store; a handle no longer valid is counted nowhere
(R70, R123). -/
def State.framesLeave (s : State) (gone : List SentFrame) : State :=
  s.setEntries (s.journal.entries.map fun e =>
    { e with framesOut := e.framesOut - gone.countP fun f => f.handle = e.handle })

end Sys2Proof.Machine
end

