-- ==== Sys2Proof/Machine/Inbound.lean ====
section
/-! DEFINITION. The shared operations of the Apply Unit: records, discards, the slot arbiter, clearings (Chapter 7). -/

namespace Sys2Proof.Machine

/-! ## Records -/

/-- The key of the inbound record of a trunk and bucket. -/
def recKey (t : Trunk) (b : Nat) : Nat := t.index * Config.buckets + b

/-- The key belongs to a record of the trunk. -/
def keyOf (t : Trunk) (k : Nat) : Bool := k / Config.buckets == t.index

/-- An inbound record. -/
def State.inRec (s : State) (k : Nat) : InRec := s.apply.records.get .reset k

/-- Write an inbound record. -/
def State.setInRec (s : State) (k : Nat) (r : InRec) : State :=
  s.setApply { s.apply with records := s.apply.records.set .reset k r }

/-- Change every inbound record of a trunk. -/
def State.mapInRecs (s : State) (t : Trunk) (g : InRec → InRec) : State :=
  s.setApply { s.apply with records := s.apply.records.mapOn .reset (keyOf t) g }

/-- The inbound records of a trunk that are not at their reset values. -/
def State.inRecsOf (s : State) (t : Trunk) : List InRec :=
  (s.apply.records.filter (fun e => keyOf t e.1)).map (·.2)

/-- An inbound entry's slots, pin and backlog place are released (R79, R54, R144). -/
def State.discardInbound (s : State) (e : InEntry) : State :=
  let s1 := s.setBody { s.body with inUse := s.body.inUse - e.slots }
  let s2 := if e.mapped then s1.unpin e.notice.bucket e.notice.digest else s1
  s2.setApply { s2.apply with backlog := s2.apply.backlog - 1 }

/-- Several inbound entries are discarded. -/
def State.discardAll (s : State) (es : List InEntry) : State := es.foldl State.discardInbound s

/-- An entry's current mark cleared (R137, R153). -/
def InEntry.former (e : InEntry) : InEntry := { e with current := false }

/-- A current entry is finished: applied-through becomes its seq and an acknowledgement is owed; an entry of a former
epoch changes neither (R146, R147, R149). -/
def InRec.finish (r : InRec) (e : InEntry) : InRec :=
  if e.current then { r with applied := e.notice.seq, ackOwed := true } else r

/-! ## The slot arbiter (R145) -/

/-- Slots neither in use nor handed to a record. -/
def ApplyUnit.spare (a : ApplyUnit) : Nat := Config.applySlots - a.slots.length - a.granted.length

/-- Each freed slot is handed to the record at the head of the slot wait list. -/
def ApplyUnit.handSlots (a : ApplyUnit) : ApplyUnit :=
  { a with granted := a.granted ++ a.waitList.take a.spare, waitList := a.waitList.drop a.spare }

/-- The record's head entry could go forward, but for a slot (R145). -/
def InRec.canForward (r : InRec) : Bool := !r.held && r.inFlight.isNone && !r.queue.isEmpty

/-- The head entry needs a slot: it is not a VOID (R145). -/
def InRec.headNeedsSlot (r : InRec) : Bool :=
  match r.queue with
  | [] => false
  | e :: _ => e.notice.kind != 4

/-- A record whose head entry could go forward but for a slot. -/
def InRec.wantsSlot (r : InRec) : Bool := r.canForward && r.headNeedsSlot

/-- The records that want a slot, have been handed none and do not stand on the wait list. -/
def ApplyUnit.unlisted (a : ApplyUnit) : List Nat :=
  (a.records.map (·.1)).filter fun k =>
    (a.records.get .reset k).wantsSlot && !a.granted.contains k && !a.waitList.contains k

/-- The forward test of every record when a slot is freed, and the arbiter's handing on: the records that want a slot and
stand on no list join the tail of the wait list, several in a free order (log 46), and the free slots go to its head (R145).
DESIGN CHOICE (log 17, unsafe): those on the list are served before those that join, and a record that goes forward by
itself is handed its slot like one of the list, for its APPLY_FORWARD. -/
def State.offerSlots (s : State) : State :=
  let joining := s.apply.unlisted
  { s with
    apply :=
      ({ s.apply with waitList := s.apply.waitList ++ rankSort (Config.waitRank s.freeCount) joining }).handSlots
    freeCount := if joining.length < 2 then s.freeCount else s.freeCount + 1 }

/-- Records give up the slot they were handed, which is then free (R145). -/
def State.returnSlots (s : State) (gone : Nat → Bool) : State :=
  if s.apply.granted.any gone then
    (s.setApply { s.apply with granted := s.apply.granted.filter fun k => !gone k }).offerSlots
  else s

/-- The forward test of a record: one whose head could go forward but finds no slot free joins the tail of the wait list,
once; a record that has been handed a slot and has no entry left that can go forward gives it to the next (R145). -/
def State.forwardTest (s : State) (k : Nat) : State :=
  let r := s.inRec k
  let a := s.apply
  if r.canForward then
    if r.headNeedsSlot && !a.granted.contains k && !a.waitList.contains k && a.spare == 0 then
      s.setApply { a with waitList := a.waitList ++ [k] }
    else s
  else s.returnSlots (· == k)

/-- Records leave the slot wait list: one whose head entry leaves its queue, and those that are cleared; a slot that one of
them was handed stays with it (R145, log 31). -/
def State.leaveList (s : State) (gone : Nat → Bool) : State :=
  s.setApply { s.apply with waitList := s.apply.waitList.filter fun k => !gone k }

/-- A slot in use is freed (R145, R149). -/
def State.freeSlot (s : State) (tag : Nat) : State :=
  (s.setApply { s.apply with slots := s.apply.slots.filter (fun x => x.tag != tag) }).offerSlots

/-! ## Clearings (Section 7.7) -/

/-- The receive side of a trunk at its trunk restart: reassemblies discarded, skips ended, ack owed set where an epoch is
present (R152). The reorder store is the port's (R90). -/
def State.restartInbound (s : State) (t : Trunk) : State :=
  let s1 := s.discardAll ((s.inRecsOf t).filterMap (·.reassembly))
  s1.mapInRecs t fun r => { r with reassembly := none, skip := none, ackOwed := r.ackOwed || r.epoch.isSome }

/-- An incarnation change clears a trunk's inbound records, keeping their apply queues (R153); a record that is cleared
leaves the slot wait list (R145). DEDUCED (log 43, unsafe): the entry of an APPLY in flight stays at the head of its
record's queue, as R148, R151 and R153 keep it, and goes on belonging to the record, where the last sentence of R135 says
that it belongs to none; a FAILED answer to it still holds the record. -/
def State.incarnationInbound (s : State) (t : Trunk) : State :=
  let s1 := s.discardAll ((s.inRecsOf t).filterMap (·.reassembly))
  (s1.mapInRecs t fun r =>
    { r with reassembly := none, skip := none, epoch := none, ackOwed := false, queue := r.queue.map InEntry.former
      }).leaveList (keyOf t)

/-- The entries that a peer change discards from a record: the reassembly and the queue, less the entry of an APPLY in
flight (R154). -/
def InRec.discarded (r : InRec) : List InEntry :=
  r.reassembly.toList ++ (if r.inFlight.isSome then r.queue.drop 1 else r.queue)

/-- A slot of the trunk keeps its entry when a peer change takes it from its record (R151, R154). -/
def State.orphaned (s : State) (t : Trunk) (x : ApplySlot) : ApplySlot :=
  if x.trunk = t ∧ x.orphan.isNone = true then
    { x with orphan := ((s.inRec (recKey x.trunk x.bucket)).queue.head?).map InEntry.former }
  else x

/-- A peer change clears a trunk's inbound records whole (R154); a slot that one of them was handed is free (R145). -/
def State.peerChangeInbound (s : State) (t : Trunk) : State :=
  let slots := s.apply.slots.map (s.orphaned t)
  let s1 := s.discardAll ((s.inRecsOf t).flatMap InRec.discarded)
  (s1.setApply { s1.apply with
    slots := slots
    records := s1.apply.records.filter (fun e => !keyOf t e.1)
    waitList := s1.apply.waitList.filter (fun k => !keyOf t k) }).returnSlots (keyOf t)

end Sys2Proof.Machine
end

