-- ==== Sys2Proof/Machine/Restart.lean ====
section
/-! DEFINITION. Trunk restart, state changes of a trunk, protocol restart, peer change, PART restart (Sections 1.8, 5.4, 5.8, 9.6). -/

namespace Sys2Proof.Machine

/-! ## Configuration going into force (R111) -/

/-- The staged fields go into force. -/
def Port.stagedInForce (p : Port) : Port :=
  match p.staged with
  | none => p
  | some c => { p with config := { p.config with paced := c }, staged := none }

/-! ## Trunk restart (R90) -/

/-- The port of a trunk at its trunk restart into a state: stores, lock, flags and runs cleared; the staged fields go
into force; the cycle timer is started again, and the restart is a cycle start (R83, R90). In OFF the timer is stopped,
and staged fields are in force at once (Section 5.3, log 20). -/
def Port.restarted (p : Port) (now : Nat) (goal : TrunkState) : Port :=
  { p.stagedInForce with
    state := goal
    cycleAt := now
    frameAt := now
    position := 0
    cycleCounter := 0
    lock := .reset
    filter := ⟨false, 0⟩
    lastCycle := 0
    headCycles := 0
    alignCycle := 0
    runCycle := 0
    cycleService := none
    peerSeenRunning := false
    peerHears := false
    heard := false
    prevHead := false
    probeEntry := now
    lastProbe := none
    expressStart := 0
    bulkStart := 0
    nextFrame := 0
    store := []
    peerThrough := none
    reorder := []
    expectedFrame := 0 }

/-- The supervisor of a trunk at its trunk restart: tally, history, run and latest signature cleared, timers stopped; the
counters, the last identified signature and the requests not yet taken are kept (R176, log 7). The fault cause is the
one given: none in every state but FAULTED (R172). -/
def Supervisor.restarted (x : Supervisor) (cause : Option Signature) : Supervisor :=
  { x with
    tally := .empty
    history := []
    runSignature := none
    runLength := 0
    latest := none
    faultCause := cause
    resync := none
    stall := none }

/-- SENDING and SENT entries return to QUEUED for a slot (R30). -/
def JEntry.requeue (t : Trunk) (e : JEntry) : JEntry :=
  match e.peers.get t with
  | none => e
  | some _ => { e with peers := e.peers.set t (some .queued) }

/-- A trunk restart into a state, with the fault cause that holds there (R90, and its effects on the other blocks: R30,
R70, R72, R152). -/
def State.trunkRestart (s : State) (t : Trunk) (goal : TrunkState) (cause : Option Signature) : State :=
  let s1 := s.framesLeave (s.port t).store
  let s2 := s1.setEntries (s1.journal.entries.map (JEntry.requeue t))
  let s3 := (s2.setPort t ((s2.port t).restarted s2.now goal)).setSup t ((s2.sup t).restarted cause)
  (s3.restartInbound t).refillRefresh

/-- A move to DOWN: a trunk restart and the DOWN latch (R101, R167, R169). -/
def State.moveDown (s : State) (t : Trunk) : State := (s.trunkRestart t .down none).latchTrunk t .down

/-- A move to FAULTED with a cause: a trunk restart and the FAULTED latch (R172). -/
def State.moveFaulted (s : State) (t : Trunk) (cause : Signature) : State :=
  (s.trunkRestart t .faulted (some cause)).latchTrunk t .faulted

/-- A protocol restart: counted, and a trunk restart into HUNT (R91). -/
def State.protocolRestart (s : State) (t : Trunk) : State :=
  let p := s.port t
  let s1 := s.setPort t { p with stats := { p.stats with protocolRestarts := p.stats.protocolRestarts + 1 } }
  s1.trunkRestart t .hunt none

/-! ## State changes without a trunk restart -/

/-- A timer of a length in ms, started now (R169). -/
def timerMs (now ms : Nat) : Timer := ⟨now, ms * Config.nsPerMs⟩

/-- HUNT to ALIGN: the align delay in force is taken and the resync timer started (R94, R96). ALIGN's first cycle begins
at the next cycle start. -/
def State.enterAlign (s : State) (t : Trunk) : State :=
  let p := s.port t
  let x := s.sup t
  (s.setPort t { p with state := .align, alignCycle := 0, alignDelay := p.config.alignDelay, headCycles := 0 }).setSup t
    { x with resync := some (timerMs s.now p.config.resyncTimeout) }

/-- ALIGN to RUNNING (R97): the resync timer stops, frame numbers stand at 0, the echo count starts at 0, and entries may
join the refill queue (R72). -/
def State.enterRunning (s : State) (t : Trunk) : State :=
  let p := s.port t
  ((s.setPort t { p with state := .running, nextFrame := 0, expectedFrame := 0, runCycle := 0 }).setSup t
    { s.sup t with resync := none }).refillRefresh

/-- RUNNING to RESYNC (R98): the resync timer starts, then the RESYNC latch is set. -/
def State.enterResync (s : State) (t : Trunk) : State :=
  let p := s.port t
  ((s.setPort t { p with state := .resync }).setSup t
    { s.sup t with resync := some (timerMs s.now p.config.resyncTimeout) }).latchTrunk t .resync

/-- RESYNC to RUNNING (R99): the resync timer stops. -/
def State.regainRunning (s : State) (t : Trunk) : State :=
  (s.setPort t { s.port t with state := .running }).setSup t { s.sup t with resync := none }

/-! ## Target changes and peer change -/

/-- A slot leaves every entry of the buckets chosen, and the entries left with an empty pending set (R8, R31). -/
def State.dropSlotFrom (s : State) (t : Trunk) (chosen : Nat → Bool) : State :=
  s.setEntries (s.journal.entries.map fun e => if chosen e.bucket then e.dropSlot t else e)

/-- The entries whose pending set is empty. -/
def State.emptied (s : State) : List JEntry := s.journal.entries.filter (·.noPending)

/-- The buckets of a peer change: the slot leaves every target set and its rebase owed flag clears (R31). -/
def Bucket.dropTarget (t : Trunk) (r : Bucket) : Bucket :=
  { r with targets := r.targets.set t false, rebase := r.rebase.set t false }

/-- A DRAINING bucket with no entry passes to ABSENT (R31); only buckets listed in the table can be DRAINING. -/
def State.drainAll (s : State) : State := (s.buckets.map (·.1)).foldl State.drainTest s

/-- A peer change of an OFF trunk (R86): the journal's part (R31), the inbound records (R154), the recorded incarnation
and the peer-hears flag. -/
def State.peerChange (s : State) (t : Trunk) : State :=
  let s1 := s.setBuckets (s.buckets.mapOn .reset (fun _ => true) (Bucket.dropTarget t))
  let s2 := s1.dropSlotFrom t fun _ => true
  let s3 := (s2.emptied.foldl State.removeEntry s2).drainAll
  let s4 := s3.peerChangeInbound t
  (s4.setPort t { s4.port t with recorded := none, peerHears := false }).refillRefresh

/-! ## PART restart (R192) -/

/-- The supervisor after a PART restart: the counters are kept (R159, R176). -/
def Supervisor.partRestarted (x : Supervisor) : Supervisor := { Supervisor.reset with counters := x.counters }

/-- The port after a PART restart (R107); what has left on the line is not undone. -/
def Port.partRestarted (p : Port) : Port := { Port.reset with line := p.line }

/-- The Stamp Clock after a PART restart (R46). -/
def StampClock.partRestarted (c : StampClock) : StampClock :=
  { c with skew := 1000, site := none, incarnation := none }

/-- A PART restart: every block takes the values its chapter gives; the site clock, l, c and the error counters are kept,
and the assembler stands IN-STEP (R192). -/
def State.partRestart (s : State) : State :=
  { State.reset with
    now := s.now
    clock := s.clock.partRestarted
    ports := s.ports.map Port.partRestarted
    sups := s.sups.map Supervisor.partRestarted
    sli := { Sli.reset with asm := ⟨true, []⟩, sent := s.sli.sent }
    freeCount := s.freeCount
    pending := s.pending }

end Sys2Proof.Machine
end

