-- ==== Sys2Proof/Machine/Receiving.lean ====
section
/-! DEFINITION. The receive side of a trunk: arrivals, supervisor tally, lock, filter, incarnation check; release of
frames to the Apply Unit, dispatch of pieces, and completion of entries (Chapters 5, 7 and 8). -/

namespace Sys2Proof.Machine

/-! ## Arrivals (R82, R160) -/

/-- The trunk classifies arrivals and counts errors: every state but OFF and TEST (R82). -/
def TrunkState.supervised : TrunkState → Bool
  | .off => false
  | .test => false
  | _ => true

/-- The states in which the lock and the alarm filter act (R95, R98, R101). -/
def TrunkState.locking : TrunkState → Bool
  | .hunt => true
  | .align => true
  | .running => true
  | .resync => true
  | _ => false

/-- RUNNING or RESYNC. -/
def TrunkState.up : TrunkState → Bool
  | .running => true
  | .resync => true
  | _ => false

/-- The three marks an arrival can set (R160): looped, foreign, peer. -/
structure Marks where
  looped : Bool
  foreign : Bool
  peer : Bool
  deriving DecidableEq, Repr

/-- The marks of a valid HEAD, FILL or PROBE by its sender (R160). -/
def State.senderMarks (s : State) (t : Trunk) (site : Nat) (incarnation : Stamp) : Marks :=
  let own := s.clock.site == some site
  let looped := own && s.clock.incarnation == some incarnation
  let peer := (s.port t).config.peer == some site
  ⟨looped, !peer && !own, peer && !looped⟩

/-- The marks of a valid frame of another kind: judged by its arrival in HUNT, ALIGN, RUNNING or RESYNC (R160). -/
def State.otherMarks (s : State) (t : Trunk) : Marks := ⟨false, false, (s.port t).state.locking⟩

/-- No mark: an invalid frame. -/
def Marks.none : Marks := ⟨false, false, false⟩

/-- An arrival counted: a receive position, and a frame received (R82). -/
def State.countArrival (s : State) (t : Trunk) : State :=
  let p := s.port t
  s.setPort t { p with
    rxPos := p.rxPos + 1
    stats := { p.stats with framesReceived := p.stats.framesReceived + 1 } }

/-- The tally with one more arrival (R160). -/
def Tally.add (x : Tally) (valid : Bool) (m : Marks) : Tally :=
  ⟨x.arrivals + 1, x.invalid + (if valid then 0 else 1), x.looped || m.looped, x.foreign || m.foreign, x.peer || m.peer⟩

/-- The report of an arrival to the supervisor: the tally, and FRAME-CHECK for one that is not valid (R82, R156). -/
def State.reportArrival (s : State) (t : Trunk) (valid : Bool) (m : Marks) : State :=
  let x := s.sup t
  let s1 := s.setSup t { x with tally := x.tally.add valid m }
  if valid then s1 else s1.countEvent t .frameCheck

/-- The frame is from the expected peer (R82). -/
def State.fromPeer (s : State) (t : Trunk) (site : Nat) : Bool := (s.port t).config.peer == some site

/-! ## Incarnation check (R93) -/

/-- The incarnation check of a valid HEAD, FILL or PROBE from the expected peer: the state after it, and whether it made
a peer start-over (R93, R100). -/
def State.incarnationCheck (s : State) (t : Trunk) (incarnation : Stamp) : State × Bool :=
  match (s.port t).recorded with
  | none => (s.setPort t { s.port t with recorded := some incarnation }, false)
  | some r =>
    if r = incarnation then (s, false)
    else
      let s1 := s.incarnationInbound t
      let s2 := s1.setPort t { s1.port t with recorded := some incarnation }
      if (s2.port t).state.up then (s2.protocolRestart t, true) else (s2, false)

/-! ## Receive lock (R95, R98, R99) -/

/-- A matching HEAD's announced K, or none for any other frame: from the expected peer, the alignment word, K 8 to 32
(Section 5.5.2). -/
def State.matchingK (s : State) (t : Trunk) (f : HeadFrame) : Option Nat :=
  if s.fromPeer t f.site.toNat ∧ f.align = Config.alignWord ∧ 8 ≤ f.k.toNat ∧ f.k.toNat ≤ 32 then some f.k.toNat else none

/-- The lock after its loss: not held, the runs 0, remote K and expected position cleared (R98). -/
def Lock.lost (x : Lock) : Lock :=
  { x with held := false, run := 0, headErrors := 0, remoteK := none, expected := none }

/-- A head error at the expected position (R98): counted in ALIGN and RUNNING; the third in a row ends the lock, and a
RUNNING trunk enters RESYNC. -/
def State.headError (s : State) (t : Trunk) : State :=
  let p := s.port t
  let x := p.lock
  let s1 := if p.state = .align ∨ p.state = .running then s.countEvent t .headError else s
  if x.headErrors + 1 < 3 then
    s1.setPort t { p with lock := { x with
      headErrors := x.headErrors + 1
      expected := x.expected.map (· + x.remoteK.getD 0) } }
  else
    let s2 := s1.setPort t { p with lock := x.lost }
    if p.state = .running then s2.enterResync t else s2

/-- The candidate run after an arrival while the lock is not held (R95): a matching HEAD's K, or none. -/
def Lock.seek (x : Lock) (pos : Nat) (k : Option Nat) : Lock :=
  match k with
  | some k =>
    if 0 < x.run ∧ x.expected = some pos ∧ x.remoteK = some k then
      { x with run := x.run + 1, expected := some (pos + k) }
    else { x with run := 1, remoteK := some k, expected := some (pos + k) }
  | none => if 0 < x.run ∧ x.expected = some pos then { x with run := 0 } else x

/-- The lock's part of an arrival in HUNT, ALIGN, RUNNING or RESYNC (R95, R98, R99). -/
def State.lockArrival (s : State) (t : Trunk) (k : Option Nat) : State :=
  let p := s.port t
  let x := p.lock
  if x.held then
    if x.expected = some p.rxPos then
      if k.isSome ∧ k = x.remoteK then
        s.setPort t { p with lock := { x with headErrors := 0, expected := some (p.rxPos + x.remoteK.getD 0) } }
      else s.headError t
    else s
  else if p.state = .running then s
  else
    let y := x.seek p.rxPos k
    if p.state = .resync then
      if y.run = 2 then
        (s.setPort t { p with lock := { y with held := true, headErrors := 0 } }).regainRunning t
      else s.setPort t { p with lock := y }
    else if y.run = 3 then s.setPort t { p with lock := { y with held := true, headErrors := 0 } }
    else s.setPort t { p with lock := y }

/-- The lock's part of an arrival, in the states where it acts. -/
def State.lockStep (s : State) (t : Trunk) (k : Option Nat) : State :=
  if (s.port t).state.locking then s.lockArrival t k else s

/-- The filter after a matching HEAD's ALARM flag (R101). -/
def AlarmFilter.take (x : AlarmFilter) (alarm : Bool) : AlarmFilter :=
  if alarm = x.alarm then ⟨x.alarm, 0⟩
  else if x.run + 1 < 3 then ⟨x.alarm, x.run + 1⟩
  else ⟨alarm, 0⟩

/-- A matching HEAD's flags: peer-locked, cycle number, and the remote alarm filter with its latch (R95, R101). -/
def State.headFlags (s : State) (t : Trunk) (f : HeadFrame) : State :=
  let p := s.port t
  let y := p.filter.take f.alarm
  let s1 := s.setPort t { p with
    lock := { p.lock with peerLocked := f.locked }
    lastCycle := f.cycle.toNat
    filter := y }
  if y.alarm && !p.filter.alarm then s1.latchTrunk t .remoteAlarm else s1

/-- Whether the latest arrival was a matching HEAD (R100). -/
def State.setPrevHead (s : State) (t : Trunk) (b : Bool) : State := s.setPort t { s.port t with prevHead := b }

/-- The peer-hears flag takes a PROBE's HEARD value (R102). -/
def State.setPeerHears (s : State) (t : Trunk) (b : Bool) : State := s.setPort t { s.port t with peerHears := b }

/-- The heard-this-period flag is set (R102). -/
def State.setHeard (s : State) (t : Trunk) : State := s.setPort t { s.port t with heard := true }

/-- DOWN to HUNT, without a trunk restart (R103). -/
def State.downToHunt (s : State) (t : Trunk) : State := s.setPort t { s.port t with state := .hunt }

/-! ## Completion of an inbound entry (R143) -/

/-- What release of a piece comes to. -/
inductive Released where
  /-- the Apply Unit has taken the piece -/
  | taken (s : State)
  /-- the piece waits at the head of the reorder store (R139) -/
  | waits (s : State)
  /-- a protocol error: the trunk makes a protocol restart (R91) -/
  | error (s : State)

/-- A complete entry's check is compared; it joins the apply queue, or is BODY-MISMATCH (R143). -/
def State.completeEntry (s : State) (k : Nat) (e : InEntry) : Released :=
  let r := s.inRec k
  if photoFinish e.crc = e.notice.check then
    .taken ((s.setInRec k { r with reassembly := none, queue := r.queue ++ [e], expected := r.expected + 1 }).forwardTest k)
  else .error ((s.setInRec k { r with reassembly := none }).discardInbound e)

/-! ## NOTICE dispatch (Section 7.3) -/

/-- A malformed NOTICE (R136); its patch writes were read by R195. -/
def Notice.malformed (n : Notice) : Bool :=
  !(1 ≤ n.kind && n.kind ≤ 4)
    || decide (Config.maxBody < n.bodyLength) || (n.kind != 1 && n.bodyLength != 0)
    || n.segments != (if n.kind = 1 then slotsFor n.bodyLength else 0)
    || !patchesOk n.patches || ((n.kind == 3 || n.kind == 4) && !n.patches.isEmpty)
    || n.seq == 0 || decide (Config.maxSeq < n.seq)

/-- Adoption of a NOTICE's epoch (R137); the record stays on the slot wait list (DEDUCED, log 31, unsafe). -/
def State.adopt (s : State) (k : Nat) (n : Notice) : State :=
  let r := s.inRec k
  let s1 := s.discardAll r.reassembly.toList
  s1.setInRec k { r with
    reassembly := none
    skip := none
    queue := r.queue.map InEntry.former
    epoch := some n.epoch
    expected := n.seq
    applied := n.seq - 1 }

/-- The inbound slots an accepted NOTICE needs (R78). -/
def Notice.slotsNeeded (n : Notice) : Nat := if n.kind = 1 then slotsFor n.bodyLength else 0

/-- There is room for the NOTICE: a backlog place and inbound slots (R139, R78). -/
def State.roomFor (s : State) (n : Notice) : Bool :=
  s.apply.backlog < Config.backlogLimit && s.body.inUse + n.slotsNeeded ≤ Config.inLimit

/-- A backlog place and inbound slots are taken (R139). -/
def State.takeRoom (s : State) (n : Notice) : State :=
  (s.setApply { s.apply with backlog := s.apply.backlog + 1 }).setBody
    { s.body with inUse := s.body.inUse + n.slotsNeeded }

/-- Acceptance of a NOTICE for which there is room (R140), or its wait (R139). -/
def State.acceptNotice (s : State) (k : Nat) (n : Notice) : Released :=
  if s.roomFor n then
    let s1 := (s.takeRoom n).merge n.stamp
    let m := s1.pinForNotice n.bucket n.digest
    let e : InEntry := ⟨n, 0, n.slotsNeeded, [], photoStart, m.1, true⟩
    let s2 := m.2
    let r := s2.inRec k
    if 0 < n.segments then .taken (s2.setInRec k { r with skip := none, reassembly := some e })
    else (s2.setInRec k { r with skip := none }).completeEntry k e
  else .waits s

/-- The duplicates statistic of a trunk (R138, R142). -/
def State.countDuplicate (s : State) (t : Trunk) : State :=
  let p := s.port t
  s.setPort t { p with stats := { p.stats with duplicates := p.stats.duplicates + 1 } }

/-- A duplicate NOTICE is passed over (R138). -/
def State.duplicateNotice (s : State) (t : Trunk) (k : Nat) (n : Notice) : State :=
  let r := s.inRec k
  (s.countDuplicate t).setInRec k { r with
    ackOwed := r.ackOwed || decide (n.seq ≤ r.applied)
    skip := if 0 < n.segments then some ⟨n.seq, n.segments, 0⟩ else none }

/-- Dispatch of a NOTICE (R136, Table 7-4). -/
def State.dispatchNotice (s : State) (t : Trunk) (n : Notice) : Released :=
  let k := recKey t n.bucket
  let r := s.inRec k
  if n.malformed then .error s
  else if Config.buckets ≤ n.bucket then .error s
  else if r.epoch ≠ some n.epoch then (s.adopt k n).acceptNotice k n
  else if r.reassembly.isSome then .error s
  else if n.seq = r.expected then s.acceptNotice k n
  else if n.seq < r.expected then .taken (s.duplicateNotice t k n)
  else .error s

/-! ## SEGMENT dispatch (R142) -/

/-- The byte count a segment of an entry must carry: 8,128, or the remainder for the last index (R142). -/
def Notice.segmentBytes (n : Notice) (i : Nat) : Nat := min Config.segBytes (n.bodyLength - i * Config.segBytes)

/-- The segment is the next of the entry being rebuilt, and of the right length. -/
def InEntry.takes (e : InEntry) (g : Segment) : Bool :=
  e.notice.seq == g.seq && e.received == g.index && g.count == e.notice.segmentBytes g.index && g.bytes.length == g.count

/-- The entry with one more segment (R79, R142). -/
def InEntry.addSegment (e : InEntry) (g : Segment) : InEntry :=
  { e with received := e.received + 1, bytes := e.bytes ++ g.bytes, crc := photoFold e.crc g.bytes }

/-- The segment is the next of the duplicate being passed over (R142 case 2). DEDUCED (log 39, unsafe): case 2 tests no
byte count, so a SEGMENT whose count R195 calls of the wrong length is passed over too when its seq and index fit. -/
def Skip.takes (x : Skip) (g : Segment) : Bool := x.seq == g.seq && x.passed == g.index

/-- The skip with one more segment passed; it ends at its segment count (R142). -/
def Skip.pass (x : Skip) : Option Skip :=
  if x.passed + 1 < x.segments then some { x with passed := x.passed + 1 } else none

/-- Dispatch of a SEGMENT (R142). -/
def State.dispatchSegment (s : State) (t : Trunk) (g : Segment) : Released :=
  let k := recKey t g.bucket
  let r := s.inRec k
  if Config.buckets ≤ g.bucket then .error s
  else
    match r.reassembly.filter (·.takes g), r.skip.filter (·.takes g) with
    | some e, _ =>
      let e1 := e.addSegment g
      if e1.received < e1.notice.segments then .taken (s.setInRec k { r with reassembly := some e1 })
      else s.completeEntry k e1
    | none, some x => .taken ((s.countDuplicate t).setInRec k { r with skip := x.pass })
    | none, none => .error s

/-! ## Release (R133) -/

/-- A released payload is dispatched by its piece; a stray piece is an error (R141, R195). -/
def State.dispatch (s : State) (t : Trunk) (payload : List Byte) : Released :=
  match parsePiece payload with
  | .notice n => s.dispatchNotice t n
  | .segment g => s.dispatchSegment t g
  | .stray => .error s

/-- Frame E leaves the reorder store and E increases by 1 (R133). -/
def State.frameTaken (s : State) (t : Trunk) : State :=
  let p := s.port t
  s.setPort t { p with reorder := p.reorder.del p.expectedFrame, expectedFrame := p.expectedFrame + 1 }

/-- Release in frame-number order, at most fuel frames (R133). -/
def State.releaseFrames (s : State) (t : Trunk) : Nat → State
  | 0 => s
  | fuel + 1 =>
    match (s.port t).reorder.lookup (s.port t).expectedFrame with
    | none => s
    | some payload =>
      match s.dispatch t payload with
      | .taken s1 => (s1.frameTaken t).releaseFrames t fuel
      | .waits s1 => s1
      | .error s1 => s1.protocolRestart t

/-- Release until frame E is not held or waits (R133): no more frames than the store holds. -/
def State.release (s : State) (t : Trunk) : State := s.releaseFrames t (s.port t).reorder.length

end Sys2Proof.Machine
end

