-- ==== Sys2Proof/Machine/Sending.lean ====
section
/-! DEFINITION. The send side of a trunk: frames, the band arbiter, takes and seals, SERVICE frames, and what a received
SERVICE frame does to the stores and the Journal (Chapter 6, Sections 1.5 and 1.6). -/

namespace Sys2Proof.Machine

/-! ## Frames built (R84, Table 10-10) -/

/-- The own site id as a field: 0 while unset, as the status reply then shows it (DESIGN CHOICE, log 42, unsafe). -/
def State.ownSite (s : State) : Nat := s.clock.site.getD 0

/-- The own incarnation stamp as a field: 0 while absent, as the status reply then shows it (DESIGN CHOICE, log 42,
unsafe). -/
def State.ownIncarnation (s : State) : Stamp := s.clock.incarnation.getD 0#64

/-- A FILL frame (R84). -/
def State.fillFrame (s : State) : Frame :=
  { Frame.blank frameFill with ready := true, site := s.ownSite, incarnation := s.ownIncarnation }

/-- A HEAD frame of a trunk, its flags LOCKED and ALARM by the trunk's state (R84). -/
def State.headFrame (s : State) (t : Trunk) : Frame :=
  let p := s.port t
  { Frame.blank frameHead with
    ready := true
    locked := if p.state = .align then p.lock.held else p.state = .running
    alarm := p.state = .resync
    site := s.ownSite
    k := p.config.k
    align := Config.alignWord
    incarnation := s.ownIncarnation
    cycle := p.cycleCounter }

/-- A SERVICE frame, or its echo copy (R114, R129). -/
def serviceFrame (f : ServiceFrame) (echo : Bool) : Frame :=
  { Frame.blank frameService with echo := echo, payload := servicePayload f }

/-- A CARRY frame (R122). -/
def carryFrame (number : Nat) (payload : List Byte) : Frame :=
  { Frame.blank frameCarry with number := number, payload := payload }

/-- A PROBE frame (R102). -/
def State.probeFrame (s : State) (t : Trunk) : Frame :=
  { Frame.blank frameProbe with
    heard := (s.port t).heard, site := s.ownSite, incarnation := s.ownIncarnation }

/-- Byte i of an 8-byte custom pattern, byte 0 first on the wire. -/
def customByte (c : BitVec 64) (i : Nat) : Byte := (c >>> (8 * (7 - i % 8))).setWidth 8

/-- Payload byte i of test frame f (Table 5-6). -/
def patternByte (p : Pattern) (c1 c2 : BitVec 64) (f i : Nat) : Byte :=
  match p with
  | .zeros => 0x00#8
  | .ones => 0xFF#8
  | .alternate => if f % 2 = 0 then 0x55#8 else 0xAA#8
  | .ramp => BitVec.ofNat 8 (f * 8160 + i)
  | .custom => customByte c1 i
  | .customPair => if f % 2 = 0 then customByte c1 i else customByte c2 i

/-- The payload of test frame f (Table 5-6). -/
def patternPayload (p : Pattern) (c1 c2 : BitVec 64) (f : Nat) : List Byte :=
  (List.range Config.payloadBytes).map (patternByte p c1 c2 f)

/-- A TEST frame (R104). -/
def testFrame (u : TestUnit) : Frame :=
  { Frame.blank frameTest with
    counter := u.counter, payload := patternPayload u.send u.custom1 u.custom2 u.counter.toNat }

/-- A frame leaves on a trunk's line: it is counted (R84). -/
def State.emit (s : State) (t : Trunk) (f : Frame) : State :=
  let p := s.port t
  s.setPort t { p with line := p.line ++ [f], stats := { p.stats with framesSent := p.stats.framesSent + 1 } }

/-! ## The band arbiter (Section 6.3) -/

/-- A class's round robin start point. -/
def Port.start (p : Port) : Band → Nat
  | .express => p.expressStart
  | .bulk => p.bulkStart

/-- Move a class's start point past the bucket served (R116). -/
def Port.served (p : Port) (c : Band) (b : Nat) : Port :=
  match c with
  | .express => { p with expressStart := (b + 1) % Config.buckets }
  | .bulk => { p with bulkStart := (b + 1) % Config.buckets }

/-- A bucket with sendable work of a class for a trunk's slot (R116). -/
def State.hasWork (s : State) (t : Trunk) (c : Band) (b : Nat) (r : Bucket) : Bool :=
  r.band = c && r.targets.get t && (s.sendable b t).isSome

/-- The first bucket of a class's round robin with sendable work (R116). Only buckets listed in the table can have any,
and they are listed in id order. -/
def State.searchClass (s : State) (t : Trunk) (c : Band) : Option Nat :=
  ((s.buckets.from ((s.port t).start c)).find? fun e => s.hasWork t c e.1 e.2).map (·.1)

/-- The other class. -/
def Band.other : Band → Band
  | .express => .bulk
  | .bulk => .express

/-- The class and bucket that a slot of a class goes to: its own class, else the other (R115, R117). -/
def State.searchSlot (s : State) (t : Trunk) (own : Band) : Option (Band × Nat) :=
  match s.searchClass t own with
  | some b => some (own, b)
  | none => (s.searchClass t own.other).map fun b => (own.other, b)

/-- Some bucket of either class has sendable work (R119). -/
def State.anyWork (s : State) (t : Trunk) : Bool := (s.searchSlot t .express).isSome

/-! ## Takes (R24, R25, R118, R120, R121) -/

/-- The seal of an entry at the take of its NOTICE: the bucket's next seq, and the map record's unsealed-entry field
clears (R24). -/
def State.seal (s : State) (e : JEntry) : State :=
  let r := s.bucket e.bucket
  let s1 := s.setBucket e.bucket { r with
    nextSeq := r.nextSeq + 1
    seqLimit := r.seqLimit || r.nextSeq + 1 == Config.seqLimit }
  (s1.putEntry { e with seq := some r.nextSeq }).changeObj e.bucket e.digest fun x => { x with unsealed := none }

/-- The entry as its seal leaves it (R24). -/
def State.sealedEntry (s : State) (e : JEntry) : JEntry :=
  match e.seq with
  | some _ => e
  | none => { e with seq := some (s.bucket e.bucket).nextSeq }

/-- The NOTICE of an entry toward a slot (R120); epoch and REBASE as they stand at the take (R10). -/
def noticeOf (e : JEntry) (r : Bucket) (t : Trunk) : Notice :=
  ⟨e.change.code, r.rebase.get t, e.bucket, r.epochs.get t, e.seq.getD 0, e.change.length, e.segments, e.digest, e.stamp,
    e.change.check, e.change.patches⟩

/-- Segment i of an entry (R121), its bytes read from the entry's slots at the take. -/
def segmentOf (e : JEntry) (i : Nat) : Segment :=
  let bytes := (((e.fill.map (·.bytes)).getD []).drop (i * Config.segBytes)).take Config.segBytes
  ⟨e.bucket, e.seq.getD 0, i, bytes.length, bytes⟩

/-- A slot's state after the take of the NOTICE: SENDING at segment 0, or SENT when there is none (R25). -/
def JEntry.afterNotice (e : JEntry) (t : Trunk) : JEntry :=
  { e with peers := e.peers.set t (some (if e.segments = 0 then .sent else .sending 0)) }

/-- A slot's state after the take of segment i (R25). -/
def JEntry.afterSegment (e : JEntry) (t : Trunk) (i : Nat) : JEntry :=
  { e with peers := e.peers.set t (some (if i + 1 < e.segments then .sending (i + 1) else .sent)) }

/-- The entries-begun statistic of a trunk (R25). -/
def State.countBegun (s : State) (t : Trunk) : State :=
  let p := s.port t
  s.setPort t { p with stats := { p.stats with entriesBegun := p.stats.entriesBegun + 1 } }

/-- The take of the cursor entry's next piece: the payload it gives, the entry as it then stands, and the state (R118). -/
def State.takePiece (s : State) (t : Trunk) (e : JEntry) : List Byte × JEntry × State :=
  match e.peers.get t with
  | some (.sending i) =>
    let e1 := e.afterSegment t i
    (segmentPayload (segmentOf e i), e1, s.putEntry e1)
  | _ =>
    let s1 := if e.seq.isNone then s.seal e else s
    let e1 := (s.sealedEntry e).afterNotice t
    (noticePayload (noticeOf e1 (s1.bucket e.bucket) t), e1, (s1.putEntry e1).countBegun t)

/-- The stall timer, started with the stall time in force (R170). -/
def State.startStall (s : State) (t : Trunk) : State :=
  s.setSup t { s.sup t with stall := some ⟨s.now, (s.port t).config.stallTime * 1000 * Config.nsPerMs⟩ }

/-- A new CARRY frame for a piece taken: it bears the next frame number, enters the retransmit store, counts in its
entry's frames out, and leaves (R122, R123, R70); a rise of in-flight from 0 starts the stall timer (R170). -/
def State.sendPiece (s : State) (t : Trunk) (moment : Nat) (payload : List Byte) (e : JEntry) : State :=
  let p := s.port t
  let f := carryFrame p.nextFrame payload
  let s1 := s.putEntry { e with framesOut := e.framesOut + 1 }
  let s2 := s1.setPort t { p with
    nextFrame := p.nextFrame + 1
    store := p.store ++ [⟨p.nextFrame, f, e.handle, moment, moment, false⟩] }
  let s3 := if p.store.isEmpty then s2.startStall t else s2
  s3.emit t f

/-- A slot that would carry FILL: FILL, or in an echo cycle a copy of the cycle's SERVICE frame (R114). -/
def State.fillSlot (s : State) (t : Trunk) : State :=
  match (s.port t).echoCycle, (s.port t).cycleService with
  | true, some f => s.emit t (serviceFrame f true)
  | _, _ => s.emit t s.fillFrame

/-- The frame at the head of the resend queue: the lowest-numbered of the store that is queued (R124). -/
def Port.resendHead (p : Port) : Option SentFrame := p.store.find? (·.queued)

/-- The resend of a frame: it leaves the queue, keeps its number and content, and stays in the store (R124). -/
def State.resend (s : State) (t : Trunk) (moment : Nat) (f : SentFrame) : State :=
  let p := s.port t
  (s.setPort t { p with store := p.store.map fun x =>
    if x.number = f.number then { x with queued := false, lastSend := moment } else x }).emit t f.frame

/-- An express or bulk slot (R115, R117, R119, R122). -/
def State.dataSlot (s : State) (t : Trunk) (own : Band) (moment : Nat) : State :=
  let p := s.port t
  match p.resendHead with
  | some f => s.resend t moment f
  | none =>
    if p.inFlight < p.window then
      match s.searchSlot t own with
      | none => s.fillSlot t
      | some (c, b) =>
        match s.sendable b t with
        | none => s.fillSlot t
        | some e =>
          if p.nextFrame = Config.noFrame then (s.fillSlot t).protocolRestart t
          else
            let r := (s.setPort t (p.served c b)).takePiece t e
            (r.2.2.sendPiece t moment r.1 r.2.1).refillRefresh
    else
      let s1 := s.fillSlot t
      if s.anyWork t then s1.latchTrunk t .windowFull else s1

/-! ## The outgoing SERVICE frame (Section 6.6) -/

/-- The scan of R130 over a trunk's records in order, with room for n more: the acknowledgements placed, and the buckets
whose ack owed flag the scan clears. -/
def ackScan : List (Nat × InRec) → Nat → List EntryAck × List Nat
  | [], _ => ([], [])
  | _, 0 => ([], [])
  | (b, r) :: rest, n + 1 =>
    if r.ackOwed then
      match r.epoch with
      | some e =>
        let x := ackScan rest n
        (⟨b, e, r.applied⟩ :: x.1, b :: x.2)
      | none =>
        let x := ackScan rest (n + 1)
        (x.1, b :: x.2)
    else ackScan rest (n + 1)

/-- A trunk's inbound records by bucket id. -/
def State.recsByBucket (s : State) (t : Trunk) : Table InRec :=
  (s.apply.records.filter (fun e => keyOf t e.1)).map fun e => (e.1 % Config.buckets, e.2)

/-- The received-through number that the reorder store reports (R134). -/
def Port.through (p : Port) : Option Nat := if p.expectedFrame = 0 then none else some (p.expectedFrame - 1)

/-- The bitmap that the reorder store reports: which of the 256 frames from E on it holds (R134). -/
def Port.marks (p : Port) : List Bool :=
  (List.range 256).map fun i => (p.reorder.lookup (p.expectedFrame + i)).isSome

/-- The scan's effect on the records: the flags it passed are clear (R130). -/
def State.clearOwed (s : State) (t : Trunk) (bs : List Nat) : State :=
  s.setApply { s.apply with
    records := s.apply.records.mapOn .reset (fun k => keyOf t k && bs.contains (k % Config.buckets))
      fun r => { r with ackOwed := false } }

/-- The SERVICE frame for position 1 is built and leaves (R129, R130). -/
def State.sendService (s : State) (t : Trunk) : State :=
  let p := s.port t
  let x := ackScan ((s.recsByBucket t).from p.ackStart) Config.acksPerFrame
  let f : ServiceFrame := ⟨p.through, p.marks, x.1⟩
  let s1 := s.clearOwed t x.2
  let s2 := s1.setPort t { p with
    cycleService := some f
    ackStart := match x.1.getLast? with
      | none => p.ackStart
      | some a => (a.bucket + 1) % Config.buckets }
  s2.emit t (serviceFrame f false)

/-! ## Entry acknowledgements (Section 1.6) -/

/-- The four cases that discard an entry acknowledgement, in order (R26). DESIGN CHOICE (log 37, unsafe): the bucket id
has two bytes and R26 names no id above 4,095; such an id is read as an ABSENT bucket, case 1. -/
def State.badAck (s : State) (t : Trunk) (a : EntryAck) : Bool :=
  let r := s.bucket a.bucket
  r.state = .absent || a.epoch != r.epochs.get t || decide (r.nextSeq - 1 < a.seq) || !r.targets.get t

/-- The acknowledgement covers the entry for the slot (R27). -/
def JEntry.coveredBy (e : JEntry) (t : Trunk) (a : EntryAck) : Bool :=
  e.bucket == a.bucket && (e.peers.get t).isSome &&
    match e.seq with
    | none => false
    | some n => n ≤ a.seq

/-- An accepted entry acknowledgement (R27). -/
def State.acceptAck (s : State) (t : Trunk) (a : EntryAck) : State :=
  let covered := s.journal.entries.filter (·.coveredBy t a)
  if covered.isEmpty then s
  else
    let p := s.port t
    let s1 := s.setPort t { p with
      stats := { p.stats with entriesAcked := p.stats.entriesAcked + BitVec.ofNat 32 covered.length } }
    let r := s1.bucket a.bucket
    let s2 := s1.setBucket a.bucket { r with rebase := r.rebase.set t false }
    let s3 := s2.setEntries (s2.journal.entries.map fun e => if e.coveredBy t a then e.dropSlot t else e)
    let gone := (covered.map (·.dropSlot t)).filter (·.noPending)
    (gone.foldl State.removeEntry s3).refillRefresh

/-- One entry acknowledgement, as one request to the Journal (R26, R27). -/
def State.entryAck (t : Trunk) (s : State) (a : EntryAck) : State :=
  if s.badAck t a then s.setStats { s.sli.stats with badAcks := s.sli.stats.badAcks + 1 }
  else s.acceptAck t a

/-! ## A SERVICE frame received (R126 to R128) -/

/-- The first frame that the bitmap covers (R126). -/
def serviceBase (f : ServiceFrame) : Nat :=
  match f.through with
  | none => 0
  | some r => r + 1

/-- The frame's mark is set (R126). -/
def serviceMarked (f : ServiceFrame) (n : Nat) : Bool :=
  serviceBase f ≤ n && f.marks.getD (n - serviceBase f) false

/-- The frame is acknowledged: at or below R, or marked (R126). -/
def serviceCovers (f : ServiceFrame) (n : Nat) : Bool := n < serviceBase f || serviceMarked f n

/-- The gap rule's reference point: the highest-numbered marked frame still in the store (R127). -/
def Port.gapPoint (p : Port) (f : ServiceFrame) : Option SentFrame := (p.store.filter fun x => serviceMarked f x.number).getLast?

/-- A frame of the store joins the resend queue by the gap rule (R127), being on it not yet (R124). -/
def gapJoins (f : ServiceFrame) (m x : SentFrame) : Bool :=
  x.number < m.number && !serviceCovers f x.number && x.lastSend < m.firstSend && !x.queued

/-- The store after the gap rule, and how many frames joined the resend queue (R127). -/
def Port.gapJoin (p : Port) (f : ServiceFrame) : List SentFrame × Nat :=
  match p.gapPoint f with
  | none => (p.store, 0)
  | some m =>
    (p.store.map fun x => if gapJoins f m x then { x with queued := true } else x, p.store.countP (gapJoins f m))

/-- R is higher than the kept received-through; no number is lower than every number (R128). -/
def Port.rises (p : Port) (r : Option Nat) : Bool :=
  match r, p.peerThrough with
  | none, _ => false
  | some _, none => true
  | some r, some k => k < r

/-- The frame-level part of a SERVICE frame: gap rule, removals, received-through, stall timer (R126 to R128, R170). -/
def State.serviceStore (s : State) (t : Trunk) (f : ServiceFrame) : State :=
  let p := s.port t
  let j := p.gapJoin f
  let left := j.1.filter fun x => !serviceCovers f x.number
  let rise := p.rises f.through
  let s1 := s.setPort t { p with
    peerSeenRunning := true
    store := left
    peerThrough := if rise then f.through else p.peerThrough
    peerThroughAt := if rise then s.now else p.peerThroughAt }
  let s2 := (s1.countEvents t .resend j.2).framesLeave (p.store.filter fun x => serviceCovers f x.number)
  if left.isEmpty then s2.setSup t { s2.sup t with stall := none }
  else if rise then s2.startStall t
  else s2

/-- A SERVICE frame acted on in RUNNING or RESYNC (R126): the stores, then the entry acknowledgements in order. -/
def State.serviceActs (s : State) (t : Trunk) (f : ServiceFrame) : State :=
  f.acks.foldl (State.entryAck t) (s.serviceStore t f)

end Sys2Proof.Machine
end

