-- ==== Sys2Proof/Machine/Arrivals.lean ====
section
/-! DEFINITION. Arrivals on a trunk: HEAD, FILL, PROBE, SERVICE, CARRY and TEST frames, and frames that are not valid
(Sections 5.5 to 5.7, Chapter 7). -/

namespace Sys2Proof.Machine

/-! ## What every arrival does (R82, R92, R98) -/

/-- The lock's part of a frame that is no matching HEAD, which is then the latest arrival (R95, R98, R100). -/
def State.otherArrival (s : State) (t : Trunk) : State := (s.lockStep t none).setPrevHead t false

/-- An arrival in a state other than OFF and TEST, up to the deframer's own handling: counted, reported (R82). -/
def State.reported (s : State) (t : Trunk) (valid : Bool) (m : Marks) : State := (s.countArrival t).reportArrival t valid m

/-- An arrival, by the trunk's state: nothing in OFF, counted only in TEST, else handled (R82, R88, R92). -/
def State.arrival (s : State) (t : Trunk) (handle : State → State) : State :=
  match (s.port t).state with
  | .off => s
  | .test => s.countArrival t
  | _ => handle s

/-! ## HEAD (R93 to R95, R98, R99, R101, R103) -/

/-- What the state machine makes of a HEAD from the expected peer (R94, R103). -/
def State.headMoves (s : State) (t : Trunk) (f : HeadFrame) : State :=
  match (s.port t).state with
  | .hunt => if f.ready then s.enterAlign t else s
  | .down => s.downToHunt t
  | _ => s

/-- The lock's and the filter's part of a HEAD from the expected peer (R95, R98, R99, R101). DEDUCED (log 38, unsafe): a
candidate run that HEADs with READY clear have begun in HUNT goes on by R95 with the HEAD that moves the trunk to ALIGN,
which R94 calls the first of the run. -/
def State.headLocks (s : State) (t : Trunk) (f : HeadFrame) : State :=
  let k := s.matchingK t f
  let s1 := s.lockStep t k
  if (s.port t).state.locking && k.isSome then s1.headFlags t f else s1

/-- A HEAD from the expected peer, after the report: the incarnation check, and unless it was a start-over the lock, the
flags and the state machine (R93, log 9). -/
def State.peerHead (s : State) (t : Trunk) (f : HeadFrame) : State :=
  let r := s.incarnationCheck t f.incarnation
  if r.2 then r.1
  else ((r.1.headLocks t f).headMoves t f).setPrevHead t (r.1.matchingK t f).isSome

/-- A valid HEAD (R92). -/
def State.headArrives (t : Trunk) (f : HeadFrame) (s : State) : State :=
  let s1 := s.reported t true (s.senderMarks t f.site.toNat f.incarnation)
  if s1.fromPeer t f.site.toNat then s1.peerHead t f else s1.otherArrival t

/-- HEAD_RECEIVED (R95). -/
def execHeadReceived (t : Trunk) (f : HeadFrame) (s : State) : Host.Outcome State Fault Refusal :=
  .next (s.arrival t (State.headArrives t f))

/-! ## FILL (R93, R94, R100, R102, R103) -/

/-- A FILL right behind a matching HEAD, from a peer seen running, is a start-over (R100). -/
def Port.startOver (p : Port) (behindHead : Bool) : Bool := p.state.up && behindHead && p.peerSeenRunning

/-- What the state machine makes of a FILL from the expected peer (R94, R100, R102, R103). -/
def State.fillMoves (s : State) (t : Trunk) (f : FillFrame) (behindHead : Bool) : State :=
  match (s.port t).state with
  | .hunt => if f.ready then s.enterAlign t else s
  | .down => (s.setHeard t).downToHunt t
  | .faulted => s.setHeard t
  | _ => if (s.port t).startOver behindHead then s.protocolRestart t else s

/-- A FILL from the expected peer, after the report (R93, log 9). -/
def State.peerFill (s : State) (t : Trunk) (f : FillFrame) : State :=
  let r := s.incarnationCheck t f.incarnation
  if r.2 then r.1 else (r.1.otherArrival t).fillMoves t f (r.1.port t).prevHead

/-- A valid FILL (R92). -/
def State.fillArrives (t : Trunk) (f : FillFrame) (s : State) : State :=
  let s1 := s.reported t true (s.senderMarks t f.site.toNat f.incarnation)
  if s1.fromPeer t f.site.toNat then s1.peerFill t f else s1.otherArrival t

/-- FILL_RECEIVED (R94). -/
def execFillReceived (t : Trunk) (f : FillFrame) (s : State) : Host.Outcome State Fault Refusal :=
  .next (s.arrival t (State.fillArrives t f))

/-! ## PROBE (R93, R102, R103) -/

/-- What the state machine makes of a PROBE from the expected peer (R102, R103). -/
def State.probeMoves (s : State) (t : Trunk) : State :=
  match (s.port t).state with
  | .hunt => s.setHeard t
  | .down => (s.setHeard t).downToHunt t
  | .faulted => s.setHeard t
  | _ => s

/-- A PROBE from the expected peer, after the report: the peer-hears flag takes its HEARD value, also where it is a
start-over (R93, R102, log 9). -/
def State.peerProbe (s : State) (t : Trunk) (f : ProbeFrame) : State :=
  let r := s.incarnationCheck t f.incarnation
  if r.2 then r.1.setPeerHears t f.heard else ((r.1.otherArrival t).setPeerHears t f.heard).probeMoves t

/-- A valid PROBE (R92). -/
def State.probeArrives (t : Trunk) (f : ProbeFrame) (s : State) : State :=
  let s1 := s.reported t true (s.senderMarks t f.site.toNat f.incarnation)
  if s1.fromPeer t f.site.toNat then s1.peerProbe t f else s1.otherArrival t

/-- PROBE_RECEIVED (R103). -/
def execProbeReceived (t : Trunk) (f : ProbeFrame) (s : State) : Host.Outcome State Fault Refusal :=
  .next (s.arrival t (State.probeArrives t f))

/-! ## Frames that are not valid (R82, R98, R105) -/

/-- Largest test count (R105). -/
def maxTestCount : Nat := 4294967295

/-- A test count goes up, stopping at its largest value (R105). -/
def bumpTest (n : Nat) : Nat := if n < maxTestCount then n + 1 else n

/-- The test checker's verdict on an arrival in TEST (R105). -/
def State.testVerdict (s : State) (t : Trunk) (good : Bool) : State :=
  let p := s.port t
  s.setPort t { p with test :=
    if good then { p.test with good := bumpTest p.test.good } else { p.test with mismatched := bumpTest p.test.mismatched } }

/-- An arrival in TEST that the checker judges (R105). -/
def State.testArrival (s : State) (t : Trunk) (good : Bool) : State := (s.countArrival t).testVerdict t good

/-- An arrival that is not valid, in a state other than OFF and TEST (R82). -/
def State.invalidArrives (t : Trunk) (s : State) : State := (s.reported t false Marks.none).otherArrival t

/-- An arrival that is not valid (R82, R105). -/
def State.invalidFrame (s : State) (t : Trunk) : State :=
  match (s.port t).state with
  | .off => s
  | .test => s.testArrival t false
  | _ => State.invalidArrives t s

/-- INVALID_FRAME_RECEIVED (R82). -/
def execInvalidFrameReceived (t : Trunk) (s : State) : Host.Outcome State Fault Refusal := .next (s.invalidFrame t)

/-! ## SERVICE (R126) -/

/-- A valid frame of a kind that carries no sender: counted, reported, and no matching HEAD (R160, R98). -/
def State.plainArrival (s : State) (t : Trunk) : State := (s.reported t true (s.otherMarks t)).otherArrival t

/-- A valid SERVICE frame: acted on in RUNNING and RESYNC, else discarded (R92, R126). -/
def State.serviceArrives (t : Trunk) (f : ServiceFrame) (s : State) : State :=
  let s1 := s.plainArrival t
  if (s1.port t).state.up then s1.serviceActs t f else s1

/-- SERVICE_RECEIVED (R126); one with more than 1,000 acknowledgements is not valid (R195). -/
def execServiceReceived (t : Trunk) (f : ServiceFrame) (s : State) : Host.Outcome State Fault Refusal :=
  .next
    (if f.acks.length ≤ Config.acksPerFrame then s.arrival t (State.serviceArrives t f) else s.invalidFrame t)

/-! ## CARRY (R132) -/

/-- Cases 1 to 3 of Table 7-1: the frame is discarded. -/
def Port.discards (p : Port) (n : Nat) : Bool :=
  decide (n < p.expectedFrame) || (p.reorder.lookup n).isSome || decide (p.expectedFrame + Config.storeFrames ≤ n)
    || n == Config.noFrame

/-- Case 4 of Table 7-1: the frame is held at its place. -/
def State.holdFrame (s : State) (t : Trunk) (n : Nat) (payload : List Byte) : State :=
  let p := s.port t
  s.setPort t { p with reorder := p.reorder.put n payload }

/-- A valid CARRY frame: placed and released in RUNNING and RESYNC, else discarded (R92, R132, R133). -/
def State.carryArrives (t : Trunk) (n : Nat) (payload : List Byte) (s : State) : State :=
  let s1 := s.plainArrival t
  if (s1.port t).state.up && !(s1.port t).discards n then (s1.holdFrame t n payload).release t else s1

/-- CARRY_RECEIVED (R132). -/
def execCarryReceived (t : Trunk) (frame : Nat) (payload : List Byte) (s : State) : Host.Outcome State Fault Refusal :=
  .next (s.arrival t (State.carryArrives t frame payload))

/-! ## TEST (R105) -/

/-- The payload is the one that the check pattern gives for the counter (R105). -/
def TestUnit.matches (u : TestUnit) (counter : BitVec 32) (payload : List Byte) : Bool :=
  payload == patternPayload u.check u.custom1 u.custom2 counter.toNat

/-- TEST_FRAME_RECEIVED (R105): to the checker in TEST, discarded in the other states (R92). -/
def execTestFrameReceived (t : Trunk) (counter : BitVec 32) (payload : List Byte) (s : State) :
    Host.Outcome State Fault Refusal :=
  .next
    (match (s.port t).state with
    | .off => s
    | .test => s.testArrival t ((s.port t).test.matches counter payload)
    | _ => s.plainArrival t)

end Sys2Proof.Machine
end

