-- ==== Sys2Proof/Machine/Link.lean ====
section
/-! DEFINITION. The site link: taking a record and replying, the send arbiter, and the requests of the Site Link Interface
itself (Chapter 9). What the assembler makes of bytes is in Records.lean. -/

namespace Sys2Proof.Machine

/-! ## Requests and replies (R179, R180) -/

/-- n bytes of 0: a reply's layout in which a refusal fills no field (R194). -/
def zeroBody (n : Nat) : List Byte := List.replicate n 0#8

/-- The assembler after a whole record: IN-STEP, with nothing collected (R178). -/
def Sli.recordEnds (x : Sli) : Sli := { x with asm := ⟨true, []⟩ }

/-- The replies up to and including the last that answers a host request. -/
def throughReply (rs : List LinkRecord) : List LinkRecord := (rs.reverse.dropWhile (·.partTag)).reverse

/-- The replies behind the last that answers a host request. -/
def afterReply (rs : List LinkRecord) : List LinkRecord := (rs.reverse.takeWhile (·.partTag)).reverse

/-- A request is taken when the reply to the previous one has been sent (R180): that reply, and what goes before it
(R184), has left by then (log 4). -/
def Sli.replySent (x : Sli) : Sli :=
  if x.replies.any (fun r => !r.partTag) then
    { x with
      sent := x.sent ++ x.reports.map Report.record ++ throughReply x.replies
      reports := []
      replies := afterReply x.replies }
  else x

/-- The state as it stands when a host request is taken. -/
def State.requestTaken (s : State) : State := s.setSli s.sli.recordEnds.replySent

/-- The reply to a PART restart (R192). -/
def LinkRecord.answersRestart (r : LinkRecord) : Bool := !r.partTag && r.kind == kindRestart && r.result == .ok

/-- No record behind a RESTART is taken before its reply is sent (R192), so that reply has left by then (log 4). -/
def Sli.restartSent (x : Sli) : Sli := if x.replies.any (·.answersRestart) then x.replySent else x

/-- The state as it stands when a record of another role than a host request is taken. -/
def State.recordTaken (s : State) : State := s.setSli s.sli.recordEnds.restartSent

/-- A record ready to leave with the replies (R184). -/
def State.queueReply (s : State) (r : LinkRecord) : State := s.setSli { s.sli with replies := s.sli.replies ++ [r] }

/-- The reply to a request: the request's kind and tag (R177, R180). -/
def State.reply (s : State) (kind : Byte) (w : Wire) (r : Result) (body : List Byte) : State :=
  s.queueReply ⟨kind, false, true, w.tag.toNat, r, body⟩

/-- The body check of a record differs from the one received with it (R179). -/
def damaged (w : Wire) : Bool := bodyCheck w.body != w.check

/-- A link fault that sends a report of its type (R185). -/
def State.linkFault (s : State) (e : LinkErrorType) : State := s.setSli (s.sli.linkFault e)

/-- What an owner makes of a request: the state, the result and the reply body. -/
structure Answer where
  state : State
  result : Result
  body : List Byte

/-- A host request: the tests of R180 in order, then its owner's answer as the reply. -/
def request (kind : Byte) (fits : List Byte → Bool) (act : List Byte → State → Answer) (w : Wire) (s : State) : State :=
  let s0 := s.requestTaken
  if damaged w then (s0.linkFault .bodyCheck).reply kind w .badCheck []
  else if fits w.body then
    let a := act w.body s0
    a.state.reply kind w a.result a.body
  else s0.reply kind w .badArgument []

/-! ## The send arbiter (R184) -/

/-- The kind code of a part request (Table 10-2). -/
def PartKind.code : PartKind → Byte
  | .apply => kindApply
  | .bodyWanted => kindBodyWanted

/-- A tag enters the table as its APPLY or BODY-WANTED leaves (R181); a BODY-OUT enters none (R183). -/
def Sli.enterTag (x : Sli) (r : LinkRecord) : Sli :=
  if r.kind = kindApply then { x with tags := Table.put r.tag .apply x.tags }
  else if r.kind = kindBodyWanted then { x with tags := Table.put r.tag .bodyWanted x.tags }
  else x

/-- The next whole record leaves: the oldest report, else the oldest reply, else the oldest part record (R184). -/
def Sli.sendNext (x : Sli) : Sli :=
  match x.reports with
  | r :: rest => { x with reports := rest, sent := x.sent ++ [r.record] }
  | [] =>
    match x.replies with
    | r :: rest => { x with replies := rest, sent := x.sent ++ [r] }
    | [] =>
      match x.partQueue with
      | r :: rest => ({ x with partQueue := rest, sent := x.sent ++ [r] }).enterTag r
      | [] => x

/-! ## Status and statistics (R187, R191) -/

/-- The records of the map that hold a pin (R60). -/
def State.pinned (s : State) : Nat := s.map.countP fun r => 0 < r.pins

/-- The PARKED entries (R81). -/
def State.parkedCount (s : State) : Nat := s.journal.entries.countP fun e => e.bodyState = .parked

/-- The held inbound records (R155). -/
def State.heldCount (s : State) : Nat := s.apply.records.countP fun e => e.2.held

/-- The Stamp Clock's part of the status reply (R45). R45 gives flags for an unset site id and an absent incarnation stamp,
and no value for their fields, which the model fills with 0 (DESIGN CHOICE, log 42, unsafe). -/
def State.clockStatus (s : State) : List Byte :=
  beBytes 8 s.siteClock ++ beBytes 8 s.clock.l ++ beBytes 2 s.clock.c
    ++ beBytes 1 (bitsToNat [s.clock.set, s.clock.site.isSome, s.clock.incarnation.isSome])
    ++ beBytes 1 s.ownSite ++ beBytes 4 s.clock.skew ++ beBytes 8 s.ownIncarnation.toNat

/-- The map's and the Body Store's part of the status reply (R60, R81). -/
def State.storeStatus (s : State) : List Byte :=
  beBytes 4 s.map.length ++ beBytes 4 s.pinned
    ++ beBytes 4 s.body.outUse ++ beBytes 4 s.body.inUse ++ beBytes 1 (flag s.body.parkOn) ++ beBytes 3 0
    ++ beBytes 4 s.parkedCount ++ beBytes 4 s.body.refillQueue.length ++ beBytes 4 s.body.refillTable.length

/-- The Apply Unit's part of the status reply (R155). -/
def State.applyStatus (s : State) : List Byte :=
  beBytes 4 s.apply.backlog ++ beBytes 4 s.apply.slots.length ++ beBytes 4 s.heldCount ++ beBytes 4 s.apply.waitList.length

/-- The reply body of STATUS-READ and STATUS-PEEK (Table 10-9). -/
def State.statusBody (s : State) : List Byte :=
  beBytes 8 s.sli.latches.vector ++ s.clockStatus ++ s.storeStatus ++ s.applyStatus
    ++ s.ports.toList.flatMap (fun p => beBytes 1 p.state.code) ++ beBytes 4 s.sli.reports.length

/-- The latches after a STATUS-READ: those whose condition stands (R187). -/
def State.latchesRead (s : State) : State := s.setSli { s.sli with latches := s.sli.latches.keep s.conditions }

/-- The part-wide statistics in the order of R191. -/
def PartStats.toList (x : PartStats) : List (BitVec 32) :=
  [x.submits, x.supersedes, x.merges, x.parks, x.refills, x.lostBodies, x.voids, x.staleDiscards, x.uncheckedApplies,
    x.skewClamps, x.borrowAheads, x.badAcks]

/-- The per-trunk statistics in the order of R191. -/
def TrunkStats.toList (x : TrunkStats) : List (BitVec 32) :=
  [x.framesSent, x.framesReceived, x.entriesBegun, x.entriesAcked, x.duplicates, x.protocolRestarts]

/-- The reply body of STATS-READ (Table 10-9). -/
def State.statsBody (s : State) : List Byte :=
  (s.sli.stats.toList ++ s.ports.toList.flatMap (fun p => p.stats.toList)).flatMap fun v => beBytes 4 v.toNat

/-! ## Owners' answers -/

/-- STATUS-READ (R187): the reply shows the latches before they clear. -/
def answerStatusRead (_ : List Byte) (s : State) : Answer := ⟨s.latchesRead, .ok, s.statusBody⟩

/-- STATUS-PEEK (R188). -/
def answerStatusPeek (_ : List Byte) (s : State) : Answer := ⟨s, .ok, s.statusBody⟩

/-- REPORT-MASK (R189). -/
def answerReportMask (body : List Byte) (s : State) : Answer :=
  let mask := parseMask body
  ⟨s.setSli { s.sli with mask := mask }, .ok, beBytes 8 mask.vector⟩

/-- STATS-READ (R191). -/
def answerStatsRead (_ : List Byte) (s : State) : Answer := ⟨s, .ok, s.statsBody⟩

/-- RESTART (R192). -/
def answerRestart (body : List Byte) (s : State) : Answer :=
  if parseFirst body = 1 then ⟨s.partRestart, .ok, []⟩ else ⟨s, .badArgument, []⟩

/-! ## Records taken whole, and the other commands of the link -/

/-- POWER_ON_RESET (R193, and R1, R32, R39, R46, R48, R61, R107, R131, R135, R159, R176): every block takes its initial
state. What waits to reach the part, and the counter behind the free values, are not the part's (log 26). -/
def execPowerOnReset (s : State) : Host.Outcome State Fault Refusal :=
  .next { State.reset with freeCount := s.freeCount, pending := s.pending }

/-- The STATUS-READ record is taken whole (R187). -/
def takeStatusRead (w : Wire) (s : State) : State :=
  request kindStatusRead (fitsSize 0) answerStatusRead w s

/-- The STATUS-PEEK record is taken whole (R188). -/
def takeStatusPeek (w : Wire) (s : State) : State :=
  request kindStatusPeek (fitsSize 0) answerStatusPeek w s

/-- The REPORT-MASK record is taken whole (R189). -/
def takeReportMask (w : Wire) (s : State) : State :=
  request kindReportMask (fitsSize 8) answerReportMask w s

/-- The STATS-READ record is taken whole (R191). -/
def takeStatsRead (w : Wire) (s : State) : State :=
  request kindStatsRead (fitsSize 0) answerStatsRead w s

/-- The RESTART record is taken whole (R192). -/
def takeRestart (w : Wire) (s : State) : State :=
  request kindRestart (fitsSize 4) answerRestart w s

/-- A request of unknown kind is taken whole (R180): the body check first, then UNKNOWN-KIND with the kind echoed. -/
def takeUnknownKind (kind : Byte) (w : Wire) (s : State) : State :=
  let s0 := s.requestTaken
  if damaged w then (s0.linkFault .bodyCheck).reply kind w .badCheck [] else s0.reply kind w .unknownKind []

/-- A record of a role that the host does not send is taken whole (R177): discarded, LINK-ERROR latched without a report;
a failed body check has its own report (R179). -/
def takeRoleFault (w : Wire) (s : State) : State :=
  let s0 := s.recordTaken
  let s1 := s0.setSli s0.sli.latchLinkError
  if damaged w then s1.linkFault .bodyCheck else s1

/-- RECORD_SEND (R184). -/
def execRecordSend (s : State) : Host.Outcome State Fault Refusal := .next (s.setSli s.sli.sendNext)

end Sys2Proof.Machine
end

