-- ==== Sys2Proof/Machine/Bodies.lean ====
section
/-! DEFINITION. The commands of the Body Store: CHUNK, BODY_WANTED_SEND and PARK_ENTRY, and its answer to BODY-WANTED
replies (Sections 4.3 to 4.5). -/

namespace Sys2Proof.Machine

/-! ## CHUNK (R66 to R68) -/

/-- The reply body of CHUNK, from the state it leaves (Table 10-5). -/
def State.chunkBody (s : State) (h : Handle) (check : BitVec 64) : List Byte :=
  match s.entryAt h with
  | none => beBytes 4 h.value ++ beBytes 4 0 ++ beBytes 1 0 ++ beBytes 3 0 ++ beBytes 8 check.toNat
  | some e =>
    beBytes 4 h.value ++ beBytes 4 ((e.fill.map (·.bytes.length)).getD 0) ++ beBytes 1 e.bodyState.code ++ beBytes 3 0
      ++ beBytes 8 check.toNat

/-- The entry takes CHUNKs: FILLING or REFILLING (R66). -/
def JEntry.filling (e : JEntry) : Bool := e.bodyState = .filling || e.bodyState = .refilling

/-- The fill record after the data of an accepted CHUNK (R67). -/
def Fill.take (f : Fill) (data : List Byte) : Fill :=
  { f with bytes := f.bytes ++ data, crc := photoFold f.crc data }

/-- An entry whose fill has failed its check is withdrawn, lost or voided (R68). -/
def State.fillFailed (s : State) (e : JEntry) : State :=
  if e.bodyState = .filling then s.removeEntry e
  else if e.seq.isNone then s.loseEntry e
  else s.convertVoid e

/-- The completion of a fill (R68). -/
def State.fillComplete (s : State) (h : Handle) (e : JEntry) (f : Fill) : Answer :=
  if photoFinish f.crc = e.change.check then
    let s1 := s.putEntry { e with fill := some f, bodyState := .ready, refillTag := none }
    ⟨s1, .ok, s1.chunkBody h 0⟩
  else
    let s1 := (s.fillFailed e).refillRefresh
    ⟨s1, .badCheck, s1.chunkBody h (photoFinish f.crc)⟩

/-- An accepted CHUNK (R67). -/
def State.fillWith (s : State) (h : Handle) (e : JEntry) (f : Fill) (data : List Byte) : Answer :=
  let f1 := f.take data
  if f1.bytes.length = e.change.length then s.fillComplete h e f1
  else
    let s1 := s.putEntry { e with fill := some f1 }
    ⟨s1, .ok, s1.chunkBody h 0⟩

/-- CHUNK (Table 4-2). -/
def answerChunk (body : List Byte) (s : State) : Answer :=
  let q := parseChunk body
  match (s.entryAt q.handle).filter JEntry.filling with
  | none => ⟨s, .noEntry, s.chunkBody q.handle 0⟩
  | some e =>
    match e.fill with
    | none => ⟨s, .noEntry, s.chunkBody q.handle 0⟩
    | some f =>
      if q.offset ≠ f.bytes.length then ⟨s, .outOfOrder, s.chunkBody q.handle 0⟩
      else if e.change.length < q.offset + q.data.length then ⟨s, .badArgument, s.chunkBody q.handle 0⟩
      else s.fillWith q.handle e f q.data

/-- The CHUNK record is taken whole (R66). -/
def takeChunk (w : Wire) (s : State) : State :=
  request kindChunk fitsChunk answerChunk w s

/-! ## BODY_WANTED_SEND (R73) -/

/-- The BODY-WANTED record of an entry (Table 10-6). -/
def bodyWantedRecord (tag : Nat) (e : JEntry) : LinkRecord :=
  ⟨kindBodyWanted, true, false, tag, .ok,
    beBytes 4 e.handle.value ++ beBytes 4 e.change.length ++ beBytes 8 e.change.ref.toNat ++ beBytes 8 e.change.check.toNat⟩

/-- The entry at a position. -/
def State.entryOf (s : State) (i : Nat) : Option JEntry := s.journal.entries.find? fun e => e.index == i

/-- The head of the refill queue may be asked for (R73). -/
def State.refillFits (s : State) (e : JEntry) : Bool :=
  s.body.refillTable.length < Config.refillRecords && s.body.outUse + e.segments ≤ Config.outLimit

/-- The lowest BODY-WANTED tag that no record of the refill table holds (R73). -/
def State.refillTagNext (s : State) : Nat := lowestFree Config.firstRefillTag (s.body.refillTable.map (·.1))

/-- The BODY-WANTED of an entry is sent (R73). -/
def State.wantBody (s : State) (e : JEntry) : State :=
  let tag := s.refillTagNext
  let e1 : JEntry := { e with bodyState := .refilling, refillTag := some tag }
  let s1 := (s.putEntry e1).reserveSlots e1
  let s2 := s1.setBody { s1.body with refillTable := s1.body.refillTable ++ [(tag, e.handle)] }
  let s3 := s2.setSli { s2.sli with
    partQueue := s2.sli.partQueue ++ [bodyWantedRecord tag e]
    stats := { s2.sli.stats with refills := s2.sli.stats.refills + 1 } }
  s3.refillRefresh

/-- The head of the refill queue is asked for, when it fits (R73). -/
def State.refillHead (s : State) : State :=
  match s.body.refillQueue with
  | [] => s
  | i :: _ =>
    match s.entryOf i with
    | none => s
    | some e => if s.refillFits e then s.wantBody e else s

/-- BODY_WANTED_SEND (R73): without a head that fits, nothing (log 3). -/
def execBodyWantedSend (s : State) : Host.Outcome State Fault Refusal := .next s.refillHead

/-! ## PARK_ENTRY (R70, R71) -/

/-- An entry of the reservation list is a parking candidate (R70). -/
def State.parkable (s : State) (e : JEntry) : Bool :=
  e.bodyState = .ready && Trunk.all.all (fun t => (e.peers.get t).isNone || !s.available t) && e.framesOut == 0

/-- The candidate nearest the head of the reservation list (R71). -/
def State.parkCandidate (s : State) : Option JEntry :=
  s.body.reservation.findSome? fun i => (s.entryOf i).filter s.parkable

/-- An entry is parked (R71). -/
def State.park (s : State) (e : JEntry) : State :=
  let s1 := (s.releaseSlots e).putEntry { e with fill := none, bodyState := .parked }
  s1.setStats { s1.sli.stats with parks := s1.sli.stats.parks + 1 }

/-- While parking is in force the oldest candidate is parked (R71). -/
def State.parkNext (s : State) : State :=
  if s.body.parkOn then
    match s.parkCandidate with
    | none => s
    | some e => s.park e
  else s

/-- PARK_ENTRY (R71): with the park state OFF or no candidate, nothing (log 3). -/
def execParkEntry (s : State) : Host.Outcome State Fault Refusal := .next s.parkNext

/-! ## Answers to BODY-WANTED (R74 to R76) -/

/-- The entry that an answer acts on: the recorded handle is valid, and the entry is REFILLING by this tag's refill. -/
def State.refilled (s : State) (tag : Nat) (h : Handle) : Option JEntry :=
  (s.entryAt h).filter fun e => e.bodyState = .refilling && e.refillTag == some tag

/-- GONE for a refilling entry: removal while unsealed, else VOID (R75). -/
def State.bodyGone (s : State) (e : JEntry) : State := if e.seq.isNone then s.loseEntry e else s.convertVoid e

/-- An answer to a BODY-WANTED: its record leaves the table; any result but OK is GONE (R74 to R76). -/
def State.bodyAnswer (s : State) (tag : Nat) (ok : Bool) : State :=
  match s.body.refillTable.lookup tag with
  | none => s
  | some h =>
    let s1 := s.setBody { s.body with refillTable := s.body.refillTable.filter (fun x => x.1 != tag) }
    if ok then s1
    else
      match s1.refilled tag h with
      | none => s1
      | some e => (s1.bodyGone e).refillRefresh

end Sys2Proof.Machine
end

