-- ==== Sys2Proof/Machine/Applying.lean ====
section
/-! DEFINITION. The commands of the Apply Unit: NOTICE_RETRY, APPLY_FORWARD and the request APPLY-RESUME; and the host's
answers to APPLY and BODY-WANTED (Sections 7.3, 7.5 and 9.3). -/

namespace Sys2Proof.Machine

/-! ## NOTICE_RETRY (R139) -/

/-- NOTICE_RETRY (R139): release from the head of the trunk's reorder store is tried again (R133). -/
def execNoticeRetry (t : Trunk) (s : State) : Host.Outcome State Fault Refusal :=
  .next (if (s.port t).state.up then s.release t else s)

/-! ## APPLY_FORWARD (R145 to R148) -/

/-- The head entry leaves its queue, finished; its slots, pin and backlog place are released, the record leaves the slot
wait list, and the forward test is made for the next entry (R145 to R147, R149). -/
def State.finishHead (s : State) (k : Nat) (e : InEntry) : State :=
  let r := s.inRec k
  (((s.setInRec k ({ r with queue := r.queue.drop 1 }.finish e)).discardInbound e).leaveList (· == k)).forwardTest k

/-- The outcome of the stale test for an entry (Table 3-3). -/
def State.staleTest (s : State) (e : InEntry) : Staleness :=
  if e.mapped then
    match s.findObj e.notice.bucket e.notice.digest with
    | none => .unchecked
    | some r => staleOutcome r.stamp e.notice.stamp
  else .unchecked

/-- The stale test touches the record of a mapped entry (R53, R57). -/
def State.touch (s : State) (e : InEntry) : State :=
  if e.mapped then s.setMap (touchObj s.map e.notice.bucket e.notice.digest id) else s

/-- Adoption of a mapped entry: stamp and tombstone, with a touch (R58). -/
def State.adoptStamp (s : State) (e : InEntry) : State :=
  if e.mapped then
    s.setMap (touchObj s.map e.notice.bucket e.notice.digest fun r =>
      { r with stamp := some e.notice.stamp, tombstone := e.notice.kind == 3 })
  else s

/-- The record's tombstone before adoption; clear for an unmapped entry (R58). -/
def State.priorDrop (s : State) (e : InEntry) : Bool :=
  e.mapped && match s.findObj e.notice.bucket e.notice.digest with
    | none => false
    | some r => r.tombstone

/-- BODY-OUT record i of a body (R148, Table 10-6). -/
def bodyOutRecord (tag : Nat) (e : InEntry) (i : Nat) : LinkRecord :=
  ⟨kindBodyOut, true, false, tag, .ok,
    beBytes 4 (i * Config.bodyOutBytes) ++ beBytes 4 e.notice.bodyLength
      ++ (e.bytes.drop (i * Config.bodyOutBytes)).take Config.bodyOutBytes⟩

/-- The BODY-OUT records of an entry, in ascending offset order (R148). -/
def bodyOutRecords (tag : Nat) (e : InEntry) : List LinkRecord :=
  (List.range (ceilDiv e.notice.bodyLength Config.bodyOutBytes)).map (bodyOutRecord tag e)

/-- The APPLY record (R148, Table 10-6). -/
def applyRecord (tag : Nat) (t : Trunk) (n : Notice) (unchecked priorDrop : Bool) : LinkRecord :=
  ⟨kindApply, true, false, tag, .ok,
    beBytes 1 t.index ++ beBytes 1 n.kind ++ beBytes 1 (bitsToNat [n.rebase, unchecked, priorDrop])
      ++ beBytes 1 n.patches.length ++ beBytes 2 n.bucket ++ beBytes 2 n.epoch ++ beBytes 4 n.seq ++ beBytes 4 n.bodyLength
      ++ beBytes 16 n.digest.toNat ++ beBytes 8 n.stamp.toNat ++ beBytes 8 n.check.toNat ++ patchBytes n.patches⟩

/-- The lowest free apply slot tag (R148, R181). -/
def ApplyUnit.nextTag (a : ApplyUnit) : Nat := lowestFree 1 (a.slots.map (·.tag))

/-- A record takes an apply slot, whether it was handed one or goes forward by itself (R145, R148). -/
def ApplyUnit.takeSlot (a : ApplyUnit) (tag : Nat) (t : Trunk) (b : Nat) : ApplyUnit :=
  { a with
    slots := a.slots ++ [⟨tag, t, b, none⟩]
    granted := a.granted.filter (· != recKey t b)
    waitList := a.waitList.filter (· != recKey t b) }

/-- The unchecked applies statistic (R148). -/
def PartStats.countUnchecked (x : PartStats) (unchecked : Bool) : PartStats :=
  if unchecked then { x with uncheckedApplies := x.uncheckedApplies + 1 } else x

/-- An entry found NEWER or UNCHECKED is adopted and sent to the host (R58, R148). DESIGN CHOICE (log 44, unsafe): the
BODY-OUT records and the APPLY record of a slot are handed to the part record queue at one moment, so that no record of
another slot and no BODY-WANTED stands between them, where R148 and R184 let them stand there. -/
def State.sendApply (s : State) (t : Trunk) (b : Nat) (e : InEntry) (unchecked : Bool) : State :=
  let k := recKey t b
  let tag := s.apply.nextTag
  let prior := s.priorDrop e
  let s1 := s.adoptStamp e
  let s2 := s1.setApply (s1.apply.takeSlot tag t b)
  let s3 := s2.setInRec k { s2.inRec k with inFlight := some tag }
  s3.setSli { s3.sli with
    partQueue := s3.sli.partQueue ++ bodyOutRecords tag e ++ [applyRecord tag t e.notice unchecked prior]
    stats := s3.sli.stats.countUnchecked unchecked }

/-- A STALE entry is discarded (R147). -/
def State.discardStale (s : State) (k : Nat) (e : InEntry) : State :=
  let s1 := s.touch e
  (s1.setStats { s1.sli.stats with staleDiscards := s1.sli.stats.staleDiscards + 1 }).finishHead k e

/-- A head entry of kind BODY, PATCH or DROP goes forward (R147, R148). -/
def State.forwardEntry (s : State) (t : Trunk) (b : Nat) (e : InEntry) : State :=
  match s.staleTest e with
  | .stale => s.discardStale (recKey t b) e
  | .newer => s.sendApply t b e false
  | .unchecked => s.sendApply t b e true

/-- The record may take a slot: it has been handed one, or one is spare (R145). -/
def ApplyUnit.slotFor (a : ApplyUnit) (k : Nat) : Bool := a.granted.contains k || decide (0 < a.spare)

/-- The head entry of a record goes forward (R145): a VOID passes, any other entry needs a slot, and a record that finds
none joins the wait list. -/
def State.forward (s : State) (t : Trunk) (b : Nat) : State :=
  let k := recKey t b
  let r := s.inRec k
  match r.canForward, r.queue with
  | true, e :: _ =>
    if e.notice.kind = 4 then s.finishHead k e
    else if s.apply.slotFor k then s.forwardEntry t b e
    else s.forwardTest k
  | _, _ => s

/-- APPLY_FORWARD (R145): for a record whose head entry cannot go forward, nothing (log 3). -/
def execApplyForward (t : Trunk) (bucket : Nat) (s : State) : Host.Outcome State Fault Refusal :=
  .next (if bucket < Config.buckets then s.forward t bucket else s)

/-! ## APPLY_RESUME (R150) -/

/-- The reply body of APPLY-RESUME (Table 10-9). An absent epoch clears its flag; its field then holds 0 (DESIGN CHOICE,
log 42, unsafe). -/
def InRec.body (r : InRec) : List Byte :=
  beBytes 2 (r.epoch.getD 0) ++ beBytes 1 (bitsToNat [r.epoch.isSome, r.reassembly.isSome, r.held, r.ackOwed]) ++ beBytes 1 0
    ++ beBytes 4 r.expected ++ beBytes 4 r.applied ++ beBytes 4 r.queue.length

/-- A record's held flag clears, and its forward test is made (R150); one that is not held is left as it stands. -/
def State.resume (s : State) (k : Nat) : State :=
  let r := s.inRec k
  if r.held then (s.setInRec k { r with held := false }).forwardTest k else s

/-- APPLY-RESUME (R150). The reply shows the record before its head entry goes forward, which is APPLY_FORWARD's
(log 32). -/
def answerApplyResume (body : List Byte) (s : State) : Answer :=
  let q := parseResume body
  match Trunk.ofNat? q.trunk, decide (q.bucket < Config.buckets) with
  | some t, true =>
    let s1 := s.resume (recKey t q.bucket)
    ⟨s1, .ok, (s1.inRec (recKey t q.bucket)).body⟩
  | _, _ => ⟨s, .badArgument, zeroBody 16⟩

/-- The APPLY-RESUME record is taken whole (R150). -/
def takeApplyResume (w : Wire) (s : State) : State :=
  request kindApplyResume (fitsSize 4) answerApplyResume w s

/-! ## Host replies (R149, R151, R179, R182) -/

/-- The answer for the entry at the head of a record whose APPLY was in flight (R149), also where an incarnation change came
between (R151; the record is then still held by a FAILED answer: DEDUCED, log 43, unsafe). -/
def State.headAnswer (s : State) (k : Nat) (ok : Bool) : State :=
  let r := s.inRec k
  let s1 := s.setInRec k { r with inFlight := none, held := r.held || !ok }
  match ok, r.queue with
  | true, e :: _ => s1.finishHead k e
  | true, [] => s1
  | false, _ => s1.latch .applyHeld

/-- An answer to an outstanding APPLY: the slot is freed; an entry that a peer change took from its record is released
whatever the result (R149, R151). -/
def State.applyAnswer (s : State) (tag : Nat) (ok : Bool) : State :=
  match s.apply.slots.find? (fun x => x.tag == tag) with
  | none => s
  | some x =>
    let s1 := s.freeSlot tag
    match x.orphan with
    | some e => s1.discardInbound e
    | none => s1.headAnswer (recKey x.trunk x.bucket) ok

/-- A reply's result is OK (Table 10-12). -/
def resultOk (result : BitVec 16) : Bool := result.toNat == Result.ok.code

/-- A host reply's tag and kind match an outstanding request (R182). -/
def Sli.outstanding (x : Sli) (kind : Byte) (tag : Nat) : Option PartKind :=
  (x.tags.lookup tag).filter fun k => k.code == kind

/-- The tag leaves the table (R182). -/
def State.dropTag (s : State) (tag : Nat) : State := s.setSli { s.sli with tags := s.sli.tags.filter (fun x => x.1 != tag) }

/-- The owner acts on a reply (R182). -/
def State.ownerAnswer (s : State) (k : PartKind) (tag : Nat) (ok : Bool) : State :=
  match k with
  | .apply => s.applyAnswer tag ok
  | .bodyWanted => s.bodyAnswer tag ok

/-- A host reply: the body check, the tag table, then its owner (R179, R182). -/
def State.hostReply (s : State) (kind : Byte) (result : BitVec 16) (w : Wire) : State :=
  let s0 := s.recordTaken
  let tag := w.tag.toNat
  if damaged w then (s0.linkFault .bodyCheck).queueReply ⟨kind, true, true, tag, .badCheck, []⟩
  else
    match s0.sli.outstanding kind tag with
    | none => s0.linkFault .partTag
    | some k => (s0.dropTag tag).ownerAnswer k tag (resultOk result)

/-- A reply to an APPLY is taken whole (R149). -/
def takeApplyReply (kind : Byte) (result : BitVec 16) (w : Wire) (s : State) : State := s.hostReply kind result w

/-- A reply to a BODY-WANTED is taken whole (R74 to R76). -/
def takeBodyWantedReply (kind : Byte) (result : BitVec 16) (w : Wire) (s : State) : State := s.hostReply kind result w

end Sys2Proof.Machine
end

