-- ==== Sys2Proof/Machine/Buckets.lean ====
section
/-! DEFINITION. The commands of the bucket table: BUCKET_SET and BUCKET_QUERY (Section 1.2). -/

namespace Sys2Proof.Machine

/-! ## BUCKET-SET (R2 to R9) -/

/-- The bucket states that can be requested, by code (R2). -/
def requestedState : Nat → Option BucketState
  | 1 => some .active
  | 2 => some .paused
  | 3 => some .draining
  | _ => none

/-- Bands by code (Table 10-11). -/
def bandOf : Nat → Option Band
  | 0 => some .express
  | 1 => some .bulk
  | _ => none

/-- The target set names a slot whose trunk has no peer (R2 step 2). -/
def State.peerless (s : State) (targets : Quad Bool) : Bool :=
  Trunk.all.any fun t => targets.get t && (s.port t).config.peer.isNone

/-- The epoch of a slot that joins the targets (R3, R7). -/
def raiseEpoch (epoch : Nat) : Nat := (epoch + 1) % 65536

/-- The record of a bucket created (R3). -/
def Bucket.created (r : Bucket) (state : BucketState) (targets : Quad Bool) (band : Band) : Bucket where
  state := state
  targets := targets
  band := band
  nextSeq := 1
  epochs := ⟨if targets.t0 then raiseEpoch r.epochs.t0 else r.epochs.t0,
    if targets.t1 then raiseEpoch r.epochs.t1 else r.epochs.t1,
    if targets.t2 then raiseEpoch r.epochs.t2 else r.epochs.t2,
    if targets.t3 then raiseEpoch r.epochs.t3 else r.epochs.t3⟩
  rebase := targets
  seqLimit := false

/-- A slot is added to the targets of a bucket that is not ABSENT (R7). -/
def State.addTarget (b : Nat) (s : State) (t : Trunk) : State :=
  let r := s.bucket b
  let s1 := s.setBucket b { r with
    targets := r.targets.set t true
    epochs := r.epochs.set t (raiseEpoch (r.epochs.get t))
    rebase := r.rebase.set t true }
  s1.setEntries (s1.journal.entries.map fun e =>
    if e.bucket = b ∧ e.seq.isNone = true then { e with peers := e.peers.set t (some .queued) } else e)

/-- A slot is removed from the targets of a bucket (R8), less the removal of emptied entries. -/
def State.removeTarget (b : Nat) (s : State) (t : Trunk) : State :=
  let r := s.bucket b
  (s.setBucket b { r with targets := r.targets.set t false, rebase := r.rebase.set t false }).dropSlotFrom t (· == b)

/-- The slots that a new target set adds. -/
def addedSlots (old new : Quad Bool) : List Trunk := Trunk.all.filter fun t => new.get t && !old.get t

/-- The slots that a new target set removes. -/
def removedSlots (old new : Quad Bool) : List Trunk := Trunk.all.filter fun t => old.get t && !new.get t

/-- The target set of a bucket that is not ABSENT becomes the one requested: added slots first (log 10), then removed
slots, then the emptied entries leave (R2, R7, R8). -/
def State.retarget (s : State) (b : Nat) (targets : Quad Bool) : State :=
  let old := (s.bucket b).targets
  let s1 := (addedSlots old targets).foldl (State.addTarget b) s
  let s2 := (removedSlots old targets).foldl (State.removeTarget b) s1
  s2.emptied.foldl State.takeOut s2

/-- An accepted BUCKET-SET (R2): state, targets, band, drain test. -/
def State.setUpBucket (s : State) (b : Nat) (state : BucketState) (targets : Quad Bool) (band : Band) : State :=
  let r := s.bucket b
  if r.state = .absent then s.setBucket b (r.created state targets band)
  else
    let s1 := (s.setBucket b { r with state := state }).retarget b targets
    ((s1.setBucket b { s1.bucket b with band := band }).drainTest b).refillRefresh

/-- The reply body of BUCKET-SET (Table 10-9). -/
def State.bucketSetBody (s : State) (b : Nat) : List Byte :=
  let r := s.bucket b
  beBytes 2 b ++ beBytes 1 r.state.code ++ beBytes 1 (targetBits r.targets) ++ beBytes 1 r.band.code ++ beBytes 3 0
    ++ r.epochs.toList.flatMap fun e => beBytes 2 e

/-- BUCKET-SET (R2). -/
def answerBucketSet (body : List Byte) (s : State) : Answer :=
  let q := parseBucket body
  match decide (q.bucket < Config.buckets), requestedState q.state, bandOf q.band with
  | true, some state, some band =>
    if s.peerless q.targets then ⟨s, .badArgument, zeroBody 16⟩
    else if (s.bucket q.bucket).state = .absent ∧ state = .draining then ⟨s, .noBucket, zeroBody 16⟩
    else
      let s1 := s.setUpBucket q.bucket state q.targets band
      ⟨s1, .ok, s1.bucketSetBody q.bucket⟩
  | _, _, _ => ⟨s, .badArgument, zeroBody 16⟩

/-! ## BUCKET-QUERY (R11) -/

/-- The seq of a slot's cursor entry, 0 when it is unsealed or there is none (R11). -/
def State.cursorSeq (s : State) (b : Nat) (t : Trunk) : Nat := ((s.cursor b t).bind (·.seq)).getD 0

/-- The part of the BUCKET-QUERY reply about one slot (Table 10-9). -/
def State.slotStatus (s : State) (b : Nat) (t : Trunk) : List Byte :=
  let r := s.bucket b
  beBytes 2 (r.epochs.get t) ++ beBytes 1 (flag (r.rebase.get t)) ++ beBytes 1 0
    ++ beBytes 4 ((s.entriesOf b).countP fun e => (e.peers.get t).isSome) ++ beBytes 4 (s.cursorSeq b t)

/-- The reply body of BUCKET-QUERY (Table 10-9). -/
def State.bucketBody (s : State) (b : Nat) : List Byte :=
  let r := s.bucket b
  beBytes 1 r.state.code ++ beBytes 1 (targetBits r.targets) ++ beBytes 1 r.band.code ++ beBytes 1 (flag r.seqLimit)
    ++ beBytes 4 r.nextSeq ++ beBytes 4 (s.entriesOf b).length ++ beBytes 4 ((s.entriesOf b).countP fun e => e.seq.isNone)
    ++ Trunk.all.flatMap (s.slotStatus b)

/-- BUCKET-QUERY (R11). -/
def answerBucketQuery (body : List Byte) (s : State) : Answer :=
  let b := fieldAt body 0 2
  if b < Config.buckets then ⟨s, .ok, s.bucketBody b⟩ else ⟨s, .badArgument, zeroBody 64⟩

/-! ## Meanings -/

/-- The BUCKET-SET record is taken whole (R2). -/
def takeBucketSet (w : Wire) (s : State) : State :=
  request kindBucketSet (fitsSize 8) answerBucketSet w s

/-- The BUCKET-QUERY record is taken whole (R11). -/
def takeBucketQuery (w : Wire) (s : State) : State :=
  request kindBucketQuery (fitsSize 4) answerBucketQuery w s

end Sys2Proof.Machine
end

