-- ==== Sys2Proof/Machine/Submit.lean ====
section
/-! DEFINITION. SUBMIT: its checks, and its four outcomes (Section 1.4). -/

namespace Sys2Proof.Machine

/-! ## The checks (R15, R16) -/

/-- The object's unsealed entry, by its map record (R55). -/
def State.unsealedOf (s : State) (b : Nat) (d : Digest) : Option JEntry :=
  (s.findObj b d).bind fun r => r.unsealed.bind s.entryAt

/-- The cases of R15. -/
def SubmitReq.badArgument (q : SubmitReq) : Bool :=
  Config.buckets ≤ q.bucket || !(q.kind == 1 || q.kind == 2 || q.kind == 3) || (q.kind != 1 && q.length != 0)

/-- Step 4 of R16. -/
def SubmitReq.badPatch (q : SubmitReq) : Bool := !patchesOk q.patches || (q.kind == 3 && !q.patches.isEmpty)

/-- The outbound slots that the SUBMIT needs (R16 step 8). -/
def SubmitReq.slotsNeeded (q : SubmitReq) : Nat := if q.kind = 1 then slotsFor q.length else 0

/-- The bucket has a target. -/
def Bucket.hasTarget (r : Bucket) : Bool := r.targets.toList.any id

/-- R15 and steps 1 to 8 of R16, in order: the code of the first that refuses (Table 1-5). -/
def State.submitRefusal (s : State) (q : SubmitReq) : Option Result :=
  let r := s.bucket q.bucket
  let e := s.unsealedOf q.bucket q.digest
  let held := (e.map JEntry.slotsHeld).getD 0
  if q.badArgument then some .badArgument
  else if s.clock.set = false ∨ s.clock.site = none then some .notReady
  else if r.state = .absent then some .noBucket
  else if r.state = .draining then some .draining
  else if q.kind = 1 ∧ Config.maxBody < q.length then some .tooLarge
  else if q.badPatch then some .badPatch
  else if q.kind = 2 ∧ (e.map (·.change)) = some .drop then some .dropped
  else if (s.findObj q.bucket q.digest).isNone ∧ s.mapHasRoom = false then some .mapFull
  else if e.isNone ∧ r.hasTarget = true ∧ Config.journalSize ≤ s.journal.entries.length then some .full
  else if 0 < q.slotsNeeded ∧ (e.isSome ∨ r.hasTarget = true) ∧ Config.outLimit < s.body.outUse - held + q.slotsNeeded then
    some .bodyFull
  else none

/-! ## The outcomes (R17 to R21) -/

/-- The change that a SUBMIT brings (Table 1-4); the body check of a BODY of length 0 is taken as 0 (R64). -/
def SubmitReq.change (q : SubmitReq) : Change :=
  if q.kind = 1 then .body q.length (if q.length = 0 then 0 else q.check) q.ref q.patches
  else if q.kind = 2 then .patch q.patches
  else .drop

/-- One write of a merge: it replaces the write of its field number, or is added (R19, log 18). -/
def mergeWrite (ps : List PatchWrite) (p : PatchWrite) : List PatchWrite :=
  if ps.any (fun x => x.field == p.field) then ps.map fun x => if x.field = p.field then p else x else ps ++ [p]

/-- The merged patch list (R19). -/
def mergePatches (old new : List PatchWrite) : List PatchWrite := new.foldl mergeWrite old

/-- A change with its patch list merged (R19). -/
def Change.merged (c : Change) (ps : List PatchWrite) : Change :=
  match c with
  | .body n k r old => .body n k r (mergePatches old ps)
  | .patch old => .patch (mergePatches old ps)
  | .drop => .drop
  | .void => .void

/-- What the SUBMIT reply carries besides the result (Table 10-4). -/
structure SubmitOutcome where
  state : State
  handle : Handle
  superseded : Handle
  merged : Bool
  noTargets : Bool

/-- The position's generation goes up (R13). -/
def State.bumpGen (s : State) (i g : Nat) : State := s.setJournal { s.journal with gens := s.journal.gens.set 0 i g }

/-- Supersede (R18). -/
def State.supersede (s : State) (e : JEntry) (c : Change) (stamp : Stamp) : SubmitOutcome :=
  let e1 : JEntry := { e with
    gen := nextGen e.gen
    stamp := stamp
    change := c
    bodyState := c.firstState
    fill := none
    refillTag := none }
  let s1 := ((s.releaseSlots e).bumpGen e.index e1.gen).putEntry e1
  let s2 := s1.changeObj e.bucket e.digest fun r => { r with unsealed := some e1.handle }
  let s3 := (s2.reserveSlots e1).refillRefresh
  ⟨s3.setStats { s3.sli.stats with supersedes := s3.sli.stats.supersedes + 1 }, e1.handle, e.handle, false, false⟩

/-- Merge (R19). -/
def State.mergeInto (s : State) (e : JEntry) (ps : List PatchWrite) (stamp : Stamp) : SubmitOutcome :=
  let s1 := s.putEntry { e with stamp := stamp, change := e.change.merged ps }
  ⟨s1.setStats { s1.sli.stats with merges := s1.sli.stats.merges + 1 }, e.handle, Handle.none, true, false⟩

/-- The lowest-numbered free position (R13). -/
def State.freePosition (s : State) : Nat := lowestFree 0 (s.journal.entries.map (·.index))

/-- Append (R20). -/
def State.append (s : State) (b : Nat) (d : Digest) (c : Change) (stamp : Stamp) : SubmitOutcome :=
  let i := s.freePosition
  let e : JEntry :=
    { index := i
      gen := nextGen (s.journal.gens.get 0 i)
      bucket := b
      digest := d
      stamp := stamp
      change := c
      bodyState := c.firstState
      seq := none
      peers := (s.bucket b).targets.map fun x => if x then some .queued else none
      fill := none
      framesOut := 0
      refillTag := none }
  let s1 := (s.bumpGen i e.gen).setEntries (s.journal.entries ++ [e])
  let s2 := s1.changeObj b d fun r => { r with unsealed := some e.handle, pins := r.pins + 1 }
  ⟨s2.reserveSlots e, e.handle, Handle.none, false, false⟩

/-- Step 1 of R17: the object's record is found or inserted, with the issued stamp and the tombstone (R56). -/
def State.stampObject (s : State) (q : SubmitReq) (stamp : Stamp) : State :=
  s.findOrInsert q.bucket q.digest fun r => { r with stamp := some stamp, tombstone := q.kind == 3 }

/-- The outcome of an accepted SUBMIT (Table 1-6). -/
def State.submitOutcome (s : State) (q : SubmitReq) (stamp : Stamp) : SubmitOutcome :=
  match s.unsealedOf q.bucket q.digest with
  | some e => if q.kind = 2 then s.mergeInto e q.patches stamp else s.supersede e q.change stamp
  | none =>
    if (s.bucket q.bucket).hasTarget then s.append q.bucket q.digest q.change stamp
    else ⟨s, Handle.none, Handle.none, false, true⟩

/-- The submits statistic (R17). -/
def State.countSubmit (s : State) : State := s.setStats { s.sli.stats with submits := s.sli.stats.submits + 1 }

/-- The reply body of an accepted SUBMIT (Table 10-4). -/
def SubmitOutcome.body (o : SubmitOutcome) (stamp : Stamp) : List Byte :=
  beBytes 4 o.handle.value ++ beBytes 4 o.superseded.value ++ beBytes 8 stamp.toNat
    ++ beBytes 1 (bitsToNat [o.merged, o.noTargets, true]) ++ beBytes 3 0

/-- An accepted SUBMIT, its stamp issued (R17). -/
def State.acceptSubmit (s : State) (q : SubmitReq) (stamp : Stamp) : Answer :=
  let o := (s.stampObject q stamp).submitOutcome q stamp
  ⟨o.state.countSubmit, .ok, o.body stamp⟩

/-- A step 6 refusal latches MAP-BLOCKED (R16, R52); no other refusal changes the state. -/
def State.refuseSubmit (s : State) (r : Result) : State := if r = .mapFull then s.latch .mapBlocked else s

/-- SUBMIT (R15 to R17). -/
def answerSubmit (body : List Byte) (s : State) : Answer :=
  let q := parseSubmit body
  match s.submitRefusal q with
  | some r => ⟨s.refuseSubmit r, r, zeroBody 20⟩
  | none =>
    match s.issue (s.clock.site.getD 0) with
    | none => ⟨s, .clockExhausted, zeroBody 20⟩
    | some (stamp, s1) => s1.acceptSubmit q stamp

/-- The SUBMIT record is taken whole (R17). -/
def takeSubmit (w : Wire) (s : State) : State :=
  request kindSubmit fitsSubmit answerSubmit w s

end Sys2Proof.Machine
end

