-- ==== Sys2Proof/Machine/Clock.lean ====
section
/-! DEFINITION. The commands of the Stamp Clock: SET_CLOCK and SET_SITE (R35, R37). -/

namespace Sys2Proof.Machine

/-- A field clamped to a range. -/
def clampTo (lo hi v : Nat) : Nat := max lo (min hi v)

/-- The Stamp Clock after a SET-CLOCK of clamped fields (R34, R35). -/
def State.clockGiven (s : State) (time skew : Nat) : State :=
  s.setClock { s.clock with set := true, base := time, setAt := s.now, skew := skew }

/-- The reply body of SET-CLOCK (Table 10-9). -/
def State.clockBody (s : State) : List Byte :=
  beBytes 8 s.siteClock ++ beBytes 8 s.clock.l ++ beBytes 2 s.clock.c ++ beBytes 2 0 ++ beBytes 4 s.clock.skew

/-- SET-CLOCK (R35). -/
def answerSetClock (body : List Byte) (s : State) : Answer :=
  let q := parseClock body
  let time := clampTo 0 Config.maxTime q.time
  let skew := clampTo 10 60000 q.skew
  let s1 := s.clockGiven time skew
  ⟨s1, if time = q.time ∧ skew = q.skew then .ok else .clamped, s1.clockBody⟩

/-- The checks of SET-SITE before the issue (R37). -/
def State.siteRefusal (s : State) (site : Nat) : Option Result :=
  if 63 < site then some .badArgument
  else if s.clock.site.isSome then some .wrongState
  else if s.clock.set then none
  else some .notReady

/-- SET-SITE (R37). -/
def answerSetSite (body : List Byte) (s : State) : Answer :=
  let site := parseFirst body
  match s.siteRefusal site with
  | some r => ⟨s, r, zeroBody 16⟩
  | none =>
    match s.issue site with
    | none => ⟨s, .clockExhausted, zeroBody 16⟩
    | some (stamp, s1) =>
      ⟨s1.setClock { s1.clock with site := some site, incarnation := some stamp }, .ok,
        beBytes 1 site ++ beBytes 7 0 ++ beBytes 8 stamp.toNat⟩

/-- The SET-CLOCK record is taken whole (R35). -/
def takeSetClock (w : Wire) (s : State) : State :=
  request kindSetClock (fitsSize 12) answerSetClock w s

/-- The SET-SITE record is taken whole (R37). -/
def takeSetSite (w : Wire) (s : State) : State :=
  request kindSetSite (fitsSize 4) answerSetSite w s

end Sys2Proof.Machine
end

