-- ==== Sys2Proof/Machine/TrunkRequests.lean ====
section
/-! DEFINITION. The host requests about a trunk: TRUNK_SET, TRUNK_ENABLE, TRUNK_DISABLE, TRUNK_TEST, TRUNK_RESTART,
TRUNK_CLEAR, TRUNK_QUERY, COUNTER_READ and COUNTER_WRITE (Sections 5.3 to 5.8, 8.1 and 8.5). -/

namespace Sys2Proof.Machine

/-! ## TRUNK-SET (R85, R86, R109 to R112, R166) -/

/-- A peer site id as carried: FFh is none (Section 10.1.3). -/
def peerOf (v : Nat) : Option Nat := if v = 255 then none else some v

/-- The probe periods in ms (Table 5-3). -/
def probePeriods : List Nat := [10, 25, 50, 100, 250, 500, 1000, 2500]

/-- Step 1 of R85, less the trunk number. The report policy's flag bit has no value outside the two policies. -/
def ConfigReq.outOfDomain (q : ConfigReq) : Bool :=
  (63 < q.peer && q.peer != 255) || !([1, 2, 4, 8].contains q.m) || !probePeriods.contains q.probePeriod

/-- The numeric fields clamped to their ranges (Table 5-3). -/
def ConfigReq.clamped (q : ConfigReq) : ConfigReq :=
  { q with
    k := clampTo 8 32 q.k
    lineRate := clampTo 1000 100000 q.lineRate
    divider := clampTo 1 16 q.divider
    rtt := clampTo 1000 1000000 q.rtt
    n := clampTo 1 15 q.n
    alignDelay := clampTo 0 3 q.alignDelay
    resyncTimeout := clampTo 100 60000 q.resyncTimeout
    stallTime := clampTo 1 600 q.stallTime }

/-- The fields that are staged (R85). -/
def ConfigReq.paced (q : ConfigReq) : Paced where
  lineRate := q.lineRate
  divider := q.divider
  rtt := q.rtt
  plan := ⟨q.xs, q.xe, q.bs, q.be, q.bulk⟩
  echo := q.echo
  echoM := q.m
  echoN := q.n

/-- The fields that are not staged, written over a configuration (Table 5-3). -/
def ConfigReq.unstaged (q : ConfigReq) (c : TrunkConfig) : TrunkConfig :=
  { c with
    peer := peerOf q.peer
    k := q.k
    alignDelay := q.alignDelay
    resyncTimeout := q.resyncTimeout
    stallTime := q.stallTime
    probePeriod := q.probePeriod
    identifyPolicy := q.identify }

/-- In OFF and TEST staged fields go into force at once (Section 5.3). -/
def TrunkState.unpaced : TrunkState → Bool
  | .off => true
  | .test => true
  | _ => false

/-- The port with the clamped fields written, and staged or put in force (R85, R111). -/
def Port.configured (p : Port) (q : ConfigReq) : Port :=
  let p1 : Port := { p with config := q.unstaged p.config, staged := some q.paced }
  if p.state.unpaced then p1.stagedInForce else p1

/-- The request changes the peer site id or K (R85 step 2); K is judged as clamped (log 11). -/
def Port.changes (p : Port) (q : ConfigReq) : Bool := p.config.peer != peerOf q.peer || p.config.k != q.clamped.k

/-- The first check of R85 that fails, for a trunk that exists. -/
def Port.setRefusal (p : Port) (q : ConfigReq) : Option Result :=
  if q.outOfDomain then some .badArgument
  else if p.state ≠ .off ∧ p.changes q = true then some .wrongState
  else if q.paced.plan.fits q.clamped.k then none
  else some .badPlan

/-- A change from DETECT to IDENTIFY clears UNIDENTIFIED where its condition is absent (R166). -/
def State.policyChange (s : State) (t : Trunk) (old new : Bool) : State :=
  if !old && new && !(s.sup t).unidentifiedNow then
    s.setSli { s.sli with latches := s.sli.latches.putTrunk t .unidentified false }
  else s

/-- The paced fields that the request leaves staged, or in force where none are staged (R109). -/
def Port.coming (p : Port) : Paced := p.staged.getD p.config.paced

/-- A configuration block of the staged values, zeros when none are staged (Table 10-9, log 13). -/
def Port.stagedBlock (t : Trunk) (p : Port) : List Byte :=
  match p.staged with
  | none => zeroBody 28
  | some c => configBlock t { p.config with paced := c }

/-- The reply body of TRUNK-SET (Table 10-9). -/
def Port.setBody (t : Trunk) (p : Port) : List Byte :=
  beBytes 4 (flag p.staged.isSome) ++ configBlock t p.config ++ p.stagedBlock t
    ++ beBytes 4 (p.coming.window p.config.k) ++ beBytes 4 (p.coming.rto p.config.k)

/-- An accepted TRUNK-SET, its fields clamped (R85, R86, R166). -/
def State.configure (s : State) (t : Trunk) (q : ConfigReq) : State :=
  let p := s.port t
  let s1 := s.setPort t (p.configured q)
  let s2 := s1.policyChange t p.config.identifyPolicy q.identify
  if p.config.peer ≠ peerOf q.peer then s2.peerChange t else s2

/-- TRUNK-SET (R85). -/
def answerTrunkSet (body : List Byte) (s : State) : Answer :=
  let q := parseConfig body
  match Trunk.ofNat? q.trunk with
  | none => ⟨s, .badArgument, zeroBody 68⟩
  | some t =>
    match (s.port t).setRefusal q with
    | some r => ⟨s, r, zeroBody 68⟩
    | none =>
      let s1 := s.configure t q.clamped
      let p := s1.port t
      ⟨s1, if q.clamped ≠ q ∨ p.coming.windowClamped p.config.k = true then .clamped else .ok, p.setBody t⟩

/-! ## State requests (R87 to R89, R104) -/

/-- The reply body of the requests that change a trunk's state (Table 10-9). -/
def State.stateBody (s : State) (t : Trunk) : List Byte :=
  beBytes 1 t.index ++ beBytes 1 (s.port t).state.code ++ beBytes 2 0

/-- A request about one trunk: the trunk number first. -/
def forTrunk (n size : Nat) (s : State) (act : Trunk → Answer) : Answer :=
  match Trunk.ofNat? n with
  | none => ⟨s, .badArgument, zeroBody size⟩
  | some t => act t

/-- The checks of TRUNK-ENABLE (R87). -/
def State.enableRefusal (s : State) (t : Trunk) : Option Result :=
  if (s.port t).state ≠ .off then some .wrongState
  else if s.clock.set = false ∨ s.clock.site = none then some .notReady
  else if (s.port t).config.peer.isNone then some .badArgument
  else none

/-- The port as TRUNK-ENABLE leaves it: the enable is the first cycle start (R87, R83). -/
def Port.enabled (p : Port) (now : Nat) : Port :=
  { p.stagedInForce with
    state := .hunt, cycleAt := now, frameAt := now, position := 0, cycleCounter := 0, rxPos := 0, cycleService := none }

/-- An accepted TRUNK-ENABLE (R87): the tally starts empty (R160). -/
def State.enable (s : State) (t : Trunk) : State :=
  (s.setPort t ((s.port t).enabled s.now)).setSup t { s.sup t with tally := .empty }

/-- TRUNK-ENABLE (R87). -/
def answerTrunkEnable (body : List Byte) (s : State) : Answer :=
  forTrunk (parseFirst body) 4 s fun t =>
    match s.enableRefusal t with
    | some r => ⟨s, r, zeroBody 4⟩
    | none => ⟨s.enable t, .ok, (s.enable t).stateBody t⟩

/-- TRUNK-DISABLE (R88). -/
def answerTrunkDisable (body : List Byte) (s : State) : Answer :=
  forTrunk (parseFirst body) 4 s fun t =>
    if (s.port t).state = .off then ⟨s, .wrongState, zeroBody 4⟩
    else
      let s1 := s.trunkRestart t .off none
      ⟨s1, .ok, s1.stateBody t⟩

/-- The states in which TRUNK-RESTART is taken (R89). -/
def TrunkState.restartable : TrunkState → Bool
  | .off => false
  | .test => false
  | .faulted => false
  | _ => true

/-- TRUNK-RESTART (R89). -/
def answerTrunkRestart (body : List Byte) (s : State) : Answer :=
  forTrunk (parseFirst body) 4 s fun t =>
    if (s.port t).state.restartable then
      let s1 := s.trunkRestart t .hunt none
      ⟨s1, .ok, s1.stateBody t⟩
    else ⟨s, .wrongState, zeroBody 4⟩

/-- The port in TEST (R104). DESIGN CHOICE (log 45, unsafe): its first TEST frame is due at the moment TEST is entered, and
each later one a frame period after; R104 gives no moment for the first. -/
def Port.testing (p : Port) (now : Nat) (send check : Pattern) (c1 c2 : BitVec 64) : Port :=
  { p.stagedInForce with state := .test, frameAt := now, test := ⟨send, check, c1, c2, 0, 0, 0⟩ }

/-- TRUNK-TEST (R104). DESIGN CHOICE (log 48, unsafe): R104 states both refusals and no order of checks; a pattern that
Table 5-6 does not have is found before a trunk that is not in OFF, so a request with both is refused BAD-ARGUMENT. -/
def answerTrunkTest (body : List Byte) (s : State) : Answer :=
  let q := parseTest body
  forTrunk q.trunk 4 s fun t =>
    match Pattern.ofCode? q.send, Pattern.ofCode? q.check with
    | some send, some check =>
      if (s.port t).state ≠ .off then ⟨s, .wrongState, zeroBody 4⟩
      else
        let s1 := s.setPort t ((s.port t).testing s.now send check q.custom1 q.custom2)
        ⟨s1, .ok, s1.stateBody t⟩
    | _, _ => ⟨s, .badArgument, zeroBody 4⟩

/-! ## TRUNK-CLEAR (R173, R174) -/

/-- Table 8-4: the fault cause is judged absent. A cause of another kind does not arise in FAULTED (R172). -/
def Supervisor.causeAbsent (x : Supervisor) : Bool :=
  match x.faultCause with
  | some .looped => x.history.length == 5 && x.history.all (fun r => !r.looped)
  | some .foreign => x.history.length == 5 && x.history.all (fun r => !r.foreign)
  | some .stalled => x.history.any (·.peer)
  | _ => false

/-- The items that a TRUNK-CLEAR reply carries (R173), behind a trunk byte (Table 10-9). -/
def State.clearBody (s : State) (t : Trunk) (first : Nat) : List Byte :=
  beBytes 1 first ++ beBytes 1 (s.port t).state.code ++ beBytes 1 (signatureCode (s.sup t).faultCause)
    ++ beBytes 1 (s.sup t).history.length

/-- A successful TRUNK-CLEAR (R174): a trunk restart into HUNT; an identification not yet acted on finds its run cleared
(log 7). -/
def State.clearFault (s : State) (t : Trunk) : State :=
  let s1 := s.trunkRestart t .hunt none
  s1.setSup t { s1.sup t with requests := [] }

/-- TRUNK-CLEAR (R173). -/
def answerTrunkClear (body : List Byte) (s : State) : Answer :=
  forTrunk (parseFirst body) 4 s fun t =>
    if (s.port t).state ≠ .faulted then ⟨s, .wrongState, s.clearBody t 0⟩
    else if (s.sup t).causeAbsent then ⟨s.clearFault t, .ok, (s.clearFault t).clearBody t t.index⟩
    else ⟨s, .faultPersists, s.clearBody t 0⟩

/-! ## TRUNK-QUERY (R106, R175) -/

/-- The ms that a timer has left, 0 when it does not run; the rounding of a part of a ms is free (log 14). -/
def timerLeft (now : Nat) : Option Timer → Nat
  | none => 0
  | some x =>
    let ns := x.start + x.length - now
    ns / Config.nsPerMs
      + (if ns % Config.nsPerMs ≠ 0 ∧ Config.msRoundUp (ns % Config.nsPerMs) = true then 1 else 0)

/-- The two-byte HEAD cycles field: free above 65,535 (log 15). -/
def headCyclesBytes (n : Nat) : List Byte :=
  if n < 65536 then beBytes 2 n else beBytes 2 (Config.headCyclesField n).toNat

/-- The budget items of TRUNK-QUERY (R106). -/
def State.budgetStatus (s : State) (t : Trunk) : List Byte :=
  let p := s.port t
  beBytes 4 p.period ++ beBytes 4 p.window ++ beBytes 4 (p.config.paced.rto p.config.k) ++ beBytes 4 p.inFlight
    ++ beBytes 4 (p.store.countP (·.queued)) ++ beBytes 4 p.reorder.length ++ beBytes 4 (flag (s.anyWork t))
    ++ beBytes 6 (throughField p.peerThrough) ++ beBytes 2 0

/-- The lock items of TRUNK-QUERY (R106). -/
def Port.lockStatus (p : Port) : List Byte :=
  beBytes 1 (flag p.lock.held) ++ beBytes 1 (p.lock.remoteK.getD 0) ++ beBytes 1 p.lock.run
    ++ beBytes 1 p.lock.headErrors ++ beBytes 1 p.lastCycle ++ beBytes 1 0 ++ headCyclesBytes p.headCycles

/-- The peer items of TRUNK-QUERY (R106). -/
def Port.peerStatus (p : Port) : List Byte :=
  beBytes 4 (bitsToNat [p.filter.alarm, p.peerSeenRunning, p.peerHears, p.recorded.isSome, p.lock.peerLocked])
    ++ beBytes 8 (p.recorded.getD 0).toNat

/-- The supervision items of TRUNK-QUERY (R106, R175). -/
def Supervisor.status (x : Supervisor) (now : Nat) : List Byte :=
  beBytes 1 (signatureCode x.latest) ++ beBytes 1 (signatureCode x.lastIdentified) ++ beBytes 1 (signatureCode x.runSignature)
    ++ beBytes 1 x.runLength ++ beBytes 1 x.history.length ++ beBytes 1 (signatureCode x.faultCause)
    ++ beBytes 2 (bitsToNat [x.resync.isSome, x.stall.isSome])
    ++ beBytes 4 (timerLeft now x.resync) ++ beBytes 4 (timerLeft now x.stall)

/-- The test items of TRUNK-QUERY (R106). -/
def TestUnit.status (x : TestUnit) : List Byte :=
  beBytes 4 x.good ++ beBytes 4 x.mismatched ++ beBytes 4 x.counter.toNat

/-- The reply body of TRUNK-QUERY (Table 10-9). -/
def State.queryBody (s : State) (t : Trunk) : List Byte :=
  let p := s.port t
  beBytes 1 p.state.code ++ beBytes 3 0 ++ beBytes 4 (flag p.staged.isSome) ++ configBlock t p.config ++ p.stagedBlock t
    ++ s.budgetStatus t ++ p.lockStatus ++ p.peerStatus ++ (s.sup t).status s.now ++ p.test.status

/-- TRUNK-QUERY (R106). -/
def answerTrunkQuery (body : List Byte) (s : State) : Answer :=
  forTrunk (parseFirst body) 148 s fun t => ⟨s, .ok, s.queryBody t⟩

/-! ## The error counters (R158) -/

/-- The reply body of COUNTER-READ and COUNTER-WRITE (Table 10-9). -/
def State.counterBody (s : State) (t : Trunk) : List Byte :=
  let x := (s.sup t).counters
  beBytes 1 t.index ++ beBytes 1 x.frameCheck ++ beBytes 1 x.headError ++ beBytes 1 x.resend

/-- COUNTER-READ (R158). -/
def answerCounterRead (body : List Byte) (s : State) : Answer :=
  forTrunk (parseFirst body) 4 s fun t => ⟨s, .ok, s.counterBody t⟩

/-- Step 2 of COUNTER-WRITE: a value to be written is above 255 (R158). -/
def CounterReq.tooLarge (q : CounterReq) : Bool :=
  (q.writeFrameCheck && decide (255 < q.frameCheck)) || (q.writeHeadError && decide (255 < q.headError))
    || (q.writeResend && decide (255 < q.resend))

/-- The counters after an accepted COUNTER-WRITE (R158). -/
def CounterReq.written (q : CounterReq) (x : Counters) : Counters :=
  ⟨if q.writeFrameCheck then q.frameCheck else x.frameCheck, if q.writeHeadError then q.headError else x.headError,
    if q.writeResend then q.resend else x.resend⟩

/-- COUNTER-WRITE (R158). -/
def answerCounterWrite (body : List Byte) (s : State) : Answer :=
  let q := parseCounter body
  forTrunk q.trunk 4 s fun t =>
    if q.tooLarge then ⟨s, .badArgument, zeroBody 4⟩
    else
      let s1 := s.setSup t { s.sup t with counters := q.written (s.sup t).counters }
      ⟨s1, .ok, s1.counterBody t⟩

/-! ## Meanings -/

/-- The TRUNK-SET record is taken whole (R85). -/
def takeTrunkSet (w : Wire) (s : State) : State :=
  request kindTrunkSet (fitsSize 28) answerTrunkSet w s

/-- The TRUNK-ENABLE record is taken whole (R87). -/
def takeTrunkEnable (w : Wire) (s : State) : State :=
  request kindTrunkEnable (fitsSize 4) answerTrunkEnable w s

/-- The TRUNK-DISABLE record is taken whole (R88). -/
def takeTrunkDisable (w : Wire) (s : State) : State :=
  request kindTrunkDisable (fitsSize 4) answerTrunkDisable w s

/-- The TRUNK-TEST record is taken whole (R104). -/
def takeTrunkTest (w : Wire) (s : State) : State :=
  request kindTrunkTest (fitsSize 20) answerTrunkTest w s

/-- The TRUNK-RESTART record is taken whole (R89). -/
def takeTrunkRestart (w : Wire) (s : State) : State :=
  request kindTrunkRestart (fitsSize 4) answerTrunkRestart w s

/-- The TRUNK-CLEAR record is taken whole (R173, R174). -/
def takeTrunkClear (w : Wire) (s : State) : State :=
  request kindTrunkClear (fitsSize 4) answerTrunkClear w s

/-- The TRUNK-QUERY record is taken whole (R106). -/
def takeTrunkQuery (w : Wire) (s : State) : State :=
  request kindTrunkQuery (fitsSize 4) answerTrunkQuery w s

/-- The COUNTER-READ record is taken whole (R158). -/
def takeCounterRead (w : Wire) (s : State) : State :=
  request kindCounterRead (fitsSize 4) answerCounterRead w s

/-- The COUNTER-WRITE record is taken whole (R158). -/
def takeCounterWrite (w : Wire) (s : State) : State :=
  request kindCounterWrite (fitsSize 12) answerCounterWrite w s

end Sys2Proof.Machine
end

