-- ==== Sys2Proof/Machine/Records.lean ====
section
/-! DEFINITION. The stream from the host: the receive assembler (R178), what a record taken whole does, and the commands
that are records or bytes of that stream. -/

namespace Sys2Proof.Machine

/-! ## A record taken whole (Table 9-1) -/

/-- What a record does when it is taken whole, by the command it is; a command that is no record does nothing here. -/
def State.act (s : State) : Instr → State
  | .setClock w => takeSetClock w s
  | .setSite w => takeSetSite w s
  | .bucketSet w => takeBucketSet w s
  | .bucketQuery w => takeBucketQuery w s
  | .submit w => takeSubmit w s
  | .chunk w => takeChunk w s
  | .trunkSet w => takeTrunkSet w s
  | .trunkEnable w => takeTrunkEnable w s
  | .trunkDisable w => takeTrunkDisable w s
  | .trunkTest w => takeTrunkTest w s
  | .trunkRestart w => takeTrunkRestart w s
  | .trunkClear w => takeTrunkClear w s
  | .trunkQuery w => takeTrunkQuery w s
  | .counterRead w => takeCounterRead w s
  | .counterWrite w => takeCounterWrite w s
  | .applyResume w => takeApplyResume w s
  | .statusRead w => takeStatusRead w s
  | .statusPeek w => takeStatusPeek w s
  | .reportMask w => takeReportMask w s
  | .statsRead w => takeStatsRead w s
  | .restart w => takeRestart w s
  | .unknownKindRequest kind w => takeUnknownKind kind w s
  | .roleFaultRecord _ w => takeRoleFault w s
  | .applyReply kind result w => takeApplyReply kind result w s
  | .bodyWantedReply kind result w => takeBodyWantedReply kind result w s
  | _ => s

/-- The bytes of a record on the stream: header, body, body check (Section 9.1). -/
def recordBytes (kind : Byte) (flags result : Nat) (w : Wire) : List Byte :=
  headerBytes kind flags w.tag.toNat result w.body.length ++ w.body ++ beBytes 4 w.check.toNat

/-- The flags of a wrong role (Table 10-1): bit 0 is PART-TAG, bit 1 is REPLY. -/
def wrongRoleFlags : WrongRole → Nat
  | .replyToHost => 2
  | .partRequest => 1

/-! ## The assembler (R178) -/

/-- What the assembler does with the bytes it holds. -/
inductive Move where
  /-- too few bytes: it collects -/
  | wait
  /-- SEARCH: no marker here, the byte is dropped -/
  | pass
  /-- SEARCH: a candidate fails -/
  | candidateFails
  /-- SEARCH: a good header, where a record begins -/
  | headerFound
  /-- IN-STEP: 16 bytes that are no good header -/
  | headerFault
  /-- IN-STEP: a record of n bytes is there whole -/
  | record (c : Instr) (n : Nat)

/-- The length of the record whose good header stands in front: 16 bytes, the body, 4 check bytes. -/
def recordLength (buf : List Byte) : Nat := 20 + fieldAt buf 8 2

/-- The record that stands whole in front, as a command. -/
def frontRecord (buf : List Byte) : Instr :=
  recordCommand (buf.take 16) ((buf.drop 16).take (fieldAt buf 8 2)) ((buf.drop (16 + fieldAt buf 8 2)).take 4)

/-- IN-STEP: the next 16 bytes are tested as a header; a header taken waits for its body and check bytes (R178). -/
def moveInStep (buf : List Byte) : Move :=
  if buf.length < 16 then .wait
  else if headerOk (buf.take 16) then
    if buf.length < recordLength buf then .wait else .record (frontRecord buf) (recordLength buf)
  else .headerFault

/-- SEARCH: the byte position in front is tested as a possible header (R178). -/
def moveInSearch : List Byte → Move
  | [] => .wait
  | [b] => if b = 0xC3#8 then .wait else .pass
  | b0 :: b1 :: rest =>
    if b0 = 0xC3#8 ∧ b1 = 0x5A#8 then
      if (b0 :: b1 :: rest).length < 16 then .wait
      else if headerOk ((b0 :: b1 :: rest).take 16) then .headerFound
      else .candidateFails
    else .pass

/-- The assembler's next move. -/
def Assembler.move (x : Assembler) : Move := if x.inStep then moveInStep x.buf else moveInSearch x.buf

/-- The assembler's state and the bytes it holds. -/
def State.setAsm (s : State) (inStep : Bool) (buf : List Byte) : State := s.setSli { s.sli with asm := ⟨inStep, buf⟩ }

/-- The assembler goes on until it has to wait for bytes, at most fuel moves; each record that it completes is acted on
as it is taken. -/
def State.assemble : Nat → State → State
  | 0, s => s
  | fuel + 1, s =>
    match s.sli.asm.move with
    | .wait => s
    | .pass => (s.setAsm false (s.sli.asm.buf.drop 1)).assemble fuel
    | .candidateFails => ((s.setSli s.sli.latchLinkError).setAsm false (s.sli.asm.buf.drop 1)).assemble fuel
    | .headerFound => (s.setAsm true s.sli.asm.buf).assemble fuel
    | .headerFault => ((s.linkFault .header).setAsm false (s.sli.asm.buf.drop 1)).assemble fuel
    | .record c n => ((s.act c).setAsm true (s.sli.asm.buf.drop n)).assemble fuel

/-- The assembler goes on as far as the bytes it holds take it: a move drops a byte, or turns SEARCH into IN-STEP, so that
there are at most two for each byte. -/
def State.assembled (s : State) : State := s.assemble (2 * s.sli.asm.buf.length + 2)

/-- Bytes arrive behind those the assembler holds (R178). -/
def State.receive (s : State) (bytes : List Byte) : State := (s.setAsm s.sli.asm.inStep (s.sli.asm.buf ++ bytes)).assembled

/-- A record arrives: where the assembler holds no bytes it is taken whole, and where it holds some, in the middle of a
record, of a header or of a candidate, its bytes are the next of the stream (R178, log 27). -/
def State.recordIn (s : State) (c : Instr) (bytes : List Byte) : State :=
  if s.sli.asm.buf = [] then s.act c else s.receive bytes

/-! ## Meanings -/

/-- SET_CLOCK (R35). -/
def execSetClock (w : Wire) (s : State) : Host.Outcome State Fault Refusal :=
  .next (s.recordIn (.setClock w) (recordBytes kindSetClock 0 0 w))

/-- SET_SITE (R37). -/
def execSetSite (w : Wire) (s : State) : Host.Outcome State Fault Refusal :=
  .next (s.recordIn (.setSite w) (recordBytes kindSetSite 0 0 w))

/-- BUCKET_SET (R2). -/
def execBucketSet (w : Wire) (s : State) : Host.Outcome State Fault Refusal :=
  .next (s.recordIn (.bucketSet w) (recordBytes kindBucketSet 0 0 w))

/-- BUCKET_QUERY (R11). -/
def execBucketQuery (w : Wire) (s : State) : Host.Outcome State Fault Refusal :=
  .next (s.recordIn (.bucketQuery w) (recordBytes kindBucketQuery 0 0 w))

/-- SUBMIT (R15 to R17). -/
def execSubmit (w : Wire) (s : State) : Host.Outcome State Fault Refusal :=
  .next (s.recordIn (.submit w) (recordBytes kindSubmit 0 0 w))

/-- CHUNK (R66). -/
def execChunk (w : Wire) (s : State) : Host.Outcome State Fault Refusal :=
  .next (s.recordIn (.chunk w) (recordBytes kindChunk 0 0 w))

/-- TRUNK_SET (R85). -/
def execTrunkSet (w : Wire) (s : State) : Host.Outcome State Fault Refusal :=
  .next (s.recordIn (.trunkSet w) (recordBytes kindTrunkSet 0 0 w))

/-- TRUNK_ENABLE (R87). -/
def execTrunkEnable (w : Wire) (s : State) : Host.Outcome State Fault Refusal :=
  .next (s.recordIn (.trunkEnable w) (recordBytes kindTrunkEnable 0 0 w))

/-- TRUNK_DISABLE (R88). -/
def execTrunkDisable (w : Wire) (s : State) : Host.Outcome State Fault Refusal :=
  .next (s.recordIn (.trunkDisable w) (recordBytes kindTrunkDisable 0 0 w))

/-- TRUNK_TEST (R104). -/
def execTrunkTest (w : Wire) (s : State) : Host.Outcome State Fault Refusal :=
  .next (s.recordIn (.trunkTest w) (recordBytes kindTrunkTest 0 0 w))

/-- TRUNK_RESTART (R89). -/
def execTrunkRestart (w : Wire) (s : State) : Host.Outcome State Fault Refusal :=
  .next (s.recordIn (.trunkRestart w) (recordBytes kindTrunkRestart 0 0 w))

/-- TRUNK_CLEAR (R173, R174). -/
def execTrunkClear (w : Wire) (s : State) : Host.Outcome State Fault Refusal :=
  .next (s.recordIn (.trunkClear w) (recordBytes kindTrunkClear 0 0 w))

/-- TRUNK_QUERY (R106). -/
def execTrunkQuery (w : Wire) (s : State) : Host.Outcome State Fault Refusal :=
  .next (s.recordIn (.trunkQuery w) (recordBytes kindTrunkQuery 0 0 w))

/-- COUNTER_READ (R158). -/
def execCounterRead (w : Wire) (s : State) : Host.Outcome State Fault Refusal :=
  .next (s.recordIn (.counterRead w) (recordBytes kindCounterRead 0 0 w))

/-- COUNTER_WRITE (R158). -/
def execCounterWrite (w : Wire) (s : State) : Host.Outcome State Fault Refusal :=
  .next (s.recordIn (.counterWrite w) (recordBytes kindCounterWrite 0 0 w))

/-- APPLY_RESUME (R150). -/
def execApplyResume (w : Wire) (s : State) : Host.Outcome State Fault Refusal :=
  .next (s.recordIn (.applyResume w) (recordBytes kindApplyResume 0 0 w))

/-- STATUS_READ (R187). -/
def execStatusRead (w : Wire) (s : State) : Host.Outcome State Fault Refusal :=
  .next (s.recordIn (.statusRead w) (recordBytes kindStatusRead 0 0 w))

/-- STATUS_PEEK (R188). -/
def execStatusPeek (w : Wire) (s : State) : Host.Outcome State Fault Refusal :=
  .next (s.recordIn (.statusPeek w) (recordBytes kindStatusPeek 0 0 w))

/-- REPORT_MASK (R189). -/
def execReportMask (w : Wire) (s : State) : Host.Outcome State Fault Refusal :=
  .next (s.recordIn (.reportMask w) (recordBytes kindReportMask 0 0 w))

/-- STATS_READ (R191). -/
def execStatsRead (w : Wire) (s : State) : Host.Outcome State Fault Refusal :=
  .next (s.recordIn (.statsRead w) (recordBytes kindStatsRead 0 0 w))

/-- RESTART (R192). -/
def execRestart (w : Wire) (s : State) : Host.Outcome State Fault Refusal :=
  .next (s.recordIn (.restart w) (recordBytes kindRestart 0 0 w))

/-- UNKNOWN_KIND_REQUEST (R180). A kind of Table 9-2 is no unknown kind, and the command is then none (log 28). -/
def execUnknownKindRequest (kind : Byte) (w : Wire) (s : State) : Host.Outcome State Fault Refusal :=
  .next (if isHostRequestKind kind then s else s.recordIn (.unknownKindRequest kind w) (recordBytes kind 0 0 w))

/-- ROLE_FAULT_RECORD (R177). The row names no kind; among the bytes of another record the model writes kind 0 (log 27). -/
def execRoleFaultRecord (role : WrongRole) (w : Wire) (s : State) : Host.Outcome State Fault Refusal :=
  .next (s.recordIn (.roleFaultRecord role w) (recordBytes 0#8 (wrongRoleFlags role) 0 w))

/-- HEADER_FAULT (R178): bytes of the stream. -/
def execHeaderFault (bytes : List Byte) (s : State) : Host.Outcome State Fault Refusal := .next (s.receive bytes)

/-- APPLY_REPLY (R149). -/
def execApplyReply (kind : Byte) (result : BitVec 16) (w : Wire) (s : State) : Host.Outcome State Fault Refusal :=
  .next (s.recordIn (.applyReply kind result w) (recordBytes kind 3 result.toNat w))

/-- BODY_WANTED_REPLY (R74 to R76). -/
def execBodyWantedReply (kind : Byte) (result : BitVec 16) (w : Wire) (s : State) : Host.Outcome State Fault Refusal :=
  .next (s.recordIn (.bodyWantedReply kind result w) (recordBytes kind 3 result.toNat w))

end Sys2Proof.Machine
end

