-- ==== Sys2Proof/Machine/Timers.lean ====
section
/-! DEFINITION. The timers of a trunk: CYCLE_START, FRAME_PERIOD, PROBE_PERIOD, RTO_EXPIRY, RESYNC_TIMEOUT, STALL_EXPIRY
and IDENTIFICATION_ACTION (Chapters 5, 6 and 8). -/

namespace Sys2Proof.Machine

/-! ## Period close (R161 to R165) -/

/-- The signature of a closed period (Table 8-2). -/
def Tally.signature (x : Tally) : Signature :=
  if x.arrivals = 0 then .silent
  else if x.looped then .looped
  else if x.foreign then .foreign
  else if x.arrivals ≤ x.invalid * 2 then .garbled
  else .clean

/-- The run after a period of a signature (R163). -/
def nextRun (run : Option Signature) (length : Nat) (sig : Signature) : Option Signature × Nat :=
  if sig = .clean then (none, 0)
  else if run = some sig then (some sig, min (length + 1) 5)
  else (some sig, 1)

/-- The supervisor after a period closes with a signature: tally, history, run, latest signature (R160 to R163). -/
def Supervisor.closed (x : Supervisor) (sig : Signature) : Supervisor :=
  { x with
    tally := .empty
    history := (⟨sig, x.tally.looped, x.tally.foreign, x.tally.peer⟩ :: x.history).take 5
    runSignature := (nextRun x.runSignature x.runLength sig).1
    runLength := (nextRun x.runSignature x.runLength sig).2
    latest := some sig }

/-- An identification: the last identified signature, and the request to the state machine (R165, R167). -/
def Supervisor.identified (x : Supervisor) (sig : Signature) : Supervisor :=
  { x with lastIdentified := some sig, requests := x.requests ++ [sig] }

/-- The period just ended closes (R161 to R165, R167). DEDUCED (log 40, unsafe): a close that identifies sets IDENTIFIED
alone, since R164 sets UNIDENTIFIED only at a close whose run does not stand identified; R167's words could be read as
setting both. -/
def State.closePeriod (s : State) (t : Trunk) : State :=
  let sig := (s.sup t).tally.signature
  let x := (s.sup t).closed sig
  if x.runLength = 5 then (s.setSup t (x.identified sig)).latchTrunk t .identified
  else if sig = .clean then s.setSup t x
  else (s.setSup t x).latchUnidentified t

/-! ## What an identification does (R167, Table 8-3) -/

/-- The consequence of an identification (Table 8-3). -/
def State.consequence (s : State) (t : Trunk) (sig : Signature) : State :=
  let st := (s.port t).state
  match sig with
  | .silent => if st.locking then s.moveDown t else s
  | .looped | .foreign =>
    if st.locking || st = .down then s.moveFaulted t sig
    else if st = .faulted then s.setSup t { s.sup t with faultCause := some sig }
    else s
  | _ => s

/-- The trunk's state machine takes the oldest request; without one, nothing (R167, log 3, log 7). -/
def State.takeRequest (s : State) (t : Trunk) : State :=
  match (s.sup t).requests with
  | [] => s
  | sig :: rest => (s.setSup t { s.sup t with requests := rest }).consequence t sig

/-- The trunk's state machine takes every request that waits, the oldest first (R167, log 7). -/
def State.takeRequests (s : State) (t : Trunk) : State :=
  Nat.repeat (fun u => u.takeRequest t) (s.sup t).requests.length s

/-! ## CYCLE_START (R83, R97, R111, R114, R168) -/

/-- The moment the cycle timer expires: one cycle period in force after the last cycle start (R83, R108). -/
def Port.cycleDue (p : Port) : Nat := p.cycleAt + p.cyclePeriod

/-- The port at a cycle start: a cycle begins at position 0 (R83). -/
def Port.cycleBegun (p : Port) : Port :=
  { p with
    cycleAt := p.cycleDue
    frameAt := p.cycleDue
    position := 0
    cycleCounter := (p.cycleCounter + 1) % 256
    cycleService := none }

/-- A frame of the store whose timeout has run at a moment (R125). -/
def SentFrame.overdue (f : SentFrame) (rtoNs now : Nat) : Bool := !f.queued && f.lastSend + rtoNs ≤ now

/-- A frame joins the resend queue where the staged fields go into force with a shorter RTO and its time has passed (R111,
R125). -/
def Port.joinsAt (p : Port) (now : Nat) (f : SentFrame) : Bool :=
  decide (p.stagedInForce.rtoNs < p.rtoNs) && f.overdue p.stagedInForce.rtoNs now

/-- The port once its staged fields are in force: the frames that a shorter RTO makes overdue stand on the resend queue. -/
def Port.stagedStarted (p : Port) (now : Nat) : Port :=
  { p.stagedInForce with store := p.store.map fun f => if p.joinsAt now f then { f with queued := true } else f }

/-- The staged configuration goes into force at a cycle start (R83, R111); each join is counted (R124). -/
def State.stagedStart (s : State) (t : Trunk) : State :=
  let p := s.port t
  (s.setPort t (p.stagedStarted s.now)).countEvents t .resend (p.store.countP (p.joinsAt s.now))

/-- The three conditions of R97. -/
def Port.readyToRun (p : Port) : Bool := 4 ≤ p.headCycles && p.lock.held && p.lock.peerLocked

/-- The count of cycles at a cycle start: the ALIGN test and ALIGN's cycles, or the cycles since RUNNING entry
(R96, R97, R114). -/
def State.countCycle (s : State) (t : Trunk) : State :=
  let p := s.port t
  if p.state = .align then
    if p.readyToRun then s.enterRunning t else s.setPort t { p with alignCycle := p.alignCycle + 1 }
  else if p.state.up then s.setPort t { p with runCycle := p.runCycle + 1 }
  else s

/-- A cycle begins at the moment the cycle timer expires (R83); its events draw a fresh free value (log 41). -/
def State.beginCycle (s : State) (t : Trunk) : State :=
  let p := s.port t
  { (s.advanceTo p.cycleDue).setPort t p.cycleBegun with freeCount := s.freeCount + 1 }

/-- An identification that this cycle start's close has made is taken at once, behind the requests that wait (R168,
log 7). -/
def State.actAtOnce (s : State) (t : Trunk) : State :=
  if (s.sup t).runLength = 5 then s.takeRequests t else s

/-- The events of a cycle start in one of the orders of R168. An identification that is taken first and moves the trunk
leaves it in a state in which the R97 test is not made, its staged fields in force by the trunk restart (R90). -/
def State.cycleEvents (s : State) (t : Trunk) : Config.CycleOrder → State
  | .closeLast => ((s.stagedStart t).countCycle t).closePeriod t
  | .closeMiddle => ((s.stagedStart t).closePeriod t).countCycle t
  | .closeFirst => ((s.closePeriod t).stagedStart t).countCycle t
  | .closeMiddleActed => (((s.stagedStart t).closePeriod t).actAtOnce t).countCycle t
  | .closeFirstActed => (((s.closePeriod t).stagedStart t).actAtOnce t).countCycle t
  | .identificationFirst => (((s.closePeriod t).actAtOnce t).stagedStart t).countCycle t

/-- A cycle start (R83): a cycle begins, and its events come in an order that R168 leaves free. DESIGN CHOICE (log 41,
safe): the order is a FREE VALUE. -/
def State.startCycle (s : State) (t : Trunk) : State :=
  (s.beginCycle t).cycleEvents t (Config.cycleOrder s.freeCount)

/-- CYCLE_START (R83): the cycle timer runs in every state but OFF and TEST. -/
def execCycleStart (t : Trunk) (s : State) : Host.Outcome State Fault Refusal :=
  .next (if (s.port t).state.supervised then s.startCycle t else s)

/-! ## FRAME_PERIOD (R84, R96, R104, R113) -/

/-- A test frame leaves, and the send counter goes up (R104). -/
def State.sendTest (s : State) (t : Trunk) : State :=
  let p := s.port t
  (s.setPort t { p with frameAt := p.frameAt + p.period, test := { p.test with counter := p.test.counter + 1 } }).emit t
    (testFrame p.test)

/-- The frame of a position in ALIGN (R96). -/
def State.sendAlign (s : State) (t : Trunk) (position : Nat) : State :=
  let p := s.port t
  if position = 0 ∧ p.alignDelay < p.alignCycle then
    (s.setPort t { p with headCycles := p.headCycles + 1 }).emit t (s.headFrame t)
  else s.emit t s.fillFrame

/-- The frame of a position in RUNNING and RESYNC (R84, R113). -/
def State.sendUp (s : State) (t : Trunk) (position moment : Nat) : State :=
  if position = 0 then s.emit t (s.headFrame t)
  else if position = 1 then s.sendService t
  else
    match (s.port t).config.paced.plan.role (position - 2) with
    | none => s.fillSlot t
    | some own => s.dataSlot t own moment

/-- The port after a position of the cycle: the next one is due one frame period later (R83). -/
def Port.positionDone (p : Port) : Port := { p with position := p.position + 1, frameAt := p.frameAt + p.period }

/-- The frame due at the position, by the state (Table 5-2); past the last position the trunk waits for its cycle start. -/
def State.sendPosition (s : State) (t : Trunk) : State :=
  let p := s.port t
  if p.position < p.config.k then
    let s1 := (s.advanceTo p.frameAt).setPort t p.positionDone
    match p.state with
    | .hunt => s1.emit t s1.fillFrame
    | .align => s1.sendAlign t p.position
    | .running => s1.sendUp t p.position p.frameAt
    | .resync => s1.sendUp t p.position p.frameAt
    | _ => s1
  else s

/-- FRAME_PERIOD (R84). -/
def execFramePeriod (t : Trunk) (s : State) : Host.Outcome State Fault Refusal :=
  .next
    (match (s.port t).state with
    | .off => s
    | .test => (s.advanceTo (s.port t).frameAt).sendTest t
    | _ => s.sendPosition t)

/-! ## PROBE_PERIOD (R102) -/

/-- DOWN or FAULTED: the states that probe (R102). -/
def TrunkState.probing : TrunkState → Bool
  | .down => true
  | .faulted => true
  | _ => false

/-- The moment the next PROBE is due: at entry to the state, then a probe period after the last (R102). -/
def Port.probeDue (p : Port) : Nat :=
  match p.lastProbe with
  | none => p.probeEntry
  | some m => m + p.config.probePeriod * Config.nsPerMs

/-- A PROBE leaves, and the heard-this-period flag clears (R102). -/
def State.sendProbe (s : State) (t : Trunk) : State :=
  (s.setPort t { s.port t with heard := false, lastProbe := some s.now }).emit t (s.probeFrame t)

/-- PROBE_PERIOD (R102). -/
def execProbePeriod (t : Trunk) (s : State) : Host.Outcome State Fault Refusal :=
  .next (if (s.port t).state.probing then (s.advanceTo (s.port t).probeDue).sendProbe t else s)

/-! ## RTO_EXPIRY (R125) -/

/-- The frame of a number in the store, not on the resend queue: its timeout runs (R125). -/
def Port.waiting (p : Port) (n : Nat) : Option SentFrame := p.store.find? fun f => f.number == n && !f.queued

/-- A frame's timeout has run: it joins the resend queue and is counted (R124, R125). -/
def State.joinResend (s : State) (t : Trunk) (n : Nat) : State :=
  let p := s.port t
  (s.setPort t { p with store := p.store.map fun x => if x.number = n then { x with queued := true } else x }).countEvent t
    .resend

/-- RTO_EXPIRY (R125): timeouts run in RUNNING and RESYNC. -/
def execRtoExpiry (t : Trunk) (frame : Nat) (s : State) : Host.Outcome State Fault Refusal :=
  .next
    (if (s.port t).state.up then
      match (s.port t).waiting frame with
      | none => s
      | some f => (s.advanceTo (f.lastSend + (s.port t).rtoNs)).joinResend t frame
    else s)

/-! ## RESYNC_TIMEOUT, STALL_EXPIRY (R169, R171) -/

/-- The moment a timer expires. -/
def Timer.due (x : Timer) : Nat := x.start + x.length

/-- RESYNC_TIMEOUT (R169). -/
def execResyncTimeout (t : Trunk) (s : State) : Host.Outcome State Fault Refusal :=
  .next
    (if (s.port t).state = .align ∨ (s.port t).state = .resync then
      match (s.sup t).resync with
      | none => s
      | some x => (s.advanceTo x.due).moveDown t
    else s)

/-- STALLED is identified without a run (R165, R171); IDENTIFIED alone is set (DEDUCED, log 40, unsafe). -/
def State.identifyStalled (s : State) (t : Trunk) : State :=
  (s.setSup t { s.sup t with lastIdentified := some .stalled }).latchTrunk t .identified

/-- STALL_EXPIRY (R171). -/
def execStallExpiry (t : Trunk) (s : State) : Host.Outcome State Fault Refusal :=
  .next
    (if (s.port t).state.up then
      match (s.sup t).stall with
      | none => s
      | some x => ((s.advanceTo x.due).identifyStalled t).moveFaulted t .stalled
    else s)

/-! ## IDENTIFICATION_ACTION (R167) -/

/-- IDENTIFICATION_ACTION (R167). -/
def execIdentificationAction (t : Trunk) (s : State) : Host.Outcome State Fault Refusal := .next (s.takeRequest t)

end Sys2Proof.Machine
end

