-- ==== Sys2Proof/Machine/Dispatch.lean ====
section
/-! DEFINITION. The meaning of each command: one arm for each constructor of Instr. -/

namespace Sys2Proof.Machine

/-- The command's effect on everything but the queue. -/
def exec (i : Instr) (s : State) : Host.Outcome State Fault Refusal :=
  match i with
  | .powerOnReset => Sys2Proof.Machine.execPowerOnReset s
  | .setClock w => Sys2Proof.Machine.execSetClock w s
  | .setSite w => Sys2Proof.Machine.execSetSite w s
  | .bucketSet w => Sys2Proof.Machine.execBucketSet w s
  | .bucketQuery w => Sys2Proof.Machine.execBucketQuery w s
  | .submit w => Sys2Proof.Machine.execSubmit w s
  | .chunk w => Sys2Proof.Machine.execChunk w s
  | .trunkSet w => Sys2Proof.Machine.execTrunkSet w s
  | .trunkEnable w => Sys2Proof.Machine.execTrunkEnable w s
  | .trunkDisable w => Sys2Proof.Machine.execTrunkDisable w s
  | .trunkTest w => Sys2Proof.Machine.execTrunkTest w s
  | .trunkRestart w => Sys2Proof.Machine.execTrunkRestart w s
  | .trunkClear w => Sys2Proof.Machine.execTrunkClear w s
  | .trunkQuery w => Sys2Proof.Machine.execTrunkQuery w s
  | .counterRead w => Sys2Proof.Machine.execCounterRead w s
  | .counterWrite w => Sys2Proof.Machine.execCounterWrite w s
  | .applyResume w => Sys2Proof.Machine.execApplyResume w s
  | .statusRead w => Sys2Proof.Machine.execStatusRead w s
  | .statusPeek w => Sys2Proof.Machine.execStatusPeek w s
  | .reportMask w => Sys2Proof.Machine.execReportMask w s
  | .statsRead w => Sys2Proof.Machine.execStatsRead w s
  | .restart w => Sys2Proof.Machine.execRestart w s
  | .unknownKindRequest kind w => Sys2Proof.Machine.execUnknownKindRequest kind w s
  | .roleFaultRecord role w => Sys2Proof.Machine.execRoleFaultRecord role w s
  | .headerFault bytes => Sys2Proof.Machine.execHeaderFault bytes s
  | .applyReply kind result w => Sys2Proof.Machine.execApplyReply kind result w s
  | .bodyWantedReply kind result w => Sys2Proof.Machine.execBodyWantedReply kind result w s
  | .recordSend => Sys2Proof.Machine.execRecordSend s
  | .cycleStart t => Sys2Proof.Machine.execCycleStart t s
  | .framePeriod t => Sys2Proof.Machine.execFramePeriod t s
  | .probePeriod t => Sys2Proof.Machine.execProbePeriod t s
  | .rtoExpiry t frame => Sys2Proof.Machine.execRtoExpiry t frame s
  | .resyncTimeout t => Sys2Proof.Machine.execResyncTimeout t s
  | .stallExpiry t => Sys2Proof.Machine.execStallExpiry t s
  | .identificationAction t => Sys2Proof.Machine.execIdentificationAction t s
  | .headReceived t f => Sys2Proof.Machine.execHeadReceived t f s
  | .fillReceived t f => Sys2Proof.Machine.execFillReceived t f s
  | .probeReceived t f => Sys2Proof.Machine.execProbeReceived t f s
  | .serviceReceived t f => Sys2Proof.Machine.execServiceReceived t f s
  | .carryReceived t frame payload => Sys2Proof.Machine.execCarryReceived t frame payload s
  | .testFrameReceived t counter payload => Sys2Proof.Machine.execTestFrameReceived t counter payload s
  | .invalidFrameReceived t => Sys2Proof.Machine.execInvalidFrameReceived t s
  | .noticeRetry t => Sys2Proof.Machine.execNoticeRetry t s
  | .applyForward t bucket => Sys2Proof.Machine.execApplyForward t bucket s
  | .bodyWantedSend => Sys2Proof.Machine.execBodyWantedSend s
  | .parkEntry => Sys2Proof.Machine.execParkEntry s

end Sys2Proof.Machine
end

