-- ==== Sys2Proof/Machine/Step.lean ====
section
/-! DEFINITION. One step of the part: the command at the front of the queue, or an idle moment. -/

namespace Sys2Proof.Machine

/-- The idle part: one millisecond passes and nothing else happens (DESIGN CHOICE, log 1). -/
def State.idle (s : State) : State := { s with now := s.now + Config.idleNs }

/-- One step: the command at the front of the queue acts on the state with the queue's rest; an empty queue idles. -/
def step (s : State) : Host.Outcome State Fault Refusal :=
  match s.pending with
  | [] => .next s.idle
  | c :: rest => exec c { s with pending := rest }

/-- The command that a word spells, at the front of the queue; the table gives no row any bits, so no word spells one
(log 30). -/
def State.withFetchWord (s : State) (nbits w : Nat) : State :=
  match decodeTableWord nbits w with
  | none => s
  | some c => { s with pending := c :: s.pending }

end Sys2Proof.Machine
end

