-- ==== Sys2Proof/Safety.lean ====
section
/-! DEFINITION. What holds of the part at every moment: capacities, clock ranges, trunks and their supervisors, the form
of the journal and of the tables. -/

namespace Sys2Proof.Machine

/-! ## The Stamp Clock (R34, R36, R37, R39) -/

/-- The ranges of the Stamp Clock's registers. -/
structure ClockOk (x : StampClock) : Prop where
  given : x.base ≤ 4398046511103
  time : x.l ≤ 4398046511103
  counter : x.c ≤ 65535
  skewLow : 10 ≤ x.skew
  skewHigh : x.skew ≤ 60000
  ownSite : ∀ n, x.site = some n → n ≤ 63

/-- The HLC pair of b is not below that of a: by time, then by counter (R40). -/
def NotBelow (a b : StampClock) : Prop := a.l < b.l ∨ (a.l = b.l ∧ a.c ≤ b.c)

/-! ## Capacities -/

/-- The shares of the Body Store and the refill table (R61, R73). -/
structure BodyCap (b : BodyStore) : Prop where
  outbound : b.outUse ≤ 589824
  inbound : b.inUse ≤ 196608
  table : b.refillTable.length ≤ 64

/-- The apply backlog, and the apply slots in use or handed to a record (R144, R145). -/
structure ApplyCap (a : ApplyUnit) : Prop where
  backlog : a.backlog ≤ 16384
  slots : a.slots.length + a.granted.length ≤ 256

/-- Nothing holds more than the part has room for (Table 0-2; R12, R47, R61, R123, R144, R185). -/
structure Capacities (s : State) : Prop where
  journal : s.journal.entries.length ≤ 65536
  map : s.map.length ≤ 65536
  body : BodyCap s.body
  apply : ApplyCap s.apply
  store : ∀ t, (s.port t).store.length ≤ 32768
  reports : s.sli.reports.length ≤ 256

/-! ## Trunks and supervisors -/

/-- The numeric fields of a configuration lie in their ranges, and its plan meets Table 6-2 (Table 5-3, R112). -/
structure PacedOk (k : Nat) (c : Paced) : Prop where
  rate : 1000 ≤ c.lineRate ∧ c.lineRate ≤ 100000
  divider : 1 ≤ c.divider ∧ c.divider ≤ 16
  rtt : 1000 ≤ c.rtt ∧ c.rtt ≤ 1000000
  plan : c.plan.fits k = true
  echo : c.echoM ∈ [1, 2, 4, 8] ∧ 1 ≤ c.echoN ∧ c.echoN ≤ 15

/-- A configuration in force (Table 5-3). -/
structure ConfigOk (c : TrunkConfig) : Prop where
  peer : ∀ n, c.peer = some n → n ≤ 63
  k : 8 ≤ c.k ∧ c.k ≤ 32
  paced : PacedOk c.k c.paced
  alignDelay : c.alignDelay ≤ 3
  resync : 100 ≤ c.resyncTimeout ∧ c.resyncTimeout ≤ 60000
  stall : 1 ≤ c.stallTime ∧ c.stallTime ≤ 600
  probe : c.probePeriod ∈ [10, 25, 50, 100, 250, 500, 1000, 2500]

/-- A port by itself: its configuration, its staged fields (none in OFF and TEST, Section 5.3), and a retransmit store
that is empty outside RUNNING and RESYNC (R84, R90). -/
structure PortOk (p : Port) : Prop where
  config : ConfigOk p.config
  staged : ∀ c, p.staged = some c → PacedOk p.config.k c
  unpaced : p.state = .off ∨ p.state = .test → p.staged = none
  store : p.store ≠ [] → p.state = .running ∨ p.state = .resync

/-- A supervisor by itself: its counters, its history and its run (R156, R162, R163). -/
structure SupOk (x : Supervisor) : Prop where
  frameCheck : x.counters.frameCheck ≤ 255
  headError : x.counters.headError ≤ 255
  resend : x.counters.resend ≤ 255
  history : x.history.length ≤ 5
  run : x.runLength ≤ 5

/-- A trunk and its supervisor: the fault cause stands in FAULTED alone (R172), the resync timer runs in ALIGN and RESYNC
alone (R169), the stall timer while frames are in flight (R170). -/
structure TrunkOk (p : Port) (x : Supervisor) : Prop where
  port : PortOk p
  sup : SupOk x
  cause : p.state = .faulted ↔ x.faultCause.isSome = true
  resync : p.state = .align ∨ p.state = .resync ↔ x.resync.isSome = true
  stall : p.store ≠ [] ↔ x.stall.isSome = true

/-- Every trunk. -/
def TrunksOk (s : State) : Prop := ∀ t, TrunkOk (s.port t) (s.sup t)

/-! ## The form of the journal and the tables -/

/-- The entry list: every position at most once, every pending set non-empty (R12, R13). -/
structure EntriesOk (es : List JEntry) : Prop where
  positions : (es.map (·.index)).Nodup
  pending : ∀ e ∈ es, e.noPending = false

/-- A reorder store: in canonical form, every frame numbered from E to E + 32,767 (R132); empty outside RUNNING and
RESYNC (R90, R92). -/
structure ReorderOk (p : Port) : Prop where
  sorted : Table.sorted p.reorder = true
  up : p.reorder ≠ [] → p.state = .running ∨ p.state = .resync
  window : ∀ e ∈ p.reorder, p.expectedFrame ≤ e.1 ∧ e.1 < p.expectedFrame + 32768

/-- The journal's order and the sparse tables keep their form. -/
structure FormOk (s : State) : Prop where
  entries : EntriesOk s.journal.entries
  gens : Table.wf 0 s.journal.gens = true
  buckets : Table.wf .reset s.buckets = true
  records : Table.wf .reset s.apply.records = true
  reorder : ∀ t, ReorderOk (s.port t)

/-! ## Words of the statements -/

/-- A record finds no bytes held (R178), its body and body check agree (R179), and its body has n bytes (R194). -/
def Intact (s : State) (w : Wire) (n : Nat) : Prop :=
  s.sli.asm.buf = [] ∧ bodyCheck w.body = w.check ∧ w.body.length = n

/-- The link after a request taken, with its reply ready (R180). -/
def State.replied (s : State) (w : Wire) (kind : Byte) (r : Result) (body : List Byte) : Sli :=
  { s.requestTaken.sli with
    replies := s.requestTaken.sli.replies ++ [⟨kind, false, true, w.tag.toNat, r, body⟩] }

/-- The record is that of an object (R47). -/
def isObj (b : Nat) (d : Digest) (x : ObjRec) : Bool := x.bucket == b && x.digest == d

/-- The map with an object's record changed where it stands. -/
def mapChanged (m : List ObjRec) (b : Nat) (d : Digest) (g : ObjRec → ObjRec) : List ObjRec :=
  m.map fun x => if isObj b d x then g x else x

/-- The map with an object's record touched: changed, and at the most recent end (R53). -/
def mapTouched (m : List ObjRec) (b : Nat) (d : Digest) (g : ObjRec → ObjRec) : List ObjRec :=
  m.filter (fun x => !isObj b d x) ++ (m.filter (isObj b d)).map g

/-- The map after an object's record is found or inserted, and changed: a record found is touched, a new one goes to the
most recent end, and a full map evicts the least recently touched record without a pin (R49 to R51, R53). -/
structure MapTook (m : List ObjRec) (b : Nat) (d : Digest) (g : ObjRec → ObjRec) (m' : List ObjRec) : Prop where
  found : (∃ x ∈ m, isObj b d x = true) → m' = mapTouched m b d g
  inserted : (∀ x ∈ m, isObj b d x = false) → m.length < 65536 → m' = m ++ [g ⟨b, d, none, false, none, 0⟩]
  evicted : (∀ x ∈ m, isObj b d x = false) → 65536 ≤ m.length →
    ∀ xs x ys, m = xs ++ x :: ys → (∀ y ∈ xs, y.pins ≠ 0) → x.pins = 0 → m' = xs ++ ys ++ [g ⟨b, d, none, false, none, 0⟩]

/-- The map after entries have left the journal: each gives up its pin, and an unsealed one clears the field that names
it (R29, R54, R55). -/
def mapAfter (m : List ObjRec) (gone : List JEntry) : List ObjRec := m.map fun x =>
  { x with
    pins := x.pins - gone.countP fun e => isObj e.bucket e.digest x
    unsealed := if gone.any (fun e => isObj e.bucket e.digest x && e.seq.isNone) then none else x.unsealed }

/-- The Body Store after entries have left their slots: use falls, the entries leave the reservation list, and a release
that leaves use at or below 458,752 ends the parking (R65, R69). -/
def bodyAfter (b : BodyStore) (gone : List JEntry) : BodyStore :=
  let use := b.outUse - (gone.map fun e => e.slotsHeld).sum
  { b with
    outUse := use
    reservation := b.reservation.filter fun i => !gone.any fun e => e.fill.isSome && e.index == i
    parkOn := b.parkOn && !((gone.any fun e => e.fill.isSome) && decide (use ≤ 458752)) }

/-- The drain test of a bucket after one of its entries has left: a DRAINING bucket without entries is ABSENT (R6). -/
structure Drained (s u : State) (b : Nat) : Prop where
  passed : (s.bucket b).state = .draining → (∀ e ∈ u.journal.entries, e.bucket ≠ b) →
    u.bucket b = { s.bucket b with state := .absent, targets := .all false, band := .express, rebase := .all false }
  stays : ¬ ((s.bucket b).state = .draining ∧ ∀ e ∈ u.journal.entries, e.bucket ≠ b) → u.bucket b = s.bucket b
  others : ∀ b', b' ≠ b → u.bucket b' = s.bucket b'

/-- The map after inbound entries are discarded: each mapped one gives up its pin (R54). -/
def mapReleased (m : List ObjRec) (gone : List InEntry) : List ObjRec := m.map fun x =>
  { x with pins := x.pins - gone.countP fun e => e.mapped && isObj e.notice.bucket e.notice.digest x }

/-- The inbound entries of a trunk that are being rebuilt (Table 7-2). -/
def State.reassembling (s : State) (t : Trunk) : List InEntry :=
  (s.apply.records.filter fun x => x.1 / 4096 == t.index).filterMap fun x => x.2.reassembly

/-- An incarnation change has cleared a trunk's inbound records: each keeps its queue, held flag and numbers, and leaves
the slot wait list (R145, log 31); each entry being rebuilt gives up its slots, its pin and its backlog place (R153).
That the entry of an APPLY in flight stays in the queue is log 43. The refill queue alone is left open here. -/
structure InboundCleared (s u : State) (t : Trunk) : Prop where
  records : ∀ b, b < 4096 → u.inRec (t.index * 4096 + b) =
    let r := s.inRec (t.index * 4096 + b)
    { r with
      reassembly := none, skip := none, epoch := none, ackOwed := false
      queue := r.queue.map fun e => { e with current := false } }
  others : ∀ v b, v ≠ t → b < 4096 → u.inRec (v.index * 4096 + b) = s.inRec (v.index * 4096 + b)
  apply : u.apply = { s.apply with
    records := u.apply.records
    waitList := s.apply.waitList.filter fun k => k / 4096 != t.index
    backlog := s.apply.backlog - (s.reassembling t).length }
  body : u.body = { s.body with
    inUse := s.body.inUse - ((s.reassembling t).map fun e => e.slots).sum
    refillQueue := u.body.refillQueue }
  map : u.map = mapReleased s.map (s.reassembling t)

/-- What n events of a counter that stands at 255 do to the link: each sets COUNTER-SAT, and under that latch's mask bit
queues a COUNTER-SATURATED report, behind the STATUS-CHANGE of the latch's passage (R157, log 22). -/
def Sli.saturated (x : Sli) (t : Trunk) (c : CounterName) : Nat → Sli
  | 0 => x
  | n + 1 =>
    let y := x.latchTrunk t .counterSat true
    let z := if (x.mask.trunk.get t).counterSat = true ∧ y.reports.length < 256 then
        { y with reports := y.reports ++ [.counterSaturated t c] }
      else y
    z.saturated t c n

/-- An identification of a signature moves a trunk of a state (Table 8-3): SILENT to DOWN, LOOPED and FOREIGN to
FAULTED. -/
def movesTrunk (st : TrunkState) (g : Signature) : Prop :=
  (g = .silent ∧ st ∈ [TrunkState.hunt, .align, .running, .resync])
    ∨ ((g = .looped ∨ g = .foreign) ∧ st ∈ [TrunkState.hunt, .align, .running, .resync, .down])

/-- The period that ends identifies: its signature makes the run five long (R163). -/
def Supervisor.identifiesNow (x : Supervisor) : Prop :=
  x.tally.signature ≠ .clean ∧ x.runSignature = some x.tally.signature ∧ 4 ≤ x.runLength

/-- The orders of a cycle start in which an identification is taken before the R97 test (R168). -/
def actsAtOnce : Config.CycleOrder → Bool
  | .closeLast | .closeMiddle | .closeFirst => false
  | .closeMiddleActed | .closeFirstActed | .identificationFirst => true

/-- In an order, a cycle start's own identification is taken at once, behind the requests that wait, and one of them moves
the trunk (R168). -/
def State.movedAtStart (s : State) (t : Trunk) (o : Config.CycleOrder) : Prop :=
  (s.sup t).identifiesNow ∧ actsAtOnce o = true
    ∧ ∃ g ∈ (s.sup t).requests ++ [(s.sup t).tally.signature], movesTrunk (s.port t).state g

/-- A valid arrival counted, and reported to the supervisor with its marks (R82, R160). -/
def State.arrivedWith (s : State) (t : Trunk) (looped foreign peer : Bool) : State :=
  let p := s.port t
  let x := (s.sup t).tally
  { s with
    ports := s.ports.set t { p with
      rxPos := p.rxPos + 1, stats := { p.stats with framesReceived := p.stats.framesReceived + 1 } }
    sups := s.sups.set t { s.sup t with
      tally := ⟨x.arrivals + 1, x.invalid, x.looped || looped, x.foreign || foreign, x.peer || peer⟩ } }

/-- An arrival in TEST that no check counts: counted, and nothing more (R82, R105). -/
def State.countedOnly (s : State) (t : Trunk) : State :=
  let p := s.port t
  { s with ports := s.ports.set t { p with
    rxPos := p.rxPos + 1, stats := { p.stats with framesReceived := p.stats.framesReceived + 1 } } }

/-- An arrival that is no matching HEAD goes by the lock, where the lock acts, and is then the latest one (R95, R98,
R100). -/
def State.passedLock (s : State) (t : Trunk) : State :=
  let v := if (s.port t).state ∈ [TrunkState.hunt, .align, .running, .resync] then s.lockArrival t none else s
  { v with ports := v.ports.set t { v.port t with prevHead := false } }

/-- The incarnation check of a frame from the expected peer: its incarnation is recorded, and the trunk's inbound records
are cleared where another was recorded before (R93, R153). -/
structure IncarnationTaken (s v : State) (t : Trunk) (i : Stamp) : Prop where
  frame : v = { s with
    ports := s.ports.set t { s.port t with recorded := some i }, apply := v.apply, body := v.body, map := v.map }
  same : (s.port t).recorded = none ∨ (s.port t).recorded = some i → v.apply = s.apply ∧ v.body = s.body ∧ v.map = s.map
  changed : ∀ r, (s.port t).recorded = some r → r ≠ i → Table.wf .reset s.apply.records = true →
    InboundCleared s v t ∧ v.body.refillQueue = s.body.refillQueue

/-- HUNT to ALIGN at a frame with READY: the align delay in force is taken, and the resync timer starts (R94, R96,
R169). -/
def State.aligned (s : State) (t : Trunk) : State :=
  let p := s.port t
  { s with
    ports := s.ports.set t { p with state := .align, alignCycle := 0, alignDelay := p.config.alignDelay, headCycles := 0 }
    sups := s.sups.set t { s.sup t with resync := some ⟨s.now, p.config.resyncTimeout * 1000000⟩ } }

/-- A protocol restart is counted, and is a trunk restart into HUNT (R91). -/
def State.startedOver (s : State) (t : Trunk) : State :=
  let p := s.port t
  State.trunkRestart { s with
    ports := s.ports.set t { p with stats := { p.stats with protocolRestarts := p.stats.protocolRestarts + 1 } } } t .hunt none

/-- The entry is PARKED, and of its bucket the oldest that is QUEUED or SENDING for a slot whose trunk is available
(R72). -/
def dueForRefill (s : State) (e : JEntry) : Bool :=
  e.bodyState == .parked && Trunk.all.any fun t =>
    ((s.port t).state == .running || (s.port t).state == .resync)
      && (s.journal.entries.find? fun x => x.bucket == e.bucket && x.toSend t).map (·.index) == some e.index

/-- The refill queue holds exactly the entries that are due (R72). -/
def RefillCurrent (s : State) : Prop :=
  ∀ i, i ∈ s.body.refillQueue ↔ ∃ e ∈ s.journal.entries, e.index = i ∧ dueForRefill s e = true

/-- The host requests with their kinds (Table 10-2). -/
def hostRequests : List (Byte × (Wire → Instr)) :=
  [(0x01#8, .setClock), (0x02#8, .setSite), (0x03#8, .bucketSet), (0x04#8, .bucketQuery), (0x05#8, .submit),
    (0x06#8, .chunk), (0x07#8, .trunkSet), (0x08#8, .trunkEnable), (0x09#8, .trunkDisable), (0x0A#8, .trunkTest),
    (0x0B#8, .trunkClear), (0x0C#8, .trunkRestart), (0x0D#8, .trunkQuery), (0x0E#8, .statusRead), (0x0F#8, .statusPeek),
    (0x10#8, .counterRead), (0x11#8, .counterWrite), (0x12#8, .statsRead), (0x13#8, .reportMask), (0x14#8, .applyResume),
    (0x15#8, .restart)]

end Sys2Proof.Machine
end

