-- ==== Sys2Proof/Certificates/Slice0/Obligations.lean ====
section
/-! DEFINITION. The statements for the provers. -/

section Statements
open Sys2Proof Sys2Proof.Machine

/-! ## Steps, requests and records -/

/-- A step takes the command at the front of the queue; an empty queue lets 1 ms pass (model's choice, log 1). -/
def Obligations.StepTakesFrontCommand : Prop :=
  (∀ (c : Instr) (rest : List Instr) (s : State), step { s with pending := c :: rest } = exec c { s with pending := rest })
  ∧ ∀ s : State, s.pending = [] → step s = .next { s with now := s.now + 1000000 }

/-- Every command completes, and leaves the queue to the step. -/
def Obligations.EveryCommandCompletes : Prop :=
  ∀ (c : Instr) (s : State), ∃ t, exec c s = .next t ∧ t.pending = s.pending

/-- Taking a request: the assembler has its record, and an earlier reply, with what goes before it, has left (log 4); a
record of another role waits for the reply to a RESTART alone (R192); what a reply is. A request that finds bytes held
begins no record: its bytes are the next of the stream (R178, log 27). -/
def Obligations.RequestTakenAndReplied : Prop :=
  (∀ s : State, (∀ r ∈ s.sli.replies, r.partTag = true) →
    s.requestTaken = { s with sli := { s.sli with asm := ⟨true, []⟩ } })
  ∧ (∀ (s : State) (xs ys : List LinkRecord) (r : LinkRecord), s.sli.replies = xs ++ r :: ys → r.partTag = false →
    (∀ y ∈ ys, y.partTag = true) →
    s.requestTaken = { s with sli := { s.sli with
      asm := ⟨true, []⟩
      sent := s.sli.sent ++ s.sli.reports.map Report.record ++ xs ++ [r]
      reports := []
      replies := ys } })
  ∧ (∀ s : State, (∃ r ∈ s.sli.replies, r.partTag = false ∧ r.kind = 0x15#8 ∧ r.result = .ok) →
    s.recordTaken = s.requestTaken)
  ∧ (∀ s : State, (∀ r ∈ s.sli.replies, ¬ (r.partTag = false ∧ r.kind = 0x15#8 ∧ r.result = .ok)) →
    s.recordTaken = { s with sli := { s.sli with asm := ⟨true, []⟩ } })
  ∧ (∀ (s : State) (kind : Byte) (w : Wire) (r : Result) (body : List Byte),
    s.reply kind w r body = { s with sli := { s.sli with
      replies := s.sli.replies ++ [⟨kind, false, true, w.tag.toNat, r, body⟩] } })
  ∧ ∀ c ∈ hostRequests, ∀ (w : Wire) (s : State), s.sli.asm.buf ≠ [] →
    exec (c.2 w) s = .next (s.receive
      (headerBytes c.1 0 w.tag.toNat 0 w.body.length ++ w.body ++ beBytes 4 w.check.toNat))

/-- POWER_ON_RESET: the values of R1, R32, R34, R36 to R39, R48, R61, R107, R131, R132, R135, R159, R176 and R193. -/
def Obligations.PowerOnReset : Prop :=
  ∀ s : State, ∃ t, exec .powerOnReset s = .next t
    ∧ t.journal.entries = [] ∧ (∀ i, t.journal.gens.get 0 i = 0)
    ∧ (∀ b, t.bucket b = ⟨.absent, .all false, .express, 1, .all 0, .all false, false⟩)
    ∧ t.clock = ⟨false, 0, 0, 1000, none, none, 0, 0⟩ ∧ t.siteClock = 0 ∧ t.map = []
    ∧ t.body = ⟨0, 0, [], false, [], []⟩
    ∧ (∀ u, (t.port u).state = .off ∧ (t.port u).staged = none ∧ (t.port u).lock = ⟨false, none, none, 0, 0, false⟩
      ∧ (t.port u).config = ⟨none, 16, ⟨1000, 1, 200000, ⟨0, 13, (t.port u).config.paced.plan.bs,
          (t.port u).config.paced.plan.be, false⟩, false, 1, 1⟩, 0, 2000, 30, 250, false⟩
      ∧ (t.port u).filter = ⟨false, 0⟩ ∧ (t.port u).lastCycle = 0 ∧ (t.port u).peerSeenRunning = false
      ∧ (t.port u).peerHears = false ∧ (t.port u).heard = false
      ∧ (t.port u).test.good = 0 ∧ (t.port u).test.mismatched = 0 ∧ (t.port u).test.counter = 0
      ∧ (t.port u).recorded = none ∧ (t.port u).store = [] ∧ (t.port u).nextFrame = 0 ∧ (t.port u).reorder = []
      ∧ (t.port u).expectedFrame = 0 ∧ (t.port u).expressStart = 0 ∧ (t.port u).bulkStart = 0 ∧ (t.port u).ackStart = 0
      ∧ (t.port u).stats = ⟨0, 0, 0, 0, 0, 0⟩)
    ∧ (∀ u, t.sup u = ⟨⟨0, 0, 0⟩, ⟨0, 0, false, false, false⟩, [], none, 0, none, none, none, none, none, []⟩)
    ∧ (∀ k, t.inRec k = ⟨none, 0, 0, none, none, [], false, false, none⟩)
    ∧ t.apply.slots = [] ∧ t.apply.waitList = [] ∧ t.apply.backlog = 0
    ∧ t.sli.asm.inStep = false ∧ t.sli.tags = [] ∧ t.sli.reports = [] ∧ t.sli.replies = [] ∧ t.sli.partQueue = []
    ∧ t.sli.latches.vector = 0 ∧ t.sli.mask.vector = 0 ∧ t.sli.stats = ⟨0, 0, 0, 0, 0, 0, 0, 0, 0, 0, 0, 0⟩
    ∧ t = { State.reset with freeCount := s.freeCount, pending := s.pending }

/-- RESTART with scope PART keeps the site clock, l, c and the error counters, resets the rest, leaves the assembler
IN-STEP, and replies OK; any other scope is refused. -/
def Obligations.PartRestart : Prop :=
  ∀ (w : Wire) (s : State), Intact s w 4 →
    (fieldAt w.body 0 1 = 1 →
      exec (.restart w) s = .next { State.reset with
        now := s.now
        clock := { s.clock with skew := 1000, site := none, incarnation := none }
        ports := s.ports.map fun p => { Port.reset with line := p.line }
        sups := s.sups.map fun x => { Supervisor.reset with counters := x.counters }
        sli := { Sli.reset with
          asm := ⟨true, []⟩
          sent := s.requestTaken.sli.sent
          replies := [⟨0x15#8, false, true, w.tag.toNat, .ok, []⟩] }
        freeCount := s.freeCount
        pending := s.pending })
    ∧ (fieldAt w.body 0 1 ≠ 1 → exec (.restart w) s = .next (s.requestTaken.reply 0x15#8 w .badArgument []))

/-- What a link fault does: the LINK-ERROR latch, and a report of its type under the mask bit, while fewer than 256
reports wait (R185; its passage queues no STATUS-CHANGE: log 8). A request whose body check fails: LINK-ERROR with its
report, and BAD-CHECK; one of a wrong length: BAD-ARGUMENT; in both cases nothing of its body is acted on. -/
def Obligations.DamagedAndMisfitRequests : Prop :=
  (∀ (x : Sli) (e : LinkErrorType), x.linkFault e = { x with
    latches := { x.latches with part := { x.latches.part with linkError := true } }
    reports := if x.mask.part.linkError = true ∧ x.reports.length < 256 then x.reports ++ [.linkError e] else x.reports })
  ∧ (∀ c ∈ hostRequests, ∀ (w : Wire) (s : State), s.sli.asm.buf = [] → bodyCheck w.body ≠ w.check →
    exec (c.2 w) s = .next { s with sli := { (s.requestTaken.sli.linkFault .bodyCheck) with
      replies := s.requestTaken.sli.replies ++ [⟨c.1, false, true, w.tag.toNat, .badCheck, []⟩] } })
  ∧ (∀ c ∈ ([(0x01#8, .setClock, 12), (0x02#8, .setSite, 4), (0x03#8, .bucketSet, 8), (0x04#8, .bucketQuery, 4),
        (0x07#8, .trunkSet, 28), (0x08#8, .trunkEnable, 4), (0x09#8, .trunkDisable, 4), (0x0A#8, .trunkTest, 20),
        (0x0B#8, .trunkClear, 4), (0x0C#8, .trunkRestart, 4), (0x0D#8, .trunkQuery, 4), (0x0E#8, .statusRead, 0),
        (0x0F#8, .statusPeek, 0), (0x10#8, .counterRead, 4), (0x11#8, .counterWrite, 12), (0x12#8, .statsRead, 0),
        (0x13#8, .reportMask, 8), (0x14#8, .applyResume, 4), (0x15#8, .restart, 4)] : List (Byte × (Wire → Instr) × Nat)),
      ∀ (w : Wire) (s : State), s.sli.asm.buf = [] → bodyCheck w.body = w.check → w.body.length ≠ c.2.2 →
        exec (c.2.1 w) s = .next { s with sli := s.replied w c.1 .badArgument [] })
  ∧ (∀ (w : Wire) (s : State), s.sli.asm.buf = [] → bodyCheck w.body = w.check →
      (w.body.length < 8 ∨ 65520 < w.body.length) →
      exec (.chunk w) s = .next { s with sli := s.replied w 0x06#8 .badArgument [] })
  ∧ ∀ (w : Wire) (s : State), s.sli.asm.buf = [] → bodyCheck w.body = w.check →
      (∀ ps, parsePatches w.body w.body.length (fieldAt w.body 3 1) 40 ≠ some (ps, w.body.length)) →
      exec (.submit w) s = .next { s with sli := s.replied w 0x05#8 .badArgument [] }

/-- Where the assembler holds no bytes: a request of unknown kind is answered UNKNOWN-KIND with its kind; a record of a
wrong role latches LINK-ERROR without a report (log 8); a host reply that is damaged is answered BAD-CHECK, and one
whose tag and kind match no outstanding request latches LINK-ERROR with its report; the assembler is then IN-STEP with
no bytes (R178). Nothing else happens, but that what R180 and R192 have wait for an earlier reply finds it sent (log 4).
Where bytes are held, the record's bytes are the next of the stream (R178; the role fault's kind: log 27). -/
def Obligations.StrayRecords : Prop :=
  (∀ (kind : Byte) (w : Wire) (s : State), ¬ (1 ≤ kind.toNat ∧ kind.toNat ≤ 21) → s.sli.asm.buf = [] →
    (bodyCheck w.body = w.check →
      exec (.unknownKindRequest kind w) s = .next { s with sli := s.replied w kind .unknownKind [] })
    ∧ (bodyCheck w.body ≠ w.check →
      exec (.unknownKindRequest kind w) s = .next { s with sli := { (s.requestTaken.sli.linkFault .bodyCheck) with
        replies := s.requestTaken.sli.replies ++ [⟨kind, false, true, w.tag.toNat, .badCheck, []⟩] } }))
  ∧ (∀ (role : WrongRole) (w : Wire) (s : State), s.sli.asm.buf = [] →
    (bodyCheck w.body = w.check →
      exec (.roleFaultRecord role w) s = .next { s with sli := { s.recordTaken.sli with
        latches := s.sli.latches.putPart .linkError true } })
    ∧ (bodyCheck w.body ≠ w.check →
      exec (.roleFaultRecord role w) s = .next { s with sli := s.recordTaken.sli.linkFault .bodyCheck }))
  ∧ (∀ c ∈ [Instr.applyReply, Instr.bodyWantedReply], ∀ (kind : Byte) (result : BitVec 16) (w : Wire) (s : State),
    s.sli.asm.buf = [] →
    (bodyCheck w.body ≠ w.check →
      exec (c kind result w) s = .next { s with sli := { (s.recordTaken.sli.linkFault .bodyCheck) with
        replies := s.recordTaken.sli.replies ++ [⟨kind, true, true, w.tag.toNat, .badCheck, []⟩] } })
    ∧ (bodyCheck w.body = w.check → (∀ k, s.sli.tags.lookup w.tag.toNat = some k → k.code ≠ kind) →
      exec (c kind result w) s = .next { s with sli := s.recordTaken.sli.linkFault .partTag }))
  ∧ ∀ (kind : Byte) (result : BitVec 16) (role : WrongRole) (w : Wire) (s : State), s.sli.asm.buf ≠ [] →
    let bytes := fun (k : Byte) (flags r : Nat) =>
      headerBytes k flags w.tag.toNat r w.body.length ++ w.body ++ beBytes 4 w.check.toNat
    (¬ (1 ≤ kind.toNat ∧ kind.toNat ≤ 21) → exec (.unknownKindRequest kind w) s = .next (s.receive (bytes kind 0 0)))
    ∧ exec (.roleFaultRecord role w) s = .next (s.receive (bytes 0#8 (if role = .replyToHost then 2 else 1) 0))
    ∧ exec (.applyReply kind result w) s = .next (s.receive (bytes kind 3 result.toNat))
    ∧ exec (.bodyWantedReply kind result w) s = .next (s.receive (bytes kind 3 result.toNat))

/-- HEADER_FAULT completes in every state: its bytes join those the assembler holds (log 27), and the assembler goes on,
move by move (R178). In SEARCH a byte position without the marker is passed over in silence; a candidate of 16 bytes
that fails latches LINK-ERROR and loses its first byte alone; one that passes is where a record begins. IN-STEP, 16
bytes that are no good header are a header fault, whose first byte is dropped; a good header collects its body and 4
check bytes, and the record is then acted on as its command acts where no bytes are held. With too few bytes it waits.
It starts in SEARCH at power-on reset, and IN-STEP after PART restart. -/
def Obligations.HeaderFaultSearch : Prop :=
  (∀ (bytes : List Byte) (s : State), exec (.headerFault bytes) s = .next (State.assembled
    { s with sli := { s.sli with asm := ⟨s.sli.asm.inStep, s.sli.asm.buf ++ bytes⟩ } }))
  ∧ (∀ (bytes : List Byte) (s : State), exec (.headerFault bytes) s = .next (s.receive bytes))
  ∧ (∀ h : List Byte, headerOk h = true ↔ fieldAt h 0 2 = 0xC35A
    ∧ fieldAt h 10 2 = (headerCheck (slice h 0 10 ++ slice h 12 4)).toNat ∧ fieldAt h 8 2 ≤ 65520)
  ∧ (∀ s : State,
    let buf := s.sli.asm.buf
    let at_ := fun (u : State) (inStep : Bool) (bs : List Byte) => { u with sli := { u.sli with asm := ⟨inStep, bs⟩ } }
    (s.sli.asm.inStep = false →
      (buf = [] → s.assembled = s)
      ∧ (∀ b, buf = [b] → s.assembled = if b = 0xC3#8 then s else at_ s false [])
      ∧ ∀ b0 b1 rest, buf = b0 :: b1 :: rest →
        (¬ (b0 = 0xC3#8 ∧ b1 = 0x5A#8) → s.assembled = (at_ s false (b1 :: rest)).assembled)
        ∧ (b0 = 0xC3#8 → b1 = 0x5A#8 →
          (buf.length < 16 → s.assembled = s)
          ∧ (16 ≤ buf.length → headerOk (buf.take 16) = false → s.assembled =
            (at_ { s with sli := { s.sli with latches := s.sli.latches.putPart .linkError true } } false
              (b1 :: rest)).assembled)
          ∧ (16 ≤ buf.length → headerOk (buf.take 16) = true → s.assembled = (at_ s true buf).assembled)))
    ∧ (s.sli.asm.inStep = true →
      (buf.length < 16 → s.assembled = s)
      ∧ (16 ≤ buf.length → headerOk (buf.take 16) = false → s.assembled =
        (at_ { s with sli := s.sli.linkFault .header } false (buf.drop 1)).assembled)
      ∧ (16 ≤ buf.length → headerOk (buf.take 16) = true →
        let n := fieldAt buf 8 2
        (buf.length < 20 + n → s.assembled = s)
        ∧ (20 + n ≤ buf.length → s.assembled =
          (at_ (s.act (recordCommand (buf.take 16) ((buf.drop 16).take n) ((buf.drop (16 + n)).take 4))) true
            (buf.drop (20 + n))).assembled))))
  ∧ (∀ c ∈ hostRequests, ∀ (w : Wire) (s : State), s.sli.asm.buf = [] → exec (c.2 w) s = .next (s.act (c.2 w)))
  ∧ (∀ (kind : Byte) (result : BitVec 16) (role : WrongRole) (w : Wire) (s : State), s.sli.asm.buf = [] →
    (¬ (1 ≤ kind.toNat ∧ kind.toNat ≤ 21) → exec (.unknownKindRequest kind w) s = .next (s.act (.unknownKindRequest kind w)))
    ∧ exec (.roleFaultRecord role w) s = .next (s.act (.roleFaultRecord role w))
    ∧ exec (.applyReply kind result w) s = .next (s.act (.applyReply kind result w))
    ∧ exec (.bodyWantedReply kind result w) s = .next (s.act (.bodyWantedReply kind result w)))
  ∧ (∀ (c : Instr) (s : State) (inStep : Bool) (bs xs ys : List Byte), c = recordCommand bs xs ys →
    State.act { s with sli := { s.sli with asm := ⟨inStep, bs⟩ } } c = s.act c)
  ∧ State.reset.sli.asm = ⟨false, []⟩ ∧ ∀ s : State, s.partRestart.sli.asm = ⟨true, []⟩

/-- RECORD_SEND: the oldest report, else the oldest reply, else the oldest part record, whose tag enters the table as an
APPLY or BODY-WANTED leaves; with nothing ready, nothing (log 3). -/
def Obligations.RecordSendOrder : Prop :=
  ∀ s : State,
    (∀ r rest, s.sli.reports = r :: rest →
      exec .recordSend s = .next { s with sli := { s.sli with reports := rest, sent := s.sli.sent ++ [r.record] } })
    ∧ (∀ r rest, s.sli.reports = [] → s.sli.replies = r :: rest →
      exec .recordSend s = .next { s with sli := { s.sli with replies := rest, sent := s.sli.sent ++ [r] } })
    ∧ (∀ r rest, s.sli.reports = [] → s.sli.replies = [] → s.sli.partQueue = r :: rest →
      exec .recordSend s = .next { s with sli := { s.sli with
        partQueue := rest
        sent := s.sli.sent ++ [r]
        tags := if r.kind = 0x40#8 then Table.put r.tag .apply s.sli.tags
          else if r.kind = 0x41#8 then Table.put r.tag .bodyWanted s.sli.tags
          else s.sli.tags } })
    ∧ (s.sli.reports = [] → s.sli.replies = [] → s.sli.partQueue = [] → exec .recordSend s = .next s)

/-- The latches that Sli.latch and Sli.latchTrunk set: an event that finds one set changes nothing; its passage to set
leaves every other latch, and queues one STATUS-CHANGE if its mask bit is set and fewer than 256 reports wait. Two
latches are set otherwise: LINK-ERROR, whose passage queues no STATUS-CHANGE (log 8), and UNIDENTIFIED under the policy
IDENTIFY, which queues none (R164): that is Sli.latchTrunk without its report. -/
def Obligations.LatchesReportTheirPassage : Prop :=
  (∀ (x : Sli) (l : PartLatch), x.latches.part.get l = true → x.latch l = x)
  ∧ (∀ (x : Sli) (l : PartLatch), x.latches.part.get l = false →
    x.latch l = { x with
      latches := x.latches.putPart l true
      reports := if x.mask.part.get l = true ∧ x.reports.length < 256 then x.reports ++ [.partChange l] else x.reports })
  ∧ (∀ (x : Sli) (t : Trunk) (l : TrunkLatch), (x.latches.trunk.get t).get l = true → x.latchTrunk t l true = x)
  ∧ (∀ (x : Sli) (t : Trunk) (l : TrunkLatch), (x.latches.trunk.get t).get l = false →
    x.latchTrunk t l true = { x with
      latches := x.latches.putTrunk t l true
      reports := if (x.mask.trunk.get t).get l = true ∧ x.reports.length < 256 then x.reports ++ [.trunkChange t l]
        else x.reports })
  ∧ (∀ (x : Sli) (t : Trunk) (l : TrunkLatch), x.latchTrunk t l false = { x with latches := x.latches.putTrunk t l true })
  ∧ (∀ (x : LatchSet) (l k : PartLatch) (v : Bool), (x.putPart l v).part.get k = if k = l then v else x.part.get k)
  ∧ (∀ (x : LatchSet) (l : PartLatch) (v : Bool), (x.putPart l v).trunk = x.trunk)
  ∧ (∀ (x : LatchSet) (t u : Trunk) (l k : TrunkLatch) (v : Bool),
    ((x.putTrunk t l v).trunk.get u).get k = if u = t ∧ k = l then v else (x.trunk.get u).get k)
  ∧ ∀ (x : LatchSet) (t : Trunk) (l : TrunkLatch) (v : Bool), (x.putTrunk t l v).part = x.part

/-! ## Reading requests, the mask and the counters -/

/-- STATUS_PEEK and STATUS_READ reply alike; the read then clears each event latch and each latch whose condition is
absent, and the peek changes nothing (R187, R188, Table 9-3). The reply's 96 bytes by Table 10-9, its latch vector by
Table 10-8. The model's choices in them: the site byte and the incarnation field are 0 while their flags are clear (log
42), and a slot handed to a record and not yet taken is not in the count of slots in use (log 17). -/
def Obligations.StatusReplies : Prop :=
  (∀ s : State, s.statusBody.length = 96 ∧ s.statusBody =
    beBytes 8 s.sli.latches.vector
    ++ beBytes 8 s.siteClock ++ beBytes 8 s.clock.l ++ beBytes 2 s.clock.c
    ++ beBytes 1 ((if s.clock.set then 1 else 0) + (if s.clock.site.isSome then 2 else 0)
      + (if s.clock.incarnation.isSome then 4 else 0))
    ++ beBytes 1 (s.clock.site.getD 0) ++ beBytes 4 s.clock.skew ++ beBytes 8 (s.clock.incarnation.getD 0#64).toNat
    ++ beBytes 4 s.map.length ++ beBytes 4 (s.map.countP fun x => decide (0 < x.pins))
    ++ beBytes 4 s.body.outUse ++ beBytes 4 s.body.inUse ++ beBytes 1 (if s.body.parkOn then 1 else 0) ++ beBytes 3 0
    ++ beBytes 4 (s.journal.entries.countP fun e => decide (e.bodyState = .parked))
    ++ beBytes 4 s.body.refillQueue.length ++ beBytes 4 s.body.refillTable.length
    ++ beBytes 4 s.apply.backlog ++ beBytes 4 s.apply.slots.length
    ++ beBytes 4 (s.apply.records.countP fun e => e.2.held) ++ beBytes 4 s.apply.waitList.length
    ++ Trunk.all.flatMap (fun t => beBytes 1 (s.port t).state.code) ++ beBytes 4 s.sli.reports.length)
  ∧ (∀ x : LatchSet, x.vector < 2 ^ 38 ∧ (∀ l, x.vector.testBit l.number = x.part.get l)
    ∧ ∀ t l, x.vector.testBit (TrunkLatch.number t l) = (x.trunk.get t).get l)
  ∧ ∀ (w : Wire) (s : State), Intact s w 0 →
    exec (.statusPeek w) s = .next (s.requestTaken.reply 0x0F#8 w .ok s.requestTaken.statusBody)
    ∧ ∃ x : LatchSet,
      exec (.statusRead w) s = .next (State.reply
        { s.requestTaken with sli := { s.requestTaken.sli with latches := x } } 0x0E#8 w .ok s.requestTaken.statusBody)
      ∧ (∀ l, x.part.get l = (s.sli.latches.part.get l && match l with
        | .parking => s.body.parkOn
        | .applyHeld => s.apply.records.any fun e => e.2.held
        | _ => false))
      ∧ ∀ t l, (x.trunk.get t).get l = ((s.sli.latches.trunk.get t).get l && match l with
        | .unidentified => (match (s.sup t).latest with
          | some sig => sig != .clean
          | none => false) && (s.sup t).runLength != 5
        | .identified => (s.sup t).runLength == 5
        | .remoteAlarm => (s.port t).filter.alarm
        | .resync => (s.port t).state == .resync
        | .down => (s.port t).state == .down
        | .faulted => (s.port t).state == .faulted
        | .counterSat => (s.sup t).counters.frameCheck == 255 || (s.sup t).counters.headError == 255
          || (s.sup t).counters.resend == 255
        | .windowFull => decide ((s.port t).window ≤ (s.port t).store.length))

/-- STATS_READ carries every statistic, four bytes each, in the order of R191; TRUNK_QUERY replies with the items of
R106 in the 148 bytes of Table 10-9 (the codes of some fields: log 13; the rounding of the ms left and HEAD cycles above
65,535 are free values: logs 14 and 15), or BAD-ARGUMENT for a trunk number above 3. Neither changes anything but the
link. -/
def Obligations.StatsAndTrunkQuery : Prop :=
  (∀ (w : Wire) (s : State), Intact s w 0 →
    exec (.statsRead w) s = .next (s.requestTaken.reply 0x12#8 w .ok
      (([s.sli.stats.submits, s.sli.stats.supersedes, s.sli.stats.merges, s.sli.stats.parks, s.sli.stats.refills,
          s.sli.stats.lostBodies, s.sli.stats.voids, s.sli.stats.staleDiscards, s.sli.stats.uncheckedApplies,
          s.sli.stats.skewClamps, s.sli.stats.borrowAheads, s.sli.stats.badAcks]
        ++ Trunk.all.flatMap fun t => [(s.port t).stats.framesSent, (s.port t).stats.framesReceived,
          (s.port t).stats.entriesBegun, (s.port t).stats.entriesAcked, (s.port t).stats.duplicates,
          (s.port t).stats.protocolRestarts]).flatMap fun v => beBytes 4 v.toNat)))
  ∧ (∀ (w : Wire) (s : State) (t : Trunk), Intact s w 4 → fieldAt w.body 0 1 = t.index →
    let p := s.port t
    let x := s.sup t
    let bit := fun (b : Bool) => if b then 1 else 0
    let left := fun (y : Option Timer) => match y with
      | none => 0
      | some y =>
        let ns := y.start + y.length - s.now
        ns / 1000000 + (if ns % 1000000 ≠ 0 ∧ Config.msRoundUp (ns % 1000000) = true then 1 else 0)
    ∃ body, exec (.trunkQuery w) s = .next (s.requestTaken.reply 0x0D#8 w .ok body) ∧ body.length = 148
      ∧ body = beBytes 1 p.state.code ++ beBytes 3 0 ++ beBytes 4 (bit p.staged.isSome) ++ configBlock t p.config
        ++ (match p.staged with
          | none => List.replicate 28 0#8
          | some c => configBlock t { p.config with paced := c })
        ++ beBytes 4 p.period ++ beBytes 4 p.window ++ beBytes 4 (p.config.paced.rto p.config.k)
        ++ beBytes 4 p.store.length ++ beBytes 4 (p.store.countP fun f => f.queued) ++ beBytes 4 p.reorder.length
        ++ beBytes 4 (bit (s.searchSlot t .express).isSome) ++ beBytes 6 (p.peerThrough.getD 281474976710655) ++ beBytes 2 0
        ++ beBytes 1 (bit p.lock.held) ++ beBytes 1 (p.lock.remoteK.getD 0) ++ beBytes 1 p.lock.run
        ++ beBytes 1 p.lock.headErrors ++ beBytes 1 p.lastCycle ++ beBytes 1 0
        ++ beBytes 2 (if p.headCycles < 65536 then p.headCycles else (Config.headCyclesField p.headCycles).toNat)
        ++ beBytes 4 (bit p.filter.alarm + 2 * bit p.peerSeenRunning + 4 * bit p.peerHears + 8 * bit p.recorded.isSome
          + 16 * bit p.lock.peerLocked)
        ++ beBytes 8 (p.recorded.getD 0#64).toNat
        ++ beBytes 1 (signatureCode x.latest) ++ beBytes 1 (signatureCode x.lastIdentified)
        ++ beBytes 1 (signatureCode x.runSignature) ++ beBytes 1 x.runLength ++ beBytes 1 x.history.length
        ++ beBytes 1 (signatureCode x.faultCause) ++ beBytes 2 (bit x.resync.isSome + 2 * bit x.stall.isSome)
        ++ beBytes 4 (left x.resync) ++ beBytes 4 (left x.stall)
        ++ beBytes 4 p.test.good ++ beBytes 4 p.test.mismatched ++ beBytes 4 p.test.counter.toNat)
  ∧ ∀ (w : Wire) (s : State), Intact s w 4 → 3 < fieldAt w.body 0 1 →
    exec (.trunkQuery w) s = .next (s.requestTaken.reply 0x0D#8 w .badArgument (List.replicate 148 0#8))

/-- BUCKET_QUERY, whole (R11). -/
def Obligations.BucketQueryReply : Prop :=
  ∀ (w : Wire) (s : State), Intact s w 4 →
    (4095 < fieldAt w.body 0 2 →
      exec (.bucketQuery w) s = .next (s.requestTaken.reply 0x04#8 w .badArgument (List.replicate 64 0#8)))
    ∧ (fieldAt w.body 0 2 ≤ 4095 →
      let b := fieldAt w.body 0 2
      let r := s.bucket b
      let es := s.journal.entries.filter fun e => e.bucket == b
      exec (.bucketQuery w) s = .next (s.requestTaken.reply 0x04#8 w .ok
        (beBytes 1 r.state.code ++ beBytes 1 (targetBits r.targets) ++ beBytes 1 r.band.code
          ++ beBytes 1 (if r.seqLimit then 1 else 0) ++ beBytes 4 r.nextSeq
          ++ beBytes 4 es.length ++ beBytes 4 (es.countP fun e => e.seq.isNone)
          ++ Trunk.all.flatMap fun t =>
            beBytes 2 (r.epochs.get t) ++ beBytes 1 (if r.rebase.get t then 1 else 0) ++ beBytes 1 0
              ++ beBytes 4 (es.countP fun e => (e.peers.get t).isSome)
              ++ beBytes 4 (((es.find? fun e => e.toSend t).bind fun e => e.seq).getD 0))))

/-- COUNTER_READ carries the three counters; COUNTER_WRITE replaces those selected, unless one of the values to be
written is above 255; a trunk number above 3 is refused (R158). -/
def Obligations.CounterReadAndWrite : Prop :=
  (∀ (w : Wire) (s : State) (t : Trunk), Intact s w 4 → fieldAt w.body 0 1 = t.index →
    exec (.counterRead w) s = .next (s.requestTaken.reply 0x10#8 w .ok
      (beBytes 1 t.index ++ beBytes 1 (s.sup t).counters.frameCheck ++ beBytes 1 (s.sup t).counters.headError
        ++ beBytes 1 (s.sup t).counters.resend)))
  ∧ (∀ (w : Wire) (s : State) (t : Trunk), Intact s w 12 → fieldAt w.body 0 1 = t.index →
    let on := fun i => (fieldAt w.body 1 1).testBit i
    let v := fun i => fieldAt w.body (4 + 2 * i) 2
    ((∃ i, i < 3 ∧ on i = true ∧ 255 < v i) →
      exec (.counterWrite w) s = .next (s.requestTaken.reply 0x11#8 w .badArgument (List.replicate 4 0#8)))
    ∧ ((∀ i, i < 3 → on i = true → v i ≤ 255) →
      let c : Counters := ⟨if on 0 then v 0 else (s.sup t).counters.frameCheck,
        if on 1 then v 1 else (s.sup t).counters.headError, if on 2 then v 2 else (s.sup t).counters.resend⟩
      exec (.counterWrite w) s = .next (State.reply
        { s.requestTaken with sups := s.sups.set t { s.sup t with counters := c } } 0x11#8 w .ok
        (beBytes 1 t.index ++ beBytes 1 c.frameCheck ++ beBytes 1 c.headError ++ beBytes 1 c.resend))))
  ∧ (∀ (w : Wire) (s : State), Intact s w 4 → 3 < fieldAt w.body 0 1 →
    exec (.counterRead w) s = .next (s.requestTaken.reply 0x10#8 w .badArgument (List.replicate 4 0#8)))
  ∧ ∀ (w : Wire) (s : State), Intact s w 12 → 3 < fieldAt w.body 0 1 →
    exec (.counterWrite w) s = .next (s.requestTaken.reply 0x11#8 w .badArgument (List.replicate 4 0#8))

/-- REPORT_MASK replaces the whole mask, one bit per latch number, queues nothing and takes nothing from the report queue
but what left before the request was taken, and replies with the mask; the mask is clear at power-on reset and after a
PART restart (R189). -/
def Obligations.ReportMaskReplaces : Prop :=
  (∀ (w : Wire) (s : State), Intact s w 8 →
    ∃ m : LatchSet,
      exec (.reportMask w) s = .next (State.reply
        { s.requestTaken with sli := { s.requestTaken.sli with mask := m } } 0x13#8 w .ok (beBytes 8 m.vector))
      ∧ m.vector = fieldAt w.body 0 8 % 2 ^ 38
      ∧ (∀ l, m.part.get l = (fieldAt w.body 0 8).testBit l.number)
      ∧ ∀ t l, (m.trunk.get t).get l = (fieldAt w.body 0 8).testBit (TrunkLatch.number t l))
  ∧ State.reset.sli.mask.vector = 0 ∧ ∀ s : State, s.partRestart.sli.mask.vector = 0

/-! ## The Stamp Clock -/

/-- SET_CLOCK, whole (R35): the clamps, the reply, and that nothing else changes. -/
def Obligations.SetClock : Prop :=
  ∀ (w : Wire) (s : State), Intact s w 12 →
    let time := min (fieldAt w.body 0 8) 4398046511103
    let skew := max 10 (min (fieldAt w.body 8 4) 60000)
    exec (.setClock w) s = .next (State.reply
      { s.requestTaken with clock := { s.clock with set := true, base := time, setAt := s.now, skew := skew } } 0x01#8 w
      (if time = fieldAt w.body 0 8 ∧ skew = fieldAt w.body 8 4 then .ok else .clamped)
      (beBytes 8 time ++ beBytes 8 s.clock.l ++ beBytes 2 s.clock.c ++ beBytes 2 0 ++ beBytes 4 skew))

/-- The site clock's reading (R34), the issue of a stamp by Table 2-3 with its borrow ahead (R40, R41), and SET_SITE
(R37). -/
def Obligations.StampIssueAndSetSite : Prop :=
  (∀ s : State, s.siteClock =
    if s.clock.set then min 4398046511103 (s.clock.base + (s.now - s.clock.setAt) / 1000000) else 0)
  ∧ (∀ (s : State) (site : Nat), s.clock.l < s.siteClock →
    s.issue site = some (packStamp s.siteClock 0 site, { s with clock := { s.clock with l := s.siteClock, c := 0 } }))
  ∧ (∀ (s : State) (site : Nat), s.siteClock ≤ s.clock.l → s.clock.c < 65535 →
    s.issue site = some (packStamp s.clock.l (s.clock.c + 1) site, { s with clock := { s.clock with c := s.clock.c + 1 } }))
  ∧ (∀ (s : State) (site : Nat), s.siteClock ≤ s.clock.l → s.clock.c = 65535 → s.clock.l < 4398046511103 →
    s.issue site = some (packStamp (s.clock.l + 1) 0 site, { s with
      clock := { s.clock with l := s.clock.l + 1, c := 0 }
      sli := Sli.latch { s.sli with stats := { s.sli.stats with borrowAheads := s.sli.stats.borrowAheads + 1 } } .clockAhead }))
  ∧ (∀ (s : State) (site : Nat), s.siteClock ≤ s.clock.l → s.clock.c = 65535 → s.clock.l = 4398046511103 →
    s.issue site = none)
  ∧ ∀ (w : Wire) (s : State), Intact s w 4 →
    let site := fieldAt w.body 0 1
    (63 < site → exec (.setSite w) s = .next (s.requestTaken.reply 0x02#8 w .badArgument (List.replicate 16 0#8)))
    ∧ (site ≤ 63 → s.clock.site ≠ none →
      exec (.setSite w) s = .next (s.requestTaken.reply 0x02#8 w .wrongState (List.replicate 16 0#8)))
    ∧ (site ≤ 63 → s.clock.site = none → s.clock.set = false →
      exec (.setSite w) s = .next (s.requestTaken.reply 0x02#8 w .notReady (List.replicate 16 0#8)))
    ∧ (site ≤ 63 → s.clock.site = none → s.clock.set = true → s.requestTaken.issue site = none →
      exec (.setSite w) s = .next (s.requestTaken.reply 0x02#8 w .clockExhausted (List.replicate 16 0#8)))
    ∧ ∀ x s1, site ≤ 63 → s.clock.site = none → s.clock.set = true → s.requestTaken.issue site = some (x, s1) →
      exec (.setSite w) s = .next (State.reply
        { s1 with clock := { s1.clock with site := some site, incarnation := some x } } 0x02#8 w .ok
        (beBytes 1 site ++ List.replicate 7 0#8 ++ beBytes 8 x.toNat))

/-- The merge of a received stamp: the skew clamp (R42), Table 2-4 and the borrow ahead (R43, R41). -/
def Obligations.MergeFollowsTable : Prop :=
  ∀ (s : State) (x : Stamp),
    let pt := s.siteClock
    let clamp := pt + s.clock.skew < x.toNat / 2 ^ 22
    let lm := if clamp then pt + s.clock.skew else x.toNat / 2 ^ 22
    let cm := if clamp then 0 else x.toNat / 2 ^ 6 % 2 ^ 16
    let nl := max (max s.clock.l lm) pt
    let nc := if nl = s.clock.l ∧ nl = lm then max s.clock.c cm + 1
      else if nl = s.clock.l then s.clock.c + 1
      else if nl = lm then cm + 1
      else 0
    let x1 : Sli := if clamp then
        Sli.latch { s.sli with stats := { s.sli.stats with skewClamps := s.sli.stats.skewClamps + 1 } } .skew
      else s.sli
    (nc < 65536 → s.merge x = { s with clock := { s.clock with l := nl, c := nc }, sli := x1 })
    ∧ (65536 ≤ nc → nl < 4398046511103 → s.merge x = { s with
      clock := { s.clock with l := nl + 1, c := 0 }
      sli := Sli.latch { x1 with stats := { x1.stats with borrowAheads := x1.stats.borrowAheads + 1 } } .clockAhead })
    ∧ (65536 ≤ nc → 4398046511103 ≤ nl → s.merge x = { s with
      clock := { s.clock with l := nl, c := 65535 }, sli := x1 })

/-- Every step keeps the ranges of the Stamp Clock's registers (R34, R36, R37, R39). -/
def Obligations.ClockRangesKept : Prop := ∀ s t : State, ClockOk s.clock → step s = .next t → ClockOk t.clock

/-- Except at power-on reset no step lowers the pair of l and c: every stamp issued is greater than those before it
(R40). -/
def Obligations.ClockNeverGoesBack : Prop :=
  ∀ s t : State, ClockOk s.clock → s.pending.head? ≠ some .powerOnReset → step s = .next t → NotBelow s.clock t.clock

/-! ## The bucket table -/

/-- BUCKET_SET on an ABSENT bucket with state ACTIVE or PAUSED creates it (R3): the record it takes, the other buckets
and everything else but the link as before. The bucket's entries are those it had: an ABSENT bucket has none (R6). -/
def Obligations.BucketCreated : Prop :=
  ∀ (w : Wire) (s : State) (state : BucketState) (band : Band), Intact s w 8 →
    let b := fieldAt w.body 0 2
    let new := targetsOf (fieldAt w.body 3 1)
    b < 4096 → (fieldAt w.body 2 1 = 1 ∧ state = .active ∨ fieldAt w.body 2 1 = 2 ∧ state = .paused) →
    fieldAt w.body 4 1 = band.code → (∀ t, new.get t = true → (s.port t).config.peer ≠ none) → (s.bucket b).state = .absent →
    ∃ x : Table Bucket, ∃ e : Quad Nat,
      exec (.bucketSet w) s = .next (State.reply { s.requestTaken with buckets := x } 0x03#8 w .ok
        (beBytes 2 b ++ beBytes 1 state.code ++ beBytes 1 (targetBits new) ++ beBytes 1 band.code ++ beBytes 3 0
          ++ Trunk.all.flatMap fun t => beBytes 2 (e.get t)))
      ∧ x.get .reset b = ⟨state, new, band, 1, e, new, false⟩
      ∧ (∀ t, e.get t = if new.get t then ((s.bucket b).epochs.get t + 1) % 65536 else (s.bucket b).epochs.get t)
      ∧ ∀ b', b' ≠ b → x.get .reset b' = s.bucket b'

/-- BUCKET_SET refused, in the order of R2, without effect. -/
def Obligations.BucketSetRefused : Prop :=
  ∀ (w : Wire) (s : State), Intact s w 8 →
    let b := fieldAt w.body 0 2
    let new := targetsOf (fieldAt w.body 3 1)
    let first := 4095 < b ∨ fieldAt w.body 2 1 ∉ [1, 2, 3] ∨ 1 < fieldAt w.body 4 1
    let second := ∃ t, new.get t = true ∧ (s.port t).config.peer = none
    (first ∨ second → exec (.bucketSet w) s = .next (s.requestTaken.reply 0x03#8 w .badArgument (List.replicate 16 0#8)))
    ∧ (¬ first → ¬ second → (s.bucket b).state = .absent → fieldAt w.body 2 1 = 3 →
      exec (.bucketSet w) s = .next (s.requestTaken.reply 0x03#8 w .noBucket (List.replicate 16 0#8)))

/-- BUCKET_SET on a bucket that is not ABSENT (R4, R5, R7 to R9): its record, or the passage to ABSENT of a DRAINING one
without entries (R6); each added slot joins the unsealed entries, each removed slot leaves every entry, and an entry
left without a slot goes, with its slots, its pin and its map record's unsealed field (R29, R54, R55). The refill queue
follows (R72). The reply carries the bucket as it then stands. Ports, supervisors, clock and Apply Unit stay. -/
def Obligations.BucketRetargeted : Prop :=
  ∀ (w : Wire) (s : State) (state : BucketState) (band : Band), Intact s w 8 → EntriesOk s.journal.entries →
    let b := fieldAt w.body 0 2
    let new := targetsOf (fieldAt w.body 3 1)
    let old := (s.bucket b).targets
    b < 4096 → fieldAt w.body 2 1 = state.code → fieldAt w.body 4 1 = band.code →
    (∀ t, new.get t = true → (s.port t).config.peer ≠ none) → state ≠ .absent → (s.bucket b).state ≠ .absent →
    let slot := fun (e : JEntry) (t : Trunk) =>
      if old.get t && !new.get t then none
      else if new.get t && !old.get t && e.seq.isNone then some PeerState.queued
      else e.peers.get t
    let moved := fun (e : JEntry) => { e with peers := ⟨slot e .t0, slot e .t1, slot e .t2, slot e .t3⟩ }
    ∃ u, exec (.bucketSet w) s = .next u
      ∧ u.journal.entries = (s.journal.entries.map fun e => if e.bucket = b then moved e else e).filter (fun e => !e.noPending)
      ∧ (let left := s.journal.entries.filter fun e => e.bucket == b && (moved e).noPending
        u.map = mapAfter s.map left ∧ u.body = { bodyAfter s.body left with refillQueue := u.body.refillQueue }
        ∧ RefillCurrent u)
      ∧ (let r := u.bucket b
        u.sli = s.replied w 0x03#8 .ok (beBytes 2 b ++ beBytes 1 r.state.code ++ beBytes 1 (targetBits r.targets)
          ++ beBytes 1 r.band.code ++ beBytes 3 0 ++ Trunk.all.flatMap fun t => beBytes 2 (r.epochs.get t)))
      ∧ (let gone := state = .draining ∧ ∀ e ∈ u.journal.entries, e.bucket ≠ b
        let r := u.bucket b
        (gone → r.state = .absent ∧ r.targets = .all false ∧ r.band = .express ∧ r.rebase = .all false)
        ∧ (¬ gone → r.state = state ∧ r.targets = new ∧ r.band = band
          ∧ ∀ t, r.rebase.get t = (new.get t && (!old.get t || (s.bucket b).rebase.get t)
            || (!new.get t && !old.get t && (s.bucket b).rebase.get t)))
        ∧ r.nextSeq = (s.bucket b).nextSeq ∧ r.seqLimit = (s.bucket b).seqLimit
        ∧ ∀ t, r.epochs.get t =
          if new.get t && !old.get t then ((s.bucket b).epochs.get t + 1) % 65536 else (s.bucket b).epochs.get t)
      ∧ (∀ b', b' ≠ b → u.bucket b' = s.bucket b')
      ∧ u.now = s.now ∧ u.clock = s.clock ∧ u.journal.gens = s.journal.gens ∧ u.ports = s.ports ∧ u.sups = s.sups
      ∧ u.apply = s.apply

/-! ## SUBMIT -/

/-- A SUBMIT refused before the ordered checks, whole (R15). -/
def Obligations.SubmitBadArgument : Prop :=
  ∀ (w : Wire) (s : State), s.sli.asm.buf = [] → bodyCheck w.body = w.check → fitsSubmit w.body = true →
    (4095 < fieldAt w.body 0 2 ∨ fieldAt w.body 2 1 ∉ [1, 2, 3]
      ∨ (fieldAt w.body 2 1 = 2 ∨ fieldAt w.body 2 1 = 3) ∧ fieldAt w.body 4 4 ≠ 0) →
    exec (.submit w) s = .next (s.requestTaken.reply 0x05#8 w .badArgument (List.replicate 20 0#8))

/-- A SUBMIT that passes R15 is refused by the first check of Table 1-5 that fails, and its reply names no handle; it
changes nothing, but that a step 6 refusal latches MAP-BLOCKED (R16). -/
def Obligations.SubmitChecksInOrder : Prop :=
  ∀ (w : Wire) (s : State), s.sli.asm.buf = [] → bodyCheck w.body = w.check → fitsSubmit w.body = true →
    let q := parseSubmit w.body
    let r := s.bucket q.bucket
    let e := s.unsealedOf q.bucket q.digest
    let held := match e.bind fun x => x.fill with
      | some f => f.slots
      | none => 0
    q.bucket < 4096 → q.kind ∈ [1, 2, 3] → (q.kind ≠ 1 → q.length = 0) →
    let refusals : List (Prop × Result) := [
      (s.clock.set = false ∨ s.clock.site = none, .notReady),
      (r.state = .absent, .noBucket),
      (r.state = .draining, .draining),
      (q.kind = 1 ∧ 268435456 < q.length, .tooLarge),
      (¬ (q.patches.map fun p => p.field).Nodup ∨ (∃ p ∈ q.patches, 31 < p.field ∨ 48 < p.value.length)
        ∨ 32 < q.patches.length ∨ q.kind = 3 ∧ q.patches ≠ [], .badPatch),
      (q.kind = 2 ∧ e.map (fun x => x.change) = some .drop, .dropped),
      (s.findObj q.bucket q.digest = none ∧ 65536 ≤ s.map.length ∧ ∀ x ∈ s.map, x.pins ≠ 0, .mapFull),
      (e = none ∧ (∃ t, r.targets.get t = true) ∧ 65536 ≤ s.journal.entries.length, .full),
      (q.kind = 1 ∧ 0 < q.length ∧ (e ≠ none ∨ ∃ t, r.targets.get t = true)
        ∧ 589824 < s.body.outUse - held + (q.length + 8127) / 8128, .bodyFull)]
    (∀ i, i < 9 → (∀ j, j < i → ¬ (refusals.getD j (False, .ok)).1) → (refusals.getD i (False, .ok)).1 →
      exec (.submit w) s = .next (State.reply (if i = 6 then s.requestTaken.latch .mapBlocked else s.requestTaken)
        0x05#8 w (refusals.getD i (False, .ok)).2 (List.replicate 20 0#8)))
    ∧ ((∀ x ∈ refusals, ¬ x.1) → s.requestTaken.issue (s.clock.site.getD 0) = none →
      exec (.submit w) s = .next (s.requestTaken.reply 0x05#8 w .clockExhausted (List.replicate 20 0#8)))

/-- An accepted SUBMIT for an object without an unsealed entry: with targets a new entry at the tail (R17, R20), without
targets none (R21). In both cases the object's record is found or inserted, and stamped (R49 to R51, R53, R56); the slots
reserved may start the parking (R64, R69). -/
def Obligations.SubmitAppends : Prop :=
  ∀ (w : Wire) (s s1 : State) (stamp : Stamp), s.sli.asm.buf = [] → bodyCheck w.body = w.check → fitsSubmit w.body = true →
    let q := parseSubmit w.body
    let r := s.bucket q.bucket
    let slots := (q.change.length + 8127) / 8128
    s.requestTaken.submitRefusal q = none → s.requestTaken.issue (s.clock.site.getD 0) = some (stamp, s1) →
    s.unsealedOf q.bucket q.digest = none →
    ((∃ t, r.targets.get t = true) → ∃ i g u,
      exec (.submit w) s = .next u
      ∧ (∀ e ∈ s.journal.entries, e.index ≠ i) ∧ (∀ j, j < i → ∃ e ∈ s.journal.entries, e.index = j)
      ∧ g = (if s.journal.gens.get 0 i = 65535 then 1 else s.journal.gens.get 0 i + 1)
      ∧ u.journal.entries = s.journal.entries ++ [{
        index := i
        gen := g
        bucket := q.bucket
        digest := q.digest
        stamp := stamp
        change := q.change
        bodyState := if q.change.length = 0 then .ready else .filling
        seq := none
        peers := r.targets.map fun x => if x then some .queued else none
        fill := if q.change.length = 0 then none else some ⟨slots, [], photoStart⟩
        framesOut := 0
        refillTag := none }]
      ∧ u.journal.gens.get 0 i = g ∧ (∀ j, j ≠ i → u.journal.gens.get 0 j = s.journal.gens.get 0 j)
      ∧ u.findObj q.bucket q.digest = some ⟨q.bucket, q.digest, some stamp, q.kind == 3, some ⟨i, g⟩,
        ((s.findObj q.bucket q.digest).map fun x => x.pins).getD 0 + 1⟩
      ∧ u.body.outUse = s.body.outUse + slots
      ∧ u.body.reservation = (if q.change.length = 0 then s.body.reservation else s.body.reservation ++ [i])
      ∧ u.body.inUse = s.body.inUse ∧ u.now = s.now ∧ u.clock = s1.clock ∧ u.buckets = s.buckets ∧ u.ports = s.ports
      ∧ u.sups = s.sups ∧ u.apply = s.apply ∧ u.body.refillQueue = s.body.refillQueue
      ∧ MapTook s.map q.bucket q.digest (fun x => { x with
        stamp := some stamp, tombstone := q.kind == 3, unsealed := some ⟨i, g⟩, pins := x.pins + 1 }) u.map
      ∧ (let starts := s.body.parkOn = false ∧ q.change.length ≠ 0 ∧ 524288 ≤ s.body.outUse + slots
        let x : Sli := if starts then s1.sli.latch .parking else s1.sli
        (u.body.parkOn = true ↔ s.body.parkOn = true ∨ starts)
        ∧ u.sli = { x with stats := { x.stats with submits := x.stats.submits + 1 }, replies := u.sli.replies })
      ∧ u.sli.stats.submits = s.sli.stats.submits + 1
      ∧ u.sli.replies = s.requestTaken.sli.replies ++ [⟨0x05#8, false, true, w.tag.toNat, .ok,
        beBytes 4 (i * 65536 + g) ++ beBytes 4 0 ++ beBytes 8 stamp.toNat ++ beBytes 1 4 ++ beBytes 3 0⟩])
    ∧ ((∀ t, r.targets.get t = false) → ∃ u,
      exec (.submit w) s = .next u
      ∧ u.journal = s.journal ∧ u.body = s.body
      ∧ u.findObj q.bucket q.digest = some ⟨q.bucket, q.digest, some stamp, q.kind == 3,
        (s.findObj q.bucket q.digest).bind fun x => x.unsealed,
        ((s.findObj q.bucket q.digest).map fun x => x.pins).getD 0⟩
      ∧ MapTook s.map q.bucket q.digest (fun x => { x with stamp := some stamp, tombstone := q.kind == 3 }) u.map
      ∧ u.now = s.now ∧ u.clock = s1.clock ∧ u.buckets = s.buckets ∧ u.ports = s.ports ∧ u.sups = s.sups
      ∧ u.apply = s.apply
      ∧ u.sli = { s1.sli with stats := { s1.sli.stats with submits := s1.sli.stats.submits + 1 }, replies := u.sli.replies }
      ∧ u.sli.stats.submits = s.sli.stats.submits + 1
      ∧ u.sli.replies = s.requestTaken.sli.replies ++ [⟨0x05#8, false, true, w.tag.toNat, .ok,
        beBytes 4 0 ++ beBytes 4 0 ++ beBytes 8 stamp.toNat ++ beBytes 1 6 ++ beBytes 3 0⟩])

/-- An accepted SUBMIT for an object with an unsealed entry: a PATCH is merged into it (R19), a BODY or a DROP
supersedes it under a new handle (R18); the entry keeps its place, its seal and its pending set. The object's record is
touched and stamped (R53, R56), and names the new handle; slots released and reserved may stop and start the parking
(R64, R65, R69). -/
def Obligations.SubmitSupersedesOrMerges : Prop :=
  (∀ (n : Nat) (check ref : BitVec 64) (old new : List PatchWrite),
    (Change.body n check ref old).merged new = .body n check ref (mergePatches old new)
    ∧ (Change.patch old).merged new = .patch (mergePatches old new)
    ∧ Change.drop.merged new = .drop ∧ Change.void.merged new = .void)
  ∧ (∀ (old new : List PatchWrite), (new.map fun p => p.field).Nodup →
    (mergePatches old new).map (fun p => p.field) = old.map (fun p => p.field)
      ++ (new.map fun p => p.field).filter (fun n => !(old.map fun p => p.field).contains n)
    ∧ ((old.map fun p => p.field).Nodup → ((mergePatches old new).map fun p => p.field).Nodup)
    ∧ (∀ p ∈ new, (mergePatches old new).find? (fun x => x.field == p.field) = some p)
    ∧ ∀ n, (∀ p ∈ new, p.field ≠ n) →
      (mergePatches old new).find? (fun x => x.field == n) = old.find? (fun x => x.field == n))
  ∧ ∀ (w : Wire) (s s1 : State) (stamp : Stamp) (e : JEntry), s.sli.asm.buf = [] → bodyCheck w.body = w.check → fitsSubmit w.body = true →
    let q := parseSubmit w.body
    let slots := (q.change.length + 8127) / 8128
    s.requestTaken.submitRefusal q = none → s.requestTaken.issue (s.clock.site.getD 0) = some (stamp, s1) →
    s.unsealedOf q.bucket q.digest = some e → e.bucket = q.bucket → e.digest = q.digest →
    (q.kind = 2 → ∃ u,
      exec (.submit w) s = .next u
      ∧ u.journal.entries = (s.journal.entries.map fun x =>
        if x.index = e.index then { e with stamp := stamp, change := e.change.merged q.patches } else x)
      ∧ u.journal.gens = s.journal.gens ∧ u.body = s.body ∧ u.now = s.now ∧ u.clock = s1.clock ∧ u.buckets = s.buckets
      ∧ u.ports = s.ports ∧ u.sups = s.sups ∧ u.apply = s.apply
      ∧ u.map = mapTouched s.map q.bucket q.digest (fun x => { x with stamp := some stamp, tombstone := false })
      ∧ u.sli = { s1.sli with stats := u.sli.stats, replies := u.sli.replies }
      ∧ u.sli.stats = { s1.sli.stats with submits := s1.sli.stats.submits + 1, merges := s1.sli.stats.merges + 1 }
      ∧ u.sli.stats.submits = s.sli.stats.submits + 1 ∧ u.sli.stats.merges = s.sli.stats.merges + 1
      ∧ u.sli.replies = s.requestTaken.sli.replies ++ [⟨0x05#8, false, true, w.tag.toNat, .ok,
        beBytes 4 e.handle.value ++ beBytes 4 0 ++ beBytes 8 stamp.toNat ++ beBytes 1 5 ++ beBytes 3 0⟩])
    ∧ (q.kind ≠ 2 → ∃ u,
      let g := if e.gen = 65535 then 1 else e.gen + 1
      exec (.submit w) s = .next u
      ∧ u.journal.entries = (s.journal.entries.map fun x => if x.index = e.index then { e with
          gen := g
          stamp := stamp
          change := q.change
          bodyState := if q.change.length = 0 then .ready else .filling
          fill := if q.change.length = 0 then none else some ⟨slots, [], photoStart⟩
          refillTag := none } else x)
      ∧ u.journal.gens.get 0 e.index = g ∧ (∀ j, j ≠ e.index → u.journal.gens.get 0 j = s.journal.gens.get 0 j)
      ∧ u.body.outUse = s.body.outUse - e.slotsHeld + slots ∧ u.body.inUse = s.body.inUse
      ∧ (u.findObj q.bucket q.digest).bind (fun x => x.unsealed) = some ⟨e.index, g⟩
      ∧ u.now = s.now ∧ u.clock = s1.clock ∧ u.buckets = s.buckets ∧ u.ports = s.ports ∧ u.sups = s.sups
      ∧ u.apply = s.apply
      ∧ u.map = mapTouched s.map q.bucket q.digest (fun x => { x with
        stamp := some stamp, tombstone := q.kind == 3, unsealed := some ⟨e.index, g⟩ })
      ∧ u.body.reservation =
        (if e.fill.isSome = true then s.body.reservation.filter (fun j => j != e.index) else s.body.reservation)
          ++ (if q.change.length = 0 then [] else [e.index])
      ∧ RefillCurrent u
      ∧ (let stays := s.body.parkOn = true ∧ ¬ (e.fill.isSome = true ∧ s.body.outUse - e.slotsHeld ≤ 458752)
        let starts := ¬ stays ∧ q.change.length ≠ 0 ∧ 524288 ≤ u.body.outUse
        let x : Sli := if starts then s1.sli.latch .parking else s1.sli
        (u.body.parkOn = true ↔ stays ∨ starts)
        ∧ u.sli = { x with stats := u.sli.stats, replies := u.sli.replies })
      ∧ u.sli.stats = { s1.sli.stats with
        submits := s1.sli.stats.submits + 1, supersedes := s1.sli.stats.supersedes + 1 }
      ∧ u.sli.stats.submits = s.sli.stats.submits + 1 ∧ u.sli.stats.supersedes = s.sli.stats.supersedes + 1
      ∧ u.sli.replies = s.requestTaken.sli.replies ++ [⟨0x05#8, false, true, w.tag.toNat, .ok,
        beBytes 4 (e.index * 65536 + g) ++ beBytes 4 e.handle.value ++ beBytes 8 stamp.toNat ++ beBytes 1 4 ++ beBytes 3 0⟩])

/-! ## The Body Store -/

/-- CHUNK refused, whole (R66, Table 4-2): the steps in order, no change of state, and the bytes received in the reply.
-/
def Obligations.ChunkRefused : Prop :=
  ∀ (w : Wire) (s : State), s.sli.asm.buf = [] → bodyCheck w.body = w.check → 8 ≤ w.body.length → w.body.length ≤ 65520 →
    let v := fieldAt w.body 0 4
    let h := Handle.ofValue v
    let offset := fieldAt w.body 4 4
    (s.entryAt h = none →
      exec (.chunk w) s = .next (s.requestTaken.reply 0x06#8 w .noEntry (beBytes 4 v ++ List.replicate 16 0#8)))
    ∧ ∀ e, s.entryAt h = some e →
      let received := match e.fill with
        | some f => f.bytes.length
        | none => 0
      let body := beBytes 4 v ++ beBytes 4 received ++ beBytes 1 e.bodyState.code ++ List.replicate 11 0#8
      (e.bodyState ≠ .filling → e.bodyState ≠ .refilling →
        exec (.chunk w) s = .next (s.requestTaken.reply 0x06#8 w .noEntry body))
      ∧ (e.bodyState = .filling ∨ e.bodyState = .refilling → e.fill.isSome = true → offset ≠ received →
        exec (.chunk w) s = .next (s.requestTaken.reply 0x06#8 w .outOfOrder body))
      ∧ (e.bodyState = .filling ∨ e.bodyState = .refilling → e.fill.isSome = true → offset = received →
        e.change.length < offset + (w.body.length - 8) →
        exec (.chunk w) s = .next (s.requestTaken.reply 0x06#8 w .badArgument body))

/-- CHUNK accepted (R67) and the completion of a fill (R68): with equal checks the entry is READY; else a first fill's
entry is withdrawn, a refill's unsealed entry is lost, and a refill's sealed entry becomes VOID; an entry that leaves
gives up its pin and its map record's unsealed field (R29, R54, R55), its slots go and may end the parking (R65, R69),
and the refill queue follows (R72). The replies by Table 10-5. -/
def Obligations.ChunkFillsAndCompletes : Prop :=
  ∀ (w : Wire) (s : State) (e : JEntry) (f : Fill), s.sli.asm.buf = [] → bodyCheck w.body = w.check →
    8 ≤ w.body.length → w.body.length ≤ 65520 →
    s.entryAt (Handle.ofValue (fieldAt w.body 0 4)) = some e → e.fill = some f → fieldAt w.body 4 4 = f.bytes.length →
    e.bodyState = .filling ∨ e.bodyState = .refilling →
    let data := w.body.drop 8
    let crc := photoFold f.crc data
    let full := e.change.length = f.bytes.length + data.length
    let put := fun (x : JEntry) => s.journal.entries.map fun y => if y.index = e.index then x else y
    let rest := s.journal.entries.filter fun y => y.index != e.index
    let body := fun (received state : Nat) (check : BitVec 64) =>
      beBytes 4 (fieldAt w.body 0 4) ++ beBytes 4 received ++ beBytes 1 state ++ beBytes 3 0 ++ beBytes 8 check.toNat
    let failed := fun (u : State) (state : Nat) (stats : PartStats) =>
      u.body = { bodyAfter s.body [e] with refillQueue := u.body.refillQueue } ∧ RefillCurrent u
      ∧ u.sli = { s.replied w 0x06#8 .badCheck (body 0 state (photoFinish crc)) with stats := stats }
      ∧ u.journal.gens = s.journal.gens ∧ u.ports = s.ports ∧ u.sups = s.sups ∧ u.apply = s.apply ∧ u.clock = s.clock
      ∧ u.now = s.now
    (f.bytes.length + data.length < e.change.length →
      exec (.chunk w) s = .next (State.reply { s.requestTaken with journal := { s.journal with
        entries := put { e with fill := some ⟨f.slots, f.bytes ++ data, crc⟩ } } } 0x06#8 w .ok
        (body (f.bytes.length + data.length) e.bodyState.code 0)))
    ∧ (full → photoFinish crc = e.change.check →
      exec (.chunk w) s = .next (State.reply { s.requestTaken with journal := { s.journal with
        entries := put { e with
          fill := some ⟨f.slots, f.bytes ++ data, crc⟩, bodyState := .ready, refillTag := none } } } 0x06#8 w .ok
        (body (f.bytes.length + data.length) 2 0)))
    ∧ (full → photoFinish crc ≠ e.change.check → e.bodyState = .filling → ∃ u,
      exec (.chunk w) s = .next u ∧ u.journal.entries = rest ∧ u.body.outUse = s.body.outUse - f.slots
      ∧ u.map = mapAfter s.map [e] ∧ Drained s u e.bucket ∧ failed u 0 s.sli.stats)
    ∧ (full → photoFinish crc ≠ e.change.check → e.bodyState = .refilling → e.seq = none → ∃ u,
      exec (.chunk w) s = .next u ∧ u.journal.entries = rest ∧ u.body.outUse = s.body.outUse - f.slots
      ∧ u.map = mapAfter s.map [e] ∧ Drained s u e.bucket
      ∧ failed u 0 { s.sli.stats with lostBodies := s.sli.stats.lostBodies + 1 })
    ∧ (full → photoFinish crc ≠ e.change.check → e.bodyState = .refilling → e.seq.isSome = true → ∃ u,
      exec (.chunk w) s = .next u
      ∧ u.journal.entries = put { e with change := .void, bodyState := .ready, fill := none, refillTag := none }
      ∧ u.body.outUse = s.body.outUse - f.slots ∧ u.map = s.map ∧ u.buckets = s.buckets
      ∧ failed u 2 { s.sli.stats with voids := s.sli.stats.voids + 1 })

/-- BODY_WANTED_SEND asks for the head of the refill queue when a record of the refill table is free and its slots fit
(R73); PARK_ENTRY parks the candidate nearest the head of the reservation list while parking is in force (R70, R71).
Where the cause is absent nothing happens (log 3). The slots reserved may start the parking (R69). The refill queue: it
holds the entries that are due, those due before in their order and ahead of those that join (R72; their order among
themselves is free: log 12). -/
def Obligations.BodyStoreRequests : Prop :=
  (∀ (s : State) (i : Nat) (rest : List Nat) (e : JEntry), s.body.refillQueue = i :: rest → s.entryOf i = some e →
    let slots := (e.change.length + 8127) / 8128
    (s.body.refillTable.length < 64 → s.body.outUse + slots ≤ 589824 → ∃ u tag,
      exec .bodyWantedSend s = .next u
      ∧ 257 ≤ tag ∧ (∀ x ∈ s.body.refillTable, x.1 ≠ tag)
      ∧ (∀ n, 257 ≤ n → n < tag → ∃ x ∈ s.body.refillTable, x.1 = n)
      ∧ u.journal.entries = (s.journal.entries.map fun x => if x.index = e.index then { e with
        bodyState := .refilling
        refillTag := some tag
        fill := if e.change.length = 0 then e.fill else some ⟨slots, [], photoStart⟩ } else x)
      ∧ u.body.refillTable = s.body.refillTable ++ [(tag, ⟨e.index, e.gen⟩)]
      ∧ u.body.outUse = s.body.outUse + slots ∧ u.body.inUse = s.body.inUse
      ∧ u.sli.partQueue = s.sli.partQueue ++ [⟨0x41#8, true, false, tag, .ok,
        beBytes 4 (e.index * 65536 + e.gen) ++ beBytes 4 e.change.length ++ beBytes 8 e.change.ref.toNat
          ++ beBytes 8 e.change.check.toNat⟩]
      ∧ u.sli.stats = { s.sli.stats with refills := s.sli.stats.refills + 1 }
      ∧ u.body.reservation = (if e.change.length = 0 then s.body.reservation else s.body.reservation ++ [e.index])
      ∧ RefillCurrent u
      ∧ (let starts := s.body.parkOn = false ∧ e.change.length ≠ 0 ∧ 524288 ≤ s.body.outUse + slots
        let x : Sli := if starts then s.sli.latch .parking else s.sli
        (u.body.parkOn = true ↔ s.body.parkOn = true ∨ starts)
        ∧ u.sli = { x with stats := u.sli.stats, partQueue := u.sli.partQueue })
      ∧ u.sli.replies = s.sli.replies ∧ u.clock = s.clock ∧ u.buckets = s.buckets ∧ u.map = s.map ∧ u.ports = s.ports
      ∧ u.sups = s.sups ∧ u.apply = s.apply)
    ∧ (64 ≤ s.body.refillTable.length ∨ 589824 < s.body.outUse + slots → exec .bodyWantedSend s = .next s))
  ∧ (∀ s : State, s.body.refillQueue = [] → exec .bodyWantedSend s = .next s)
  ∧ (∀ s : State, RefillCurrent s.refillRefresh ∧ ∃ joining n,
    s.refillRefresh = { s with
      body := { s.body with refillQueue := (s.body.refillQueue.filter fun i =>
        s.journal.entries.any fun e => e.index == i && dueForRefill s e) ++ joining }
      freeCount := n }
    ∧ ∀ i ∈ joining, i ∉ s.body.refillQueue)
  ∧ (let candidate := fun (s : State) (e : JEntry) =>
      e.bodyState = .ready ∧ e.framesOut = 0
        ∧ ∀ t, e.peers.get t = none ∨ (s.port t).state ≠ .running ∧ (s.port t).state ≠ .resync
    (∀ (s : State) (xs ys : List Nat) (i : Nat) (e : JEntry) (f : Fill), s.body.parkOn = true →
      s.body.reservation = xs ++ i :: ys → (∀ j ∈ xs, ∀ x, s.entryOf j = some x → ¬ candidate s x) →
      s.entryOf i = some e → candidate s e → e.fill = some f →
      exec .parkEntry s = .next { s with
        journal := { s.journal with entries := s.journal.entries.map fun x =>
          if x.index = e.index then { e with fill := none, bodyState := .parked } else x }
        body := { s.body with
          outUse := s.body.outUse - f.slots
          reservation := s.body.reservation.filter fun j => j != e.index
          parkOn := decide (458752 < s.body.outUse - f.slots) }
        sli := { s.sli with stats := { s.sli.stats with parks := s.sli.stats.parks + 1 } } })
    ∧ ∀ s : State, (s.body.parkOn = false ∨ ∀ i ∈ s.body.reservation, ∀ x, s.entryOf i = some x → ¬ candidate s x) →
      exec .parkEntry s = .next s)

/-- BODY_WANTED_REPLY to an outstanding tag, where the assembler holds no bytes (log 27) (R74 to R76, R182): the tag and
its refill record go in every case; after any result but OK an entry still refilling by that tag is lost while unsealed,
with its pin and its map record's unsealed field (R29, R54, R55), and becomes VOID once sealed; its slots go and may end
the parking (R65, R69). -/
def Obligations.BodyWantedAnswered : Prop :=
  ∀ (result : BitVec 16) (w : Wire) (s : State) (h : Handle), s.sli.asm.buf = [] → bodyCheck w.body = w.check →
    s.sli.tags.lookup w.tag.toNat = some .bodyWanted → s.body.refillTable.lookup w.tag.toNat = some h →
    let s1 : State := { s with
      body := { s.body with refillTable := s.body.refillTable.filter fun x => x.1 != w.tag.toNat }
      sli := { s.recordTaken.sli with tags := s.sli.tags.filter fun x => x.1 != w.tag.toNat } }
    (result = 0#16 → exec (.bodyWantedReply 0x41#8 result w) s = .next s1)
    ∧ ((∀ e, s.entryAt h = some e → ¬ (e.bodyState = .refilling ∧ e.refillTag = some w.tag.toNat)) →
      exec (.bodyWantedReply 0x41#8 result w) s = .next s1)
    ∧ ∀ e, result ≠ 0#16 → s.entryAt h = some e → e.bodyState = .refilling → e.refillTag = some w.tag.toNat →
      (e.seq = none → ∃ u, exec (.bodyWantedReply 0x41#8 result w) s = .next u
        ∧ u.body.refillTable = s1.body.refillTable
        ∧ u.journal.entries = s.journal.entries.filter (fun x => x.index != e.index)
        ∧ u.body = { bodyAfter s1.body [e] with refillQueue := u.body.refillQueue }
        ∧ u.map = mapAfter s.map [e] ∧ RefillCurrent u ∧ Drained s u e.bucket ∧ u.journal.gens = s.journal.gens
        ∧ u.sli = { s1.sli with stats := { s.sli.stats with lostBodies := s.sli.stats.lostBodies + 1 } }
        ∧ u.ports = s.ports ∧ u.sups = s.sups ∧ u.apply = s.apply ∧ u.clock = s.clock)
      ∧ (e.seq.isSome = true → ∃ u, exec (.bodyWantedReply 0x41#8 result w) s = .next u
        ∧ u.body.refillTable = s1.body.refillTable
        ∧ u.journal.entries = (s.journal.entries.map fun x => if x.index = e.index then
          { e with change := .void, bodyState := .ready, fill := none, refillTag := none } else x)
        ∧ u.body = { bodyAfter s1.body [e] with refillQueue := u.body.refillQueue } ∧ RefillCurrent u
        ∧ u.journal.gens = s.journal.gens
        ∧ u.sli = { s1.sli with stats := { s.sli.stats with voids := s.sli.stats.voids + 1 } }
        ∧ u.buckets = s.buckets ∧ u.map = s.map ∧ u.ports = s.ports ∧ u.sups = s.sups ∧ u.apply = s.apply
        ∧ u.clock = s.clock)

/-! ## Requests about a trunk -/

/-- TRUNK_SET: the checks of R85 in order, and the port it leaves: fields clamped, the staged ones in force at once in OFF
and TEST; a policy change may clear UNIDENTIFIED (R166). A changed peer site id is followed by the peer change (R86). In
both forms the reply carries the same 68 bytes: whether values are staged, the block in force, the block staged (zeros
when none is; the fields that are not staged at their values in force: log 13), and the window and RTO to come. -/
def Obligations.TrunkSetRequest : Prop :=
  (∀ (w : Wire) (s : State), Intact s w 28 → 3 < fieldAt w.body 0 1 →
    exec (.trunkSet w) s = .next (s.requestTaken.reply 0x07#8 w .badArgument (List.replicate 68 0#8)))
  ∧ ∀ (w : Wire) (s : State) (t : Trunk), Intact s w 28 → fieldAt w.body 0 1 = t.index →
    let q := parseConfig w.body
    let p := s.port t
    let peer := if q.peer = 255 then none else some q.peer
    let k := max 8 (min 32 q.k)
    let paced : Paced := ⟨max 1000 (min 100000 q.lineRate), max 1 (min 16 q.divider), max 1000 (min 1000000 q.rtt),
      ⟨q.xs, q.xe, q.bs, q.be, q.bulk⟩, q.echo, q.m, max 1 (min 15 q.n)⟩
    let first := (63 < q.peer ∧ q.peer ≠ 255) ∨ q.m ∉ [1, 2, 4, 8]
      ∨ q.probePeriod ∉ [10, 25, 50, 100, 250, 500, 1000, 2500]
    let second := p.state ≠ .off ∧ (p.config.peer ≠ peer ∨ p.config.k ≠ k)
    let third := ¬ (q.xs ≤ q.xe ∧ q.xe + 3 ≤ k ∧ (q.bulk = true → q.xe < q.bs ∧ q.bs ≤ q.be ∧ q.be + 3 ≤ k))
    let unpaced := p.state = .off ∨ p.state = .test
    let c : TrunkConfig := ⟨peer, k, if unpaced then paced else p.config.paced, min 3 q.alignDelay,
      max 100 (min 60000 q.resyncTimeout), max 1 (min 600 q.stallTime), q.probePeriod, q.identify⟩
    let p1 : Port := { p with config := c, staged := if unpaced then none else some paced }
    let clears := p.config.identifyPolicy = false ∧ q.identify = true ∧ (s.sup t).unidentifiedNow = false
    let s1 : State := { s.requestTaken with
      ports := s.ports.set t p1
      sli := if clears then { s.requestTaken.sli with latches := s.sli.latches.putTrunk t .unidentified false }
        else s.requestTaken.sli }
    let period := (65536000 * paced.divider + paced.lineRate - 1) / paced.lineRate
    let raw := (paced.rtt * 1000 + period - 1) / period + k
    let same := q.k = k ∧ q.lineRate = paced.lineRate ∧ q.divider = paced.divider ∧ q.rtt = paced.rtt ∧ q.n = paced.echoN
      ∧ q.alignDelay = c.alignDelay ∧ q.resyncTimeout = c.resyncTimeout ∧ q.stallTime = c.stallTime
      ∧ 2 * k ≤ raw ∧ raw ≤ 32768
    let result : Result := if same then .ok else .clamped
    let body := beBytes 4 (if unpaced then 0 else 1) ++ configBlock t c
      ++ (if unpaced then List.replicate 28 0#8 else configBlock t { c with paced := paced })
      ++ beBytes 4 (min (max raw (2 * k)) 32768) ++ beBytes 4 ((paced.rtt * 5 + 3) / 4 + (2 * k * period + 999) / 1000)
    (first → exec (.trunkSet w) s = .next (s.requestTaken.reply 0x07#8 w .badArgument (List.replicate 68 0#8)))
    ∧ (¬ first → second → exec (.trunkSet w) s = .next (s.requestTaken.reply 0x07#8 w .wrongState (List.replicate 68 0#8)))
    ∧ (¬ first → ¬ second → third →
      exec (.trunkSet w) s = .next (s.requestTaken.reply 0x07#8 w .badPlan (List.replicate 68 0#8)))
    ∧ (¬ first → ¬ second → ¬ third → p.config.peer = peer →
      exec (.trunkSet w) s = .next (s1.reply 0x07#8 w result body))
    ∧ (¬ first → ¬ second → ¬ third → p.config.peer ≠ peer →
      exec (.trunkSet w) s = .next ((s1.peerChange t).reply 0x07#8 w result body))
    ∧ body.length = 68

/-- A peer change (R86, R31, R154): the slot leaves every target set and every entry, emptied entries go with their
slots, pins and map records' unsealed fields, the trunk's inbound records are at their reset values, their entries
discarded with slots, pins and backlog places, but for the entry of an APPLY in flight, which its apply slot keeps
(R151); the records leave the slot wait list, and what they had been handed is given up to the arbiter (R145). No epoch,
configuration, counter or clock changes. A bucket loses the target and owes it no rebase; a DRAINING one that is left
without entries is ABSENT, its targets empty, its band EXPRESS and no rebase owed (R6). -/
def Obligations.PeerChangeActs : Prop :=
  ∀ (s : State) (t : Trunk), EntriesOk s.journal.entries → Table.wf .reset s.buckets = true →
    Table.wf .reset s.apply.records = true →
    let u := s.peerChange t
    u.journal.entries = (s.journal.entries.map fun e => e.dropSlot t).filter (fun e => !e.noPending)
    ∧ (∀ b,
      let r := s.bucket b
      let v := { r with targets := r.targets.set t false, rebase := r.rebase.set t false }
      let drained := r.state = .draining ∧ ∀ e ∈ u.journal.entries, e.bucket ≠ b
      (drained → u.bucket b = { v with state := .absent, targets := .all false, band := .express, rebase := .all false })
      ∧ (¬ drained → u.bucket b = v))
    ∧ (∀ b, b < 4096 → u.inRec (t.index * 4096 + b) = InRec.reset)
    ∧ (∀ v b, v ≠ t → b < 4096 → u.inRec (v.index * 4096 + b) = s.inRec (v.index * 4096 + b))
    ∧ (let gone := s.journal.entries.filter fun e => (e.dropSlot t).noPending
      let discards := (s.apply.records.filter fun x => x.1 / 4096 == t.index).flatMap fun x =>
        x.2.reassembly.toList ++ (if x.2.inFlight.isSome then x.2.queue.drop 1 else x.2.queue)
      let a : ApplyUnit := { s.apply with
        slots := s.apply.slots.map fun x =>
          if x.trunk = t ∧ x.orphan = none then { x with
            orphan := ((s.inRec (t.index * 4096 + x.bucket)).queue.head?).map fun e => { e with current := false } }
          else x
        records := u.apply.records
        waitList := s.apply.waitList.filter fun k => k / 4096 != t.index
        backlog := s.apply.backlog - discards.length }
      u.apply = (State.returnSlots { s with apply := a } fun k => k / 4096 == t.index).apply
      ∧ u.body = { bodyAfter s.body gone with
        inUse := s.body.inUse - (discards.map fun e => e.slots).sum, refillQueue := u.body.refillQueue }
      ∧ u.map = mapReleased (mapAfter s.map gone) discards ∧ RefillCurrent u)
    ∧ u.ports = s.ports.set t { s.port t with recorded := none, peerHears := false }
    ∧ u.sups = s.sups ∧ u.clock = s.clock ∧ u.now = s.now ∧ u.sli = s.sli ∧ u.journal.gens = s.journal.gens

/-- TRUNK_ENABLE: the checks of R87 in order; an accepted one starts the cycle timer and puts the trunk in HUNT with its
staged fields in force and an empty tally, and nothing else changes. -/
def Obligations.TrunkEnabled : Prop :=
  (∀ (w : Wire) (s : State), Intact s w 4 → 3 < fieldAt w.body 0 1 →
    exec (.trunkEnable w) s = .next (s.requestTaken.reply 0x08#8 w .badArgument (List.replicate 4 0#8)))
  ∧ ∀ (w : Wire) (s : State) (t : Trunk), Intact s w 4 → fieldAt w.body 0 1 = t.index →
    let p := s.port t
    let ready := s.clock.set = true ∧ s.clock.site ≠ none
    (p.state ≠ .off → exec (.trunkEnable w) s = .next (s.requestTaken.reply 0x08#8 w .wrongState (List.replicate 4 0#8)))
    ∧ (p.state = .off → ¬ ready →
      exec (.trunkEnable w) s = .next (s.requestTaken.reply 0x08#8 w .notReady (List.replicate 4 0#8)))
    ∧ (p.state = .off → ready → p.config.peer = none →
      exec (.trunkEnable w) s = .next (s.requestTaken.reply 0x08#8 w .badArgument (List.replicate 4 0#8)))
    ∧ (p.state = .off → ready → p.config.peer ≠ none →
      exec (.trunkEnable w) s = .next (State.reply { s.requestTaken with
        ports := s.ports.set t { p with
          config := { p.config with paced := p.staged.getD p.config.paced }
          staged := none
          state := .hunt
          cycleAt := s.now
          frameAt := s.now
          position := 0
          cycleCounter := 0
          rxPos := 0
          cycleService := none }
        sups := s.sups.set t { s.sup t with tally := ⟨0, 0, false, false, false⟩ } } 0x08#8 w .ok
        (beBytes 1 t.index ++ [2#8, 0#8, 0#8])))

/-- TRUNK_RESTART, whole (R89), and TRUNK_DISABLE by its own checks (R88): each makes the trunk restart, into HUNT and
into OFF. -/
def Obligations.TrunkRestartAndDisable : Prop :=
  (∀ (w : Wire) (s : State), Intact s w 4 → 3 < fieldAt w.body 0 1 →
    exec (.trunkRestart w) s = .next (s.requestTaken.reply 0x0C#8 w .badArgument (List.replicate 4 0#8))
    ∧ exec (.trunkDisable w) s = .next (s.requestTaken.reply 0x09#8 w .badArgument (List.replicate 4 0#8)))
  ∧ ∀ (w : Wire) (s : State) (t : Trunk), Intact s w 4 → fieldAt w.body 0 1 = t.index →
    ((s.port t).state ∈ [.off, .test, .faulted] →
      exec (.trunkRestart w) s = .next (s.requestTaken.reply 0x0C#8 w .wrongState (List.replicate 4 0#8)))
    ∧ ((s.port t).state ∈ [.hunt, .align, .running, .resync, .down] → ∃ u,
      u = s.requestTaken.trunkRestart t .hunt none
      ∧ exec (.trunkRestart w) s = .next (u.reply 0x0C#8 w .ok (beBytes 1 t.index ++ [2#8, 0#8, 0#8]))
      ∧ (u.port t).state = .hunt ∧ (u.port t).lock = ⟨false, none, none, 0, 0, false⟩ ∧ (u.sup t).history = []
      ∧ (u.port t).stats = (s.port t).stats)
    ∧ ((s.port t).state = .off →
      exec (.trunkDisable w) s = .next (s.requestTaken.reply 0x09#8 w .wrongState (List.replicate 4 0#8)))
    ∧ ((s.port t).state ≠ .off →
      exec (.trunkDisable w) s = .next ((s.requestTaken.trunkRestart t .off none).reply 0x09#8 w .ok
        (beBytes 1 t.index ++ [0#8, 0#8, 0#8])))

/-- The trunk restart (R90, and R30, R70, R83, R111, R152, R176): what it clears in the port, the supervisor, the
journal and the inbound records, and what it keeps; each inbound entry being rebuilt gives up its slots, its pin and its
backlog place (R152), and the refill queue follows (R72). Nothing else changes. That the identification requests not yet
taken stay is log 7, that the moment the received-through last rose stays is log 35, and that nothing is left staged in
OFF is log 20. -/
def Obligations.TrunkRestartProcedure : Prop :=
  ∀ (s : State) (t : Trunk) (goal : TrunkState) (cause : Option Signature), Table.wf .reset s.apply.records = true →
    let u := s.trunkRestart t goal cause
    let p := s.port t
    u.port t = {
      state := goal
      config := { p.config with paced := p.staged.getD p.config.paced }
      staged := none
      cycleAt := s.now, frameAt := s.now, position := 0, cycleCounter := 0, rxPos := p.rxPos
      lock := ⟨false, none, none, 0, 0, false⟩
      filter := ⟨false, 0⟩
      lastCycle := 0, headCycles := 0, alignCycle := 0, alignDelay := p.alignDelay, runCycle := 0
      cycleService := none
      peerSeenRunning := false, peerHears := false, heard := false, prevHead := false
      probeEntry := s.now
      lastProbe := none
      recorded := p.recorded
      expressStart := 0, bulkStart := 0, nextFrame := 0
      store := []
      peerThrough := none
      peerThroughAt := p.peerThroughAt
      ackStart := p.ackStart
      reorder := []
      expectedFrame := 0
      test := p.test
      stats := p.stats
      line := p.line }
    ∧ u.sup t = { s.sup t with
      tally := ⟨0, 0, false, false, false⟩
      history := []
      runSignature := none
      runLength := 0
      latest := none
      faultCause := cause
      resync := none
      stall := none }
    ∧ (∀ v, v ≠ t → u.port v = s.port v ∧ u.sup v = s.sup v)
    ∧ u.journal.entries = (s.journal.entries.map fun e => { e with
      framesOut := e.framesOut - p.store.countP (fun f => f.handle = ⟨e.index, e.gen⟩)
      peers := e.peers.set t ((e.peers.get t).map fun _ => .queued) })
    ∧ (∀ b, b < 4096 →
      let r := s.inRec (t.index * 4096 + b)
      u.inRec (t.index * 4096 + b) = { r with reassembly := none, skip := none, ackOwed := r.ackOwed || r.epoch.isSome })
    ∧ (∀ v b, v ≠ t → b < 4096 → u.inRec (v.index * 4096 + b) = s.inRec (v.index * 4096 + b))
    ∧ u.apply = { s.apply with
      records := u.apply.records, backlog := s.apply.backlog - (s.reassembling t).length }
    ∧ u.body = { s.body with
      inUse := s.body.inUse - ((s.reassembling t).map fun e => e.slots).sum
      refillQueue := u.body.refillQueue }
    ∧ u.map = mapReleased s.map (s.reassembling t) ∧ RefillCurrent u
    ∧ (∃ joining, u.body.refillQueue = (s.body.refillQueue.filter fun i =>
        u.journal.entries.any fun e => e.index == i && dueForRefill u e) ++ joining
      ∧ ∀ i ∈ joining, i ∉ s.body.refillQueue)
    ∧ u.journal.gens = s.journal.gens
    ∧ u = { s with
      ports := u.ports, sups := u.sups, journal := u.journal, apply := u.apply, body := u.body, map := u.map
      freeCount := u.freeCount }

/-- TRUNK_TEST (R104), and the checker in TEST (R105, R92): a test frame is good exactly if its payload is the check
pattern's for its counter; a count stops at 4,294,967,295. A TEST frame in OFF is ignored, and in any other state but
TEST discarded: an arrival that is counted and goes by the lock, with a peer mark where the deframer takes it as the
peer's (Table 5-5, R82, R92, R160). That the first TEST frame is due at once is the
model's choice (log 45), and so is the BAD-ARGUMENT of a request whose pattern is bad and whose trunk is not in OFF
(log 48). -/
def Obligations.TestStartedAndJudged : Prop :=
  (∀ (w : Wire) (s : State), Intact s w 20 → (3 < fieldAt w.body 0 1 ∨ 5 < fieldAt w.body 1 1 ∨ 5 < fieldAt w.body 2 1) →
    exec (.trunkTest w) s = .next (s.requestTaken.reply 0x0A#8 w .badArgument (List.replicate 4 0#8)))
  ∧ (∀ (w : Wire) (s : State) (t : Trunk) (send check : Pattern), Intact s w 20 → fieldAt w.body 0 1 = t.index →
    Pattern.ofCode? (fieldAt w.body 1 1) = some send → Pattern.ofCode? (fieldAt w.body 2 1) = some check →
    ((s.port t).state ≠ .off →
      exec (.trunkTest w) s = .next (s.requestTaken.reply 0x0A#8 w .wrongState (List.replicate 4 0#8)))
    ∧ ((s.port t).state = .off →
      exec (.trunkTest w) s = .next (State.reply { s.requestTaken with ports := s.ports.set t { s.port t with
        config := { (s.port t).config with paced := (s.port t).staged.getD (s.port t).config.paced }
        staged := none
        state := .test
        frameAt := s.now
        test := ⟨send, check, BitVec.ofNat 64 (fieldAt w.body 4 8), BitVec.ofNat 64 (fieldAt w.body 12 8), 0, 0, 0⟩ } }
        0x0A#8 w .ok (beBytes 1 t.index ++ [1#8, 0#8, 0#8]))))
  ∧ (∀ (s : State) (t : Trunk) (counter : BitVec 32) (payload : List Byte),
    ((s.port t).state = .off → exec (.testFrameReceived t counter payload) s = .next s)
    ∧ ((s.port t).state ≠ .off → (s.port t).state ≠ .test → exec (.testFrameReceived t counter payload) s =
      .next ((s.arrivedWith t false false
        (decide ((s.port t).state ∈ [TrunkState.hunt, .align, .running, .resync]))).passedLock t)))
  ∧ ∀ (s : State) (t : Trunk) (counter : BitVec 32) (payload : List Byte), (s.port t).state = .test →
    let x := (s.port t).test
    let counted := fun (y : TestUnit) => { s with ports := s.ports.set t { s.port t with
      rxPos := (s.port t).rxPos + 1
      stats := { (s.port t).stats with framesReceived := (s.port t).stats.framesReceived + 1 }
      test := y } }
    let more := fun (n : Nat) => if n < 4294967295 then n + 1 else n
    (payload = patternPayload x.check x.custom1 x.custom2 counter.toNat →
      exec (.testFrameReceived t counter payload) s = .next (counted { x with good := more x.good }))
    ∧ (payload ≠ patternPayload x.check x.custom1 x.custom2 counter.toNat →
      exec (.testFrameReceived t counter payload) s = .next (counted { x with mismatched := more x.mismatched }))
    ∧ exec (.invalidFrameReceived t) s = .next (counted { x with mismatched := more x.mismatched })
    ∧ ∀ n, exec (.carryReceived t n payload) s = .next (counted x)

/-- TRUNK_CLEAR: the checks of R173 with the judgement of Table 8-4; a cause judged absent ends in a trunk restart into
HUNT (R174). A refusal changes nothing (its reply's trunk byte is 0: log 23). -/
def Obligations.TrunkCleared : Prop :=
  (∀ (w : Wire) (s : State), Intact s w 4 → 3 < fieldAt w.body 0 1 →
    exec (.trunkClear w) s = .next (s.requestTaken.reply 0x0B#8 w .badArgument (List.replicate 4 0#8)))
  ∧ ∀ (w : Wire) (s : State) (t : Trunk), Intact s w 4 → fieldAt w.body 0 1 = t.index →
    let x := s.sup t
    let absent := x.faultCause = some .looped ∧ x.history.length = 5 ∧ (∀ r ∈ x.history, r.looped = false)
      ∨ x.faultCause = some .foreign ∧ x.history.length = 5 ∧ (∀ r ∈ x.history, r.foreign = false)
      ∨ x.faultCause = some .stalled ∧ ∃ r ∈ x.history, r.peer = true
    let body := fun n => beBytes 1 n ++ beBytes 1 (s.port t).state.code ++ beBytes 1 (signatureCode x.faultCause)
      ++ beBytes 1 x.history.length
    ((s.port t).state ≠ .faulted → exec (.trunkClear w) s = .next (s.requestTaken.reply 0x0B#8 w .wrongState (body 0)))
    ∧ ((s.port t).state = .faulted → ¬ absent →
      exec (.trunkClear w) s = .next (s.requestTaken.reply 0x0B#8 w .faultPersists (body 0)))
    ∧ ((s.port t).state = .faulted → absent → ∃ u,
      u = s.requestTaken.trunkRestart t .hunt none
      ∧ exec (.trunkClear w) s = .next (State.reply { u with sups := u.sups.set t { u.sup t with requests := [] } } 0x0B#8 w
        .ok (beBytes 1 t.index ++ [2#8, 0#8, 0#8])))

/-- APPLY_RESUME: a trunk number above 3 or a bucket above 4,095 is refused; else the record's held flag clears, its
forward test is made, and the reply shows the record (R150; before its head entry goes forward: log 32; the field of an
absent epoch is 0: log 42). The slot arbiter (R145; that State keeps what a record was handed, and hands a freed slot to a
record that goes forward by itself, is log 17): free slots go to the records at the head of the wait list; when a slot is
freed, every record that wants one and stands on no list joins the tail (several in a free order: log 46); at its own
forward test a record joins the tail if no slot is free; a handed record with nothing left to go forward gives its slot to
the next; leaving the list. -/
def Obligations.ApplyResumed : Prop :=
  let could := fun (r : InRec) => r.held = false ∧ r.inFlight = none ∧ r.queue ≠ []
  let wants := fun (a : ApplyUnit) (k : Nat) (r : InRec) => could r
    ∧ (∃ e rest, r.queue = e :: rest ∧ e.notice.kind ≠ 4) ∧ k ∉ a.granted ∧ k ∉ a.waitList
  (∀ a : ApplyUnit,
    let n := 256 - a.slots.length - a.granted.length
    a.handSlots = { a with granted := a.granted ++ a.waitList.take n, waitList := a.waitList.drop n })
  ∧ (∀ s : State, ∃ joining n,
    s.offerSlots = { s with
      apply := ApplyUnit.handSlots { s.apply with waitList := s.apply.waitList ++ joining }
      freeCount := n }
    ∧ (∀ k, k ∈ joining ↔ wants s.apply k (s.inRec k))
    ∧ (Table.wf .reset s.apply.records = true → joining.Nodup))
  ∧ (∀ (s : State) (tag : Nat), s.freeSlot tag = State.offerSlots { s with
    apply := { s.apply with slots := s.apply.slots.filter fun x => x.tag != tag } })
  ∧ (∀ (s : State) (gone : Nat → Bool),
    ((∃ k ∈ s.apply.granted, gone k = true) → s.returnSlots gone = State.offerSlots { s with
      apply := { s.apply with granted := s.apply.granted.filter fun k => !gone k } })
    ∧ ((∀ k ∈ s.apply.granted, gone k = false) → s.returnSlots gone = s))
  ∧ (∀ (s : State) (k : Nat),
    let full := 256 ≤ s.apply.slots.length + s.apply.granted.length
    (wants s.apply k (s.inRec k) → full →
      s.forwardTest k = { s with apply := { s.apply with waitList := s.apply.waitList ++ [k] } })
    ∧ (could (s.inRec k) → ¬ (wants s.apply k (s.inRec k) ∧ full) → s.forwardTest k = s)
    ∧ (¬ could (s.inRec k) → s.forwardTest k = s.returnSlots fun j => j == k))
  ∧ (∀ (s : State) (gone : Nat → Bool),
    s.leaveList gone = { s with apply := { s.apply with waitList := s.apply.waitList.filter fun k => !gone k } })
  ∧ (∀ (w : Wire) (s : State), Intact s w 4 → (3 < fieldAt w.body 0 1 ∨ 4095 < fieldAt w.body 2 2) →
    exec (.applyResume w) s = .next (s.requestTaken.reply 0x14#8 w .badArgument (List.replicate 16 0#8)))
  ∧ ∀ (w : Wire) (s : State) (t : Trunk), Intact s w 4 → fieldAt w.body 0 1 = t.index → fieldAt w.body 2 2 ≤ 4095 →
    let k := t.index * 4096 + fieldAt w.body 2 2
    let r := s.inRec k
    let body := beBytes 2 (r.epoch.getD 0)
      ++ beBytes 1 (bitsToNat [r.epoch.isSome, r.reassembly.isSome, false, r.ackOwed]) ++ [0#8]
      ++ beBytes 4 r.expected ++ beBytes 4 r.applied ++ beBytes 4 r.queue.length
    (r.held = false → exec (.applyResume w) s = .next (s.requestTaken.reply 0x14#8 w .ok body))
    ∧ (r.held = true → exec (.applyResume w) s =
      .next (((s.requestTaken.setInRec k { r with held := false }).forwardTest k).reply 0x14#8 w .ok body))

/-! ## The trunk's timers -/

/-- CYCLE_START in every state but OFF and TEST (R83, R111, R96, R97, R114, R168); in OFF and TEST nothing (log 3). A cycle
begins at the moment of log 2, and the events of its start come in one of six orders, which one being free (log 41). In
every order in which no identification moves the trunk: the staged fields in force, the cycle counter, ALIGN's test, and
the port's other fields; a frame joins the resend queue when the time since its last send has reached the shorter RTO
(log 35), each one a RESEND event (R124). At RUNNING entry entries may join the refill queue (R72); the Body Store is
otherwise left as it is. In the three orders that take the identification before the test, one that moves the trunk (or
a request that waited before it, log 7) takes it to DOWN or FAULTED from the state in which the period has closed, and the
test is not made. -/
def Obligations.CycleStarts : Prop :=
  (∀ (s : State) (t : Trunk), (s.port t).state = .off ∨ (s.port t).state = .test → exec (.cycleStart t) s = .next s)
  ∧ (∀ (s : State) (t : Trunk), exec (.identificationAction t) s = .next (s.takeRequest t))
  ∧ ∀ (s : State) (t : Trunk),
    let p := s.port t
    p.state ≠ .off → p.state ≠ .test →
    (∃ o, exec (.cycleStart t) s = .next ((s.beginCycle t).cycleEvents t o))
    ∧ ∀ o : Config.CycleOrder,
      let u := (s.beginCycle t).cycleEvents t o
      let due := p.cycleAt + p.config.k * p.period
      let x := s.sup t
      let sig := x.tally.signature
      let begun : Port := { p with
        cycleAt := due, frameAt := due, position := 0, cycleCounter := (p.cycleCounter + 1) % 256, cycleService := none }
      let inForce : Port := { begun with
        config := { p.config with paced := p.staged.getD p.config.paced }, staged := none }
      let joins := fun (f : SentFrame) => decide
        (inForce.rtoNs < p.rtoNs ∧ f.queued = false ∧ f.lastSend + inForce.rtoNs ≤ max s.now due)
      let store := p.store.map fun f => if joins f = true then { f with queued := true } else f
      let resend := min 255 (x.counters.resend + p.store.countP joins)
      (u.now = max s.now due ∧ (∀ v, v ≠ t → u.port v = s.port v ∧ u.sup v = s.sup v) ∧ u.clock = s.clock
        ∧ u.buckets = s.buckets)
      ∧ (¬ s.movedAtStart t o →
        let ready := p.state = .align ∧ 4 ≤ p.headCycles ∧ p.lock.held = true ∧ p.lock.peerLocked = true
        let up := p.state = .running ∨ p.state = .resync
        u.port t = { inForce with
          state := if ready then .running else p.state
          alignCycle := if p.state = .align ∧ ¬ ready then p.alignCycle + 1 else p.alignCycle
          runCycle := if ready then 0 else if up then p.runCycle + 1 else p.runCycle
          nextFrame := if ready then 0 else p.nextFrame
          expectedFrame := if ready then 0 else p.expectedFrame
          store := store }
        ∧ (x.counters.resend ≤ 255 → (u.sup t).counters = { x.counters with resend := resend })
        ∧ (u.sup t).resync = (if ready then none else x.resync)
        ∧ (ready → RefillCurrent u ∧ u.body = { s.body with refillQueue := u.body.refillQueue }
          ∧ ∃ joining, u.body.refillQueue = (s.body.refillQueue.filter fun i =>
              u.journal.entries.any fun e => e.index == i && dueForRefill u e) ++ joining
            ∧ ∀ i ∈ joining, i ∉ s.body.refillQueue)
        ∧ (¬ ready → u.body = s.body)
        ∧ u.journal = s.journal ∧ u.map = s.map ∧ u.apply = s.apply)
      ∧ (s.movedAtStart t o → ∃ v : State,
        u = Nat.repeat (fun w => w.takeRequest t) (x.requests.length + 1) v
        ∧ ((u.port t).state = .down ∨ (u.port t).state = .faulted)
        ∧ (x.requests = [] → (sig = .silent → (u.port t).state = .down)
          ∧ (sig ≠ .silent → (u.port t).state = .faulted ∧ (u.sup t).faultCause = some sig))
        ∧ v = { s with
          now := max s.now due
          ports := s.ports.set t (if o = .identificationFirst then begun else { inForce with store := store })
          sups := s.sups.set t { x with
            counters := (v.sup t).counters
            tally := ⟨0, 0, false, false, false⟩
            history := (⟨sig, x.tally.looped, x.tally.foreign, x.tally.peer⟩ :: x.history).take 5
            runLength := 5
            latest := some sig
            lastIdentified := some sig
            requests := x.requests ++ [sig] }
          sli := v.sli
          freeCount := s.freeCount + 1 }
        ∧ (o = .identificationFirst → (v.sup t).counters = x.counters ∧ v.sli = s.sli.latchTrunk t .identified true)
        ∧ (o ≠ .identificationFirst → x.counters.resend ≤ 255 →
          (v.sup t).counters = { x.counters with resend := resend }
          ∧ (let n := x.counters.resend + p.store.countP joins - 255
            v.sli = if o = .closeMiddleActed then (s.sli.saturated t .resend n).latchTrunk t .identified true
              else (s.sli.latchTrunk t .identified true).saturated t .resend n)))

/-- A period close at CYCLE_START (R160 to R165, R167): the signature is that of the first row of Table 8-2 that applies,
and is kept until the next close or a restart; its record goes to the front of the history; the run changes by it; a run
of five identifies, asking the state machine in the first-in first-out queue of log 7 (an identification sets IDENTIFIED
alone: log 40). Of the link only its latches and reports change, where the trunk is not moved: IDENTIFIED, reported under
its mask bit, or UNIDENTIFIED, reported under its mask bit and the policy DETECT alone (R164 to R166), before or behind
those of the RESEND events at 255 of a shorter RTO (R157), by the order of the cycle start's events, which is free
(log 41). Where that order takes an identification at once (R168), the requests are all taken, and a trunk that one of
them moves has its latest signature, its history and its run cleared by the restart (R176). -/
def Obligations.PeriodClassified : Prop :=
  (∀ x : Tally,
    (x.arrivals = 0 → x.signature = .silent)
    ∧ (x.arrivals ≠ 0 → x.looped = true → x.signature = .looped)
    ∧ (x.arrivals ≠ 0 → x.looped = false → x.foreign = true → x.signature = .foreign)
    ∧ (x.arrivals ≠ 0 → x.looped = false → x.foreign = false → x.arrivals ≤ x.invalid * 2 → x.signature = .garbled)
    ∧ (x.arrivals ≠ 0 → x.looped = false → x.foreign = false → x.invalid * 2 < x.arrivals → x.signature = .clean))
  ∧ (∀ (s : State) (t : Trunk), (s.port t).state ≠ .off → (s.port t).state ≠ .test →
    (∃ o, exec (.cycleStart t) s = .next ((s.beginCycle t).cycleEvents t o))
    ∧ ∀ o : Config.CycleOrder,
      let u := (s.beginCycle t).cycleEvents t o
      let x := s.sup t
      let sig := x.tally.signature
      let run : Option Signature × Nat :=
        if sig = .clean then (none, 0)
        else if x.runSignature = some sig then (some sig, min (x.runLength + 1) 5)
        else (some sig, 1)
      (u.sup t).tally = ⟨0, 0, false, false, false⟩
      ∧ (run.2 = 5 → (u.sup t).lastIdentified = some sig
        ∧ (u.sup t).requests = (if actsAtOnce o then [] else x.requests ++ [sig])
        ∧ (u.sli.latches.trunk.get t).identified = true)
      ∧ (run.2 ≠ 5 → (u.sup t).lastIdentified = x.lastIdentified ∧ (u.sup t).requests = x.requests
        ∧ (sig ≠ .clean → (u.sli.latches.trunk.get t).unidentified = true))
      ∧ (¬ s.movedAtStart t o →
        (u.sup t).latest = some sig
        ∧ (u.sup t).history = (⟨sig, x.tally.looped, x.tally.foreign, x.tally.peer⟩ :: x.history).take 5
        ∧ (u.sup t).runSignature = run.1 ∧ (u.sup t).runLength = run.2
        ∧ (x.counters.resend ≤ 255 →
          let p := s.port t
          let joined := p.store.countP fun y => decide
            ((u.port t).rtoNs < p.rtoNs ∧ y.queued = false ∧ y.lastSend + (u.port t).rtoNs ≤ u.now)
          let full := fun (y : Sli) => y.saturated t .resend (x.counters.resend + joined - 255)
          let closed := fun (y : Sli) => if run.2 = 5 then y.latchTrunk t .identified true
            else if sig = .clean then y
            else y.latchTrunk t .unidentified (decide (p.config.identifyPolicy = false))
          u.sli = if o = .closeLast ∨ o = .closeMiddle ∨ o = .closeMiddleActed then closed (full s.sli)
            else full (closed s.sli)))
      ∧ (s.movedAtStart t o → (u.sup t).latest = none ∧ (u.sup t).history = [] ∧ (u.sup t).runSignature = none
        ∧ (u.sup t).runLength = 0))
  ∧ (∀ (s : State) (t : Trunk) (goal : TrunkState) (cause : Option Signature),
    ((s.trunkRestart t goal cause).sup t).latest = none)
  ∧ (∀ t, (State.reset.sup t).latest = none) ∧ ∀ (s : State) (t : Trunk), (s.partRestart.sup t).latest = none

/-- FRAME_PERIOD by the trunk's state (Table 5-2, R84, R96, R104, R129, R134): which frame leaves, counted. The moment
is that of log 2; past the last position nothing happens (log 3). The SERVICE frame's acknowledgements are those of
R130: the records that owe one and have an epoch, by bucket id from the start point on, up to 1,000; each record that
owes, up to the one at which 1,000 are placed, owes none after. An idle slot carries FILL, or in an echo cycle the
cycle's SERVICE frame (R114). That the header fields a frame's kind has no use for are sent as 0 is the model's choice
(log 47). -/
def Obligations.FramesByState : Prop :=
  ∀ (s : State) (t : Trunk),
    let p := s.port t
    let due := max s.now p.frameAt
    let site := s.clock.site.getD 0
    let inc := s.clock.incarnation.getD 0#64
    let fill : Frame := { Frame.blank 4 with ready := true, site := site, incarnation := inc }
    let head := fun (locked alarm : Bool) => { Frame.blank 1 with
      ready := true, locked := locked, alarm := alarm, site := site, k := p.config.k, align := 0x5E3AC691#32
      incarnation := inc, cycle := p.cycleCounter }
    let sent := fun (q : Port) (f : Frame) => { s with
      now := due
      ports := s.ports.set t { q with
        line := p.line ++ [f], stats := { p.stats with framesSent := p.stats.framesSent + 1 } } }
    let at1 : Port := { p with position := p.position + 1, frameAt := p.frameAt + p.period }
    let paced := p.config.paced
    let idle : Frame := match paced.echo && p.runCycle % (paced.echoM * paced.echoN) == 0, p.cycleService with
      | true, some f => { Frame.blank 2 with echo := true, payload := servicePayload f }
      | _, _ => fill
    (p.state = .off → exec (.framePeriod t) s = .next s)
    ∧ (p.state = .test → exec (.framePeriod t) s = .next (sent { p with
      frameAt := p.frameAt + p.period, test := { p.test with counter := p.test.counter + 1 } } { Frame.blank 6 with
        counter := p.test.counter
        payload := (List.range 8160).map (patternByte p.test.send p.test.custom1 p.test.custom2 p.test.counter.toNat) }))
    ∧ (p.state ≠ .off → p.state ≠ .test → p.config.k ≤ p.position → exec (.framePeriod t) s = .next s)
    ∧ (p.position < p.config.k →
      (p.state = .hunt → exec (.framePeriod t) s = .next (sent at1 fill))
      ∧ (p.state = .align → ¬ (p.position = 0 ∧ p.alignDelay < p.alignCycle) →
        exec (.framePeriod t) s = .next (sent at1 fill))
      ∧ (p.state = .align → p.position = 0 → p.alignDelay < p.alignCycle →
        exec (.framePeriod t) s = .next (sent { at1 with headCycles := p.headCycles + 1 } (head p.lock.held false)))
      ∧ (p.state = .running → p.position = 0 → exec (.framePeriod t) s = .next (sent at1 (head true false)))
      ∧ (p.state = .resync → p.position = 0 → exec (.framePeriod t) s = .next (sent at1 (head false true)))
      ∧ (p.state = .running ∨ p.state = .resync → p.position = 1 → Table.wf .reset s.apply.records = true → ∃ u f,
        let recs := (s.apply.records.filter fun x => x.1 / 4096 == t.index).map fun x => (x.1 % 4096, x.2)
        let turn := recs.filter (fun x => decide (p.ackStart ≤ x.1)) ++ recs.filter (fun x => decide (x.1 < p.ackStart))
        let owed := turn.filter fun x => x.2.ackOwed
        let passed := fun b => ∃ xs y ys, owed = xs ++ y :: ys ∧ y.1 = b ∧ xs.countP (fun x => x.2.epoch.isSome) < 1000
        exec (.framePeriod t) s = .next u
        ∧ f.acks = ((owed.filter fun x => x.2.epoch.isSome).take 1000).map (fun x =>
          ⟨x.1, x.2.epoch.getD 0, x.2.applied⟩)
        ∧ (∀ b, b < 4096 →
          let k := t.index * 4096 + b
          (passed b → u.inRec k = { s.inRec k with ackOwed := false }) ∧ (¬ passed b → u.inRec k = s.inRec k))
        ∧ (∀ v b, v ≠ t → b < 4096 → u.inRec (v.index * 4096 + b) = s.inRec (v.index * 4096 + b))
        ∧ u.port t = { at1 with
          cycleService := some f
          ackStart := match f.acks.getLast? with
            | none => p.ackStart
            | some a => (a.bucket + 1) % 4096
          line := p.line ++ [{ Frame.blank 2 with payload := servicePayload f }]
          stats := { p.stats with framesSent := p.stats.framesSent + 1 } }
        ∧ (u.port t).line = p.line ++ [{ Frame.blank 2 with payload := servicePayload f }]
        ∧ (u.port t).stats.framesSent = p.stats.framesSent + 1 ∧ (u.port t).position = 2
        ∧ f.through = (if p.expectedFrame = 0 then none else some (p.expectedFrame - 1))
        ∧ f.marks = (List.range 256).map (fun i => (p.reorder.lookup (p.expectedFrame + i)).isSome)
        ∧ f.acks.length ≤ 1000
        ∧ (∀ a ∈ f.acks, (s.inRec (t.index * 4096 + a.bucket)).ackOwed = true
          ∧ (s.inRec (t.index * 4096 + a.bucket)).epoch = some a.epoch
          ∧ (s.inRec (t.index * 4096 + a.bucket)).applied = a.seq
          ∧ (u.inRec (t.index * 4096 + a.bucket)).ackOwed = false)
        ∧ u.now = due ∧ u.clock = s.clock ∧ u.journal = s.journal ∧ u.buckets = s.buckets ∧ u.sups = s.sups
        ∧ u.sli = s.sli)
      ∧ (p.state = .running ∨ p.state = .resync → 2 ≤ p.position →
        let s1 : State := { s with now := due, ports := s.ports.set t at1 }
        let slot := p.position - 2
        let plan := paced.plan
        let express := plan.xs ≤ slot ∧ slot ≤ plan.xe
        let bulk := plan.bulk = true ∧ plan.bs ≤ slot ∧ slot ≤ plan.be
        (¬ express → ¬ bulk → exec (.framePeriod t) s = .next (sent at1 idle))
        ∧ (express → exec (.framePeriod t) s = .next (s1.dataSlot t .express p.frameAt))
        ∧ (¬ express → bulk → exec (.framePeriod t) s = .next (s1.dataSlot t .bulk p.frameAt)))
      ∧ (p.state = .down ∨ p.state = .faulted →
        exec (.framePeriod t) s = .next { s with now := due, ports := s.ports.set t at1 }))

/-- A data slot of RUNNING and RESYNC (R113 to R125): a frame of the resend queue goes first, unchanged but for its
queueing; else, while fewer than W frames are in flight, the next piece of the bucket that the slot's search finds
leaves in a new CARRY frame, which starts the stall timer where none was in flight (R170) and changes no more than is
said; else the slot carries FILL, or an echo of the cycle's SERVICE frame. What work is sendable (R23; a piece index
past the last segment, which no run reaches, gives no piece: log 35); the search goes through the slot's own class
from its start point round, then through the other (R115 to R117). With the next frame number at 2^48-1 a slot that
would take a piece carries FILL or its echo and the trunk makes a protocol restart (R122, at such a slot: log 16).
That the header fields a frame's kind has no use for are sent as 0 is the model's choice (log 47). -/
def Obligations.DataSlotSends : Prop :=
  (∀ (s : State) (b : Nat) (t : Trunk) (e : JEntry),
    let r := s.bucket b
    s.sendable b t = some e ↔
      s.journal.entries.find? (fun x => x.bucket == b && match x.peers.get t with
        | some .sent => false
        | some _ => true
        | none => false) = some e
      ∧ (r.state = .active ∨ r.state = .draining ∨ r.state = .paused ∧ ∃ i, e.peers.get t = some (.sending i))
      ∧ (e.change = .void ∨ e.bodyState = .ready) ∧ (e.seq.isSome = true ∨ r.seqLimit = false)
      ∧ ∀ i, e.peers.get t = some (.sending i) → i < e.segments)
  ∧ (∀ (s : State) (t : Trunk) (c : Band), Table.wf .reset s.buckets = true →
    let start := match c with
      | .express => (s.port t).expressStart
      | .bulk => (s.port t).bulkStart
    let works := fun b => (s.bucket b).band = c ∧ (s.bucket b).targets.get t = true ∧ (s.sendable b t).isSome = true
    let before := fun b' b => if start ≤ b then start ≤ b' ∧ b' < b else start ≤ b' ∨ b' < b
    (∀ b, s.searchClass t c = some b → works b ∧ ∀ b', before b' b → ¬ works b')
    ∧ (s.searchClass t c = none ↔ ∀ b, ¬ works b))
  ∧ (∀ (s : State) (t : Trunk) (own other : Band), own ≠ other →
    (∀ b, s.searchClass t own = some b → s.searchSlot t own = some (own, b))
    ∧ (s.searchClass t own = none → s.searchSlot t own = (s.searchClass t other).map fun b => (other, b)))
  ∧ ∀ (s : State) (t : Trunk) (own : Band) (moment : Nat),
    let p := s.port t
    let sent := fun (q : Port) (f : Frame) => { q with
      line := p.line ++ [f], stats := { q.stats with framesSent := p.stats.framesSent + 1 } }
    let idle : Frame := match p.config.paced.echo && p.runCycle % (p.config.paced.echoM * p.config.paced.echoN) == 0,
        p.cycleService with
      | true, some f => { Frame.blank 2 with echo := true, payload := servicePayload f }
      | _, _ => { Frame.blank 4 with
        ready := true, site := s.clock.site.getD 0, incarnation := s.clock.incarnation.getD 0#64 }
    (∀ xs ys f, p.store = xs ++ f :: ys → (∀ x ∈ xs, x.queued = false) → f.queued = true →
      s.dataSlot t own moment = { s with ports := s.ports.set t (sent { p with store := p.store.map fun x =>
        if x.number = f.number then { x with queued := false, lastSend := moment } else x } f.frame) })
    ∧ ((∀ x ∈ p.store, x.queued = false) → p.window ≤ p.store.length → ∃ x : Sli,
      s.dataSlot t own moment = { s with ports := s.ports.set t (sent p idle), sli := x }
      ∧ x = if (s.searchSlot t .express).isSome then s.sli.latchTrunk t .windowFull true else s.sli)
    ∧ ((∀ x ∈ p.store, x.queued = false) → p.store.length < p.window → s.searchSlot t own = none →
      s.dataSlot t own moment = { s with ports := s.ports.set t (sent p idle) })
    ∧ (∀ c b e, (∀ x ∈ p.store, x.queued = false) → p.store.length < p.window → s.searchSlot t own = some (c, b) →
      s.sendable b t = some e → p.nextFrame = 281474976710655 →
      s.dataSlot t own moment = State.trunkRestart { s with ports := s.ports.set t { sent p idle with
        stats := { p.stats with
          framesSent := p.stats.framesSent + 1, protocolRestarts := p.stats.protocolRestarts + 1 } } } t .hunt none)
    ∧ ∀ c b e, (∀ x ∈ p.store, x.queued = false) → p.store.length < p.window → s.searchSlot t own = some (c, b) →
      s.sendable b t = some e → p.nextFrame ≠ 281474976710655 →
      ∃ payload, let u := s.dataSlot t own moment
        let f := { Frame.blank 3 with number := p.nextFrame, payload := payload }
        let begun : BitVec 32 := if e.peers.get t = some .queued then 1 else 0
        u = { s with
          ports := s.ports.set t { p with
            expressStart := if c = .express then (b + 1) % 4096 else p.expressStart
            bulkStart := if c = .bulk then (b + 1) % 4096 else p.bulkStart
            nextFrame := p.nextFrame + 1
            store := p.store ++ [⟨p.nextFrame, f, ⟨e.index, e.gen⟩, moment, moment, false⟩]
            line := p.line ++ [f]
            stats := { p.stats with
              framesSent := p.stats.framesSent + 1, entriesBegun := p.stats.entriesBegun + begun } }
          sups := if p.store = [] then s.sups.set t { s.sup t with
              stall := some ⟨s.now, p.config.stallTime * 1000000000⟩ }
            else s.sups
          journal := { s.journal with entries := u.journal.entries }
          buckets := u.buckets
          map := u.map
          body := { s.body with refillQueue := u.body.refillQueue }
          freeCount := u.freeCount }
        ∧ RefillCurrent u
        ∧ (∀ i, e.peers.get t = some (.sending i) →
          (let bytes := (((e.fill.map fun f => f.bytes).getD []).drop (i * 8128)).take 8128
          payload = segmentPayload ⟨e.bucket, e.seq.getD 0, i, bytes.length, bytes⟩)
          ∧ u.map = s.map
          ∧ u.journal.entries = s.journal.entries.map (fun x => if x.index = e.index then { e with
            peers := e.peers.set t (some (if i + 1 < e.segments then .sending (i + 1) else .sent))
            framesOut := e.framesOut + 1 } else x) ∧ u.buckets = s.buckets)
        ∧ (e.peers.get t = some .queued →
          let r := s.bucket e.bucket
          let seq := e.seq.getD r.nextSeq
          payload = noticePayload ⟨e.change.code, r.rebase.get t, e.bucket, r.epochs.get t, seq, e.change.length, e.segments,
            e.digest, e.stamp, e.change.check, e.change.patches⟩
          ∧ u.journal.entries = s.journal.entries.map (fun x => if x.index = e.index then { e with
            seq := some seq
            peers := e.peers.set t (some (if e.segments = 0 then .sent else .sending 0))
            framesOut := e.framesOut + 1 } else x)
          ∧ (e.seq = none → u.bucket e.bucket = { r with
            nextSeq := r.nextSeq + 1, seqLimit := r.seqLimit || r.nextSeq + 1 == 4294967295 })
          ∧ (∀ b', b' ≠ e.bucket → u.bucket b' = s.bucket b')
          ∧ (e.seq.isSome = true → u.buckets = s.buckets ∧ u.map = s.map)
          ∧ (e.seq = none → u.map = mapChanged s.map e.bucket e.digest fun x => { x with unsealed := none }))

/-- PROBE_PERIOD (R102), RTO_EXPIRY (R124, R125), RESYNC_TIMEOUT (R169) and STALL_EXPIRY (R171): what the expiry does at
its moment, and that a timer that does not run does nothing (logs 2 and 3). A RESEND event at 255 sets COUNTER-SAT and
queues its report (R157, log 22); a PROBE's moment is that of its leaving (log 35), and the header fields it has no use
for are sent as 0 (log 47); STALLED sets IDENTIFIED alone (log 40). -/
def Obligations.TimersExpire : Prop :=
  ∀ (s : State) (t : Trunk),
    let p := s.port t
    let x := s.sup t
    let up := p.state = .running ∨ p.state = .resync
    ((p.state = .down ∨ p.state = .faulted) →
      let due := max s.now (match p.lastProbe with
        | none => p.probeEntry
        | some m => m + p.config.probePeriod * 1000000)
      exec (.probePeriod t) s = .next { s with now := due, ports := s.ports.set t { p with
        heard := false
        lastProbe := some due
        line := p.line ++ [{ Frame.blank 5 with
          heard := p.heard, site := s.clock.site.getD 0, incarnation := s.clock.incarnation.getD 0#64 }]
        stats := { p.stats with framesSent := p.stats.framesSent + 1 } } })
    ∧ (p.state ≠ .down → p.state ≠ .faulted → exec (.probePeriod t) s = .next s)
    ∧ (∀ n f, up → p.store.find? (fun y => y.number == n && !y.queued) = some f →
      let s1 : State := { s with
        now := max s.now (f.lastSend + p.config.paced.rto p.config.k * 1000)
        ports := s.ports.set t { p with store := p.store.map fun y => if y.number = n then { y with queued := true } else y } }
      (x.counters.resend < 255 → exec (.rtoExpiry t n) s = .next { s1 with sups := s.sups.set t { x with
        counters := { x.counters with resend := x.counters.resend + 1 } } })
      ∧ (255 ≤ x.counters.resend → ∃ y : Sli, exec (.rtoExpiry t n) s = .next { s1 with sli := y }
        ∧ y = s.sli.saturated t .resend 1 ∧ (y.latches.trunk.get t).counterSat = true))
    ∧ (∀ n, (¬ up ∨ ∀ y ∈ p.store, y.number = n → y.queued = true) → exec (.rtoExpiry t n) s = .next s)
    ∧ (∀ y, p.state = .align ∨ p.state = .resync → x.resync = some y →
      let u := State.trunkRestart { s with now := max s.now (y.start + y.length) } t .down none
      exec (.resyncTimeout t) s = .next { u with sli := s.sli.latchTrunk t .down true })
    ∧ (¬ (p.state = .align ∨ p.state = .resync) ∨ x.resync = none → exec (.resyncTimeout t) s = .next s)
    ∧ (∀ y, up → x.stall = some y →
      let u := State.trunkRestart { s with
        now := max s.now (y.start + y.length)
        sups := s.sups.set t { x with lastIdentified := some .stalled } } t .faulted (some .stalled)
      exec (.stallExpiry t) s = .next { u with
        sli := (s.sli.latchTrunk t .identified true).latchTrunk t .faulted true })
    ∧ (¬ up ∨ x.stall = none → exec (.stallExpiry t) s = .next s)

/-- IDENTIFICATION_ACTION takes the oldest request and acts by Table 8-3 (R167, R172); in OFF and TEST it has no effect.
Without a request nothing happens (log 3). -/
def Obligations.IdentificationTable : Prop :=
  (∀ (s : State) (t : Trunk), (s.sup t).requests = [] → exec (.identificationAction t) s = .next s)
  ∧ ∀ (s : State) (t : Trunk) (sig : Signature) (rest : List Signature), (s.sup t).requests = sig :: rest →
    let s1 : State := { s with sups := s.sups.set t { s.sup t with requests := rest } }
    let st := (s.port t).state
    let moving := st = .hunt ∨ st = .align ∨ st = .running ∨ st = .resync
    let down := s1.trunkRestart t .down none
    let faulted := s1.trunkRestart t .faulted (some sig)
    (sig = .silent → moving →
      exec (.identificationAction t) s = .next { down with sli := s.sli.latchTrunk t .down true })
    ∧ (sig = .silent → ¬ moving → exec (.identificationAction t) s = .next s1)
    ∧ (sig = .looped ∨ sig = .foreign → moving ∨ st = .down →
      exec (.identificationAction t) s = .next { faulted with sli := s.sli.latchTrunk t .faulted true })
    ∧ (sig = .looped ∨ sig = .foreign → st = .faulted →
      exec (.identificationAction t) s = .next { s with
        sups := s.sups.set t { s.sup t with requests := rest, faultCause := some sig } })
    ∧ (sig = .garbled ∨ st = .off ∨ st = .test → exec (.identificationAction t) s = .next s1)

/-! ## Arrivals -/

/-- HEAD_RECEIVED: in OFF nothing, in TEST only counted; from the expected peer with READY it moves HUNT to ALIGN, the
lock's candidate run begun with it (R82, R94 to R96, R169), and DOWN to HUNT (R103); under a changed incarnation it
clears the inbound records and restarts a trunk in RUNNING or RESYNC (R93, R100, R153); from another site it only leaves
a mark (R160). In ALIGN, RUNNING and RESYNC, and in HUNT without READY, it is counted, the lock takes it, and a matching
HEAD's LOCKED flag, cycle number and ALARM flag are recorded (R95, R101; in this order: log 9); in DOWN and FAULTED none
of them (Table 5-5). An incarnation change gives up what the entries being rebuilt hold (R153); the entry of an APPLY in
flight stays in its queue (log 43). The lock's rules for every arrival (R95, R98, R99), a head error being a HEAD-ERROR
event in ALIGN and RUNNING (R156): a failed run keeps the remote K and the expected position (log 21), and a run begun
in HUNT goes on into ALIGN (log 38). The remote alarm filter (R101). -/
def Obligations.HeadReceivedAndLock : Prop :=
  (∀ (s : State) (t : Trunk) (f : HeadFrame), (s.port t).state = .off → exec (.headReceived t f) s = .next s)
  ∧ (∀ (s : State) (t : Trunk) (f : HeadFrame), (s.port t).state = .test →
    exec (.headReceived t f) s = .next { s with ports := s.ports.set t { s.port t with
      rxPos := (s.port t).rxPos + 1
      stats := { (s.port t).stats with framesReceived := (s.port t).stats.framesReceived + 1 } } })
  ∧ (∀ (s : State) (t : Trunk) (f : HeadFrame), (s.port t).state = .hunt → (s.port t).config.peer = some f.site.toNat →
    f.ready = true → ((s.port t).recorded = none ∨ (s.port t).recorded = some f.incarnation) → ∃ u,
      exec (.headReceived t f) s = .next u
      ∧ (u.port t).state = .align ∧ (u.port t).recorded = some f.incarnation
      ∧ (u.port t).alignDelay = (s.port t).config.alignDelay ∧ (u.port t).alignCycle = 0 ∧ (u.port t).headCycles = 0
      ∧ (u.sup t).resync = some ⟨s.now, (s.port t).config.resyncTimeout * 1000000⟩
      ∧ (u.port t).rxPos = (s.port t).rxPos + 1
      ∧ (u.port t).stats = { (s.port t).stats with framesReceived := (s.port t).stats.framesReceived + 1 }
      ∧ (u.sup t).tally.arrivals = (s.sup t).tally.arrivals + 1 ∧ (u.sup t).tally.invalid = (s.sup t).tally.invalid
      ∧ (f.align = 0x5E3AC691#32 → 8 ≤ f.k.toNat → f.k.toNat ≤ 32 → (s.port t).lock.held = false →
        (s.port t).lock.run = 0 →
        (u.port t).lock = ⟨false, some f.k.toNat, some ((s.port t).rxPos + 1 + f.k.toNat), 1, (s.port t).lock.headErrors,
          f.locked⟩ ∧ (u.port t).lastCycle = f.cycle.toNat)
      ∧ (∀ v, v ≠ t → u.port v = s.port v ∧ u.sup v = s.sup v) ∧ u.now = s.now ∧ u.clock = s.clock
      ∧ u.buckets = s.buckets ∧ u.journal = s.journal ∧ u.map = s.map ∧ u.apply = s.apply)
  ∧ (∀ (s : State) (t : Trunk) (f : HeadFrame), (s.port t).state = .down ∨ (s.port t).state = .faulted →
    (s.port t).config.peer = some f.site.toNat →
    ((s.port t).recorded = none ∨ (s.port t).recorded = some f.incarnation) →
    let looped := s.clock.site == some f.site.toNat && s.clock.incarnation == some f.incarnation
    let s1 := s.arrivedWith t looped false (!looped)
    exec (.headReceived t f) s = .next { s1 with ports := s1.ports.set t { s1.port t with
      recorded := some f.incarnation
      state := if (s.port t).state = .down then .hunt else .faulted
      prevHead := decide (f.align = 0x5E3AC691#32 ∧ 8 ≤ f.k.toNat ∧ f.k.toNat ≤ 32) } })
  ∧ (∀ (s : State) (t : Trunk) (f : HeadFrame) (r : Stamp), (s.port t).state = .running ∨ (s.port t).state = .resync →
    (s.port t).config.peer = some f.site.toNat → (s.port t).recorded = some r → r ≠ f.incarnation →
    Table.wf .reset s.apply.records = true → ∃ u, exec (.headReceived t f) s = .next u
      ∧ (u.port t).state = .hunt ∧ (u.port t).recorded = some f.incarnation ∧ (u.port t).store = []
      ∧ (u.port t).stats.protocolRestarts = (s.port t).stats.protocolRestarts + 1 ∧ InboundCleared s u t
      ∧ ∀ b, b < 4096 → (u.inRec (t.index * 4096 + b)).epoch = none
        ∧ (u.inRec (t.index * 4096 + b)).reassembly = none
        ∧ (u.inRec (t.index * 4096 + b)).queue.length = (s.inRec (t.index * 4096 + b)).queue.length)
  ∧ (∀ (s : State) (t : Trunk) (f : HeadFrame) (r : Stamp), (s.port t).state ∈ [.hunt, .align, .down, .faulted] →
    (s.port t).config.peer = some f.site.toNat → (s.port t).recorded = some r → r ≠ f.incarnation →
    Table.wf .reset s.apply.records = true → ∃ u, exec (.headReceived t f) s = .next u
      ∧ (u.port t).recorded = some f.incarnation ∧ (u.port t).rxPos = (s.port t).rxPos + 1 ∧ InboundCleared s u t
      ∧ (u.port t).state = (match (s.port t).state, f.ready with
        | .hunt, true => .align
        | .down, _ => .hunt
        | st, _ => st)
      ∧ u.now = s.now ∧ u.clock = s.clock ∧ u.buckets = s.buckets ∧ u.journal = s.journal)
  ∧ (∀ (s : State) (t : Trunk) (f : HeadFrame), (s.port t).state ≠ .off → (s.port t).state ≠ .test →
    (s.port t).config.peer = some f.site.toNat →
    let p := s.port t
    let looped := s.clock.site == some f.site.toNat && s.clock.incarnation == some f.incarnation
    let matching := f.align = 0x5E3AC691#32 ∧ 8 ≤ f.k.toNat ∧ f.k.toNat ≤ 32
    let locks := p.state ∈ [TrunkState.hunt, .align, .running, .resync]
    let restarts := (p.state = .running ∨ p.state = .resync) ∧ p.recorded ≠ none ∧ p.recorded ≠ some f.incarnation
    ∃ v, IncarnationTaken (s.arrivedWith t looped false (!looped)) v t f.incarnation
      ∧ (restarts → exec (.headReceived t f) s = .next (v.startedOver t))
      ∧ (¬ restarts →
        let w := if locks then v.lockArrival t (if matching then some f.k.toNat else none) else v
        let y := p.filter.take f.alarm
        let x : State := if locks ∧ matching then { w with
            ports := w.ports.set t { w.port t with
              lock := { (w.port t).lock with peerLocked := f.locked }, lastCycle := f.cycle.toNat, filter := y }
            sli := if y.alarm = true ∧ p.filter.alarm = false then w.sli.latchTrunk t .remoteAlarm true else w.sli }
          else w
        let z : State := match p.state with
          | .hunt => if f.ready = true then x.aligned t else x
          | .down => { x with ports := x.ports.set t { x.port t with state := .hunt } }
          | _ => x
        exec (.headReceived t f) s = .next { z with
          ports := z.ports.set t { z.port t with prevHead := decide matching } }))
  ∧ (∀ (s : State) (t : Trunk) (f : HeadFrame), (s.port t).state ≠ .off → (s.port t).state ≠ .test →
    (s.port t).config.peer ≠ some f.site.toNat → ∃ u, exec (.headReceived t f) s = .next u
      ∧ (let own := s.clock.site == some f.site.toNat
        u = (s.arrivedWith t (own && s.clock.incarnation == some f.incarnation) (!own) false).passedLock t)
      ∧ (u.port t).recorded = (s.port t).recorded ∧ (u.port t).rxPos = (s.port t).rxPos + 1 ∧ (u.port t).prevHead = false
      ∧ (u.sup t).tally.arrivals = (s.sup t).tally.arrivals + 1 ∧ (u.sup t).tally.peer = (s.sup t).tally.peer
      ∧ (u.sup t).tally.foreign = ((s.sup t).tally.foreign || s.clock.site != some f.site.toNat)
      ∧ (u.sup t).tally.looped = ((s.sup t).tally.looped
        || (s.clock.site == some f.site.toNat && s.clock.incarnation == some f.incarnation)))
  ∧ (∀ (s : State) (t : Trunk) (f : HeadFrame), (s.port t).state ∈ [.align, .running, .resync]
      ∨ (s.port t).state = .hunt ∧ f.ready = false → (s.port t).config.peer = some f.site.toNat →
    ((s.port t).recorded = none ∨ (s.port t).recorded = some f.incarnation) →
    let p := s.port t
    let x := (s.sup t).tally
    let looped := s.clock.site == some f.site.toNat && s.clock.incarnation == some f.incarnation
    let s1 : State := { s with
      ports := s.ports.set t { p with
        rxPos := p.rxPos + 1
        stats := { p.stats with framesReceived := p.stats.framesReceived + 1 }
        recorded := some f.incarnation }
      sups := s.sups.set t { s.sup t with tally :=
        ⟨x.arrivals + 1, x.invalid, x.looped || looped, x.foreign, x.peer || !looped⟩ } }
    let matching := f.align = 0x5E3AC691#32 ∧ 8 ≤ f.k.toNat ∧ f.k.toNat ≤ 32
    (¬ matching →
      let v := s1.lockArrival t none
      exec (.headReceived t f) s = .next { v with ports := v.ports.set t { v.port t with prevHead := false } })
    ∧ (matching →
      let v := s1.lockArrival t (some f.k.toNat)
      let y := p.filter.take f.alarm
      exec (.headReceived t f) s = .next { v with
        ports := v.ports.set t { v.port t with
          lock := { (v.port t).lock with peerLocked := f.locked }
          lastCycle := f.cycle.toNat
          filter := y
          prevHead := true }
        sli := if y.alarm = true ∧ p.filter.alarm = false then v.sli.latchTrunk t .remoteAlarm true else v.sli }))
  ∧ (∀ (x : AlarmFilter) (alarm : Bool),
    (alarm = x.alarm → x.take alarm = ⟨x.alarm, 0⟩)
    ∧ (alarm ≠ x.alarm → x.run + 1 < 3 → x.take alarm = ⟨x.alarm, x.run + 1⟩)
    ∧ (alarm ≠ x.alarm → 3 ≤ x.run + 1 → x.take alarm = ⟨alarm, 0⟩))
  ∧ (∀ (x : Lock) (pos k : Nat), 0 < x.run → x.expected = some pos → x.remoteK = some k →
    x.seek pos (some k) = { x with run := x.run + 1, expected := some (pos + k) })
  ∧ (∀ (x : Lock) (pos k : Nat), ¬ (0 < x.run ∧ x.expected = some pos ∧ x.remoteK = some k) →
    x.seek pos (some k) = { x with run := 1, remoteK := some k, expected := some (pos + k) })
  ∧ (∀ (x : Lock) (pos : Nat), x.seek pos none = if 0 < x.run ∧ x.expected = some pos then { x with run := 0 } else x)
  ∧ ∀ (s : State) (t : Trunk) (k : Option Nat),
    let p := s.port t
    let x := p.lock
    let v := if p.state = .align ∨ p.state = .running then s.countEvent t .headError else s
    (x.held = true → x.expected ≠ some p.rxPos → s.lockArrival t k = s)
    ∧ (x.held = true → x.expected = some p.rxPos → k.isSome = true → k = x.remoteK →
      s.lockArrival t k = { s with ports := s.ports.set t { p with lock := { x with
        headErrors := 0, expected := some (p.rxPos + x.remoteK.getD 0) } } })
    ∧ (x.held = true → x.expected = some p.rxPos → k = none ∨ k ≠ x.remoteK → x.headErrors + 1 < 3 →
      ((s.lockArrival t k).port t).state = p.state ∧ ((s.lockArrival t k).port t).lock = { x with
        headErrors := x.headErrors + 1, expected := some (p.rxPos + x.remoteK.getD 0) }
      ∧ s.lockArrival t k = { v with ports := s.ports.set t { p with lock := ((s.lockArrival t k).port t).lock } })
    ∧ (x.held = true → x.expected = some p.rxPos → k = none ∨ k ≠ x.remoteK → 3 ≤ x.headErrors + 1 →
      ((s.lockArrival t k).port t).lock = ⟨false, none, none, 0, 0, x.peerLocked⟩
      ∧ ((s.lockArrival t k).port t).state = (if p.state = .running then .resync else p.state)
      ∧ (p.state = .running → ((s.lockArrival t k).sup t).resync = some ⟨s.now, p.config.resyncTimeout * 1000000⟩
        ∧ ((s.lockArrival t k).sli.latches.trunk.get t).resync = true)
      ∧ (let w : State := { v with ports := s.ports.set t { p with lock := ⟨false, none, none, 0, 0, x.peerLocked⟩ } }
        (p.state ≠ .running → s.lockArrival t k = w)
        ∧ (p.state = .running → s.lockArrival t k = { w with
          ports := w.ports.set t { w.port t with state := .resync }
          sups := w.sups.set t { w.sup t with resync := some ⟨s.now, p.config.resyncTimeout * 1000000⟩ }
          sli := w.sli.latchTrunk t .resync true })))
    ∧ (x.held = false → p.state = .hunt ∨ p.state = .align →
      let y := x.seek p.rxPos k
      let z : Lock := if y.run = 3 then { y with held := true, headErrors := 0 } else y
      s.lockArrival t k = { s with ports := s.ports.set t { p with lock := z } })
    ∧ (x.held = false → p.state = .resync → (x.seek p.rxPos k).run ≠ 2 →
      s.lockArrival t k = { s with ports := s.ports.set t { p with lock := x.seek p.rxPos k } })
    ∧ (x.held = false → p.state = .resync → (x.seek p.rxPos k).run = 2 →
      s.lockArrival t k = { s with
        ports := s.ports.set t { p with
          state := .running, lock := { x.seek p.rxPos k with held := true, headErrors := 0 } }
        sups := s.sups.set t { s.sup t with resync := none } })

/-- FILL_RECEIVED and PROBE_RECEIVED from the expected peer (R93, R94, R100, R102, R103). Under the recorded
incarnation, or as the first that names one: it is recorded; a FILL with READY moves HUNT to ALIGN; either moves DOWN to
HUNT; in FAULTED either only counts as heard; a PROBE sets peer-hears; a FILL right behind a matching HEAD of a peer
seen running restarts the trunk. Under a changed incarnation (R93, R153): the inbound records are cleared but for their
queues, which keep the entry of an APPLY in flight (log 43), and leave the slot wait list (R145, log 31); the entries
being rebuilt give up what they hold; a trunk in RUNNING or RESYNC makes a protocol restart, after which it waits in
HUNT, and a PROBE still sets peer-hears (log 9); any other acts on the frame as before. From another site either is only
counted and reported to the supervisor (R92, R160), and in OFF and TEST it is ignored and only counted. -/
def Obligations.FillAndProbeHeard : Prop :=
  (∀ (s : State) (t : Trunk) (f : FillFrame), (s.port t).state ≠ .off → (s.port t).state ≠ .test →
    (s.port t).config.peer = some f.site.toNat →
    ((s.port t).recorded = none ∨ (s.port t).recorded = some f.incarnation) → ∃ u,
      exec (.fillReceived t f) s = .next u
      ∧ (u.port t).recorded = some f.incarnation
      ∧ (u.port t).rxPos = (s.port t).rxPos + 1 ∧ (u.port t).prevHead = false
      ∧ ((s.port t).state = .hunt → f.ready = true → (u.port t).state = .align
        ∧ (u.sup t).resync = some ⟨s.now, (s.port t).config.resyncTimeout * 1000000⟩)
      ∧ ((s.port t).state = .hunt → f.ready = false → (u.port t).state = .hunt)
      ∧ ((s.port t).state = .down → (u.port t).state = .hunt ∧ (u.port t).heard = true)
      ∧ ((s.port t).state = .faulted → (u.port t).state = .faulted ∧ (u.port t).heard = true)
      ∧ ((s.port t).state = .running ∨ (s.port t).state = .resync → (s.port t).prevHead = true →
        (s.port t).peerSeenRunning = true → (u.port t).state = .hunt ∧ (u.port t).store = []
        ∧ (u.port t).stats.protocolRestarts = (s.port t).stats.protocolRestarts + 1)
      ∧ u.now = s.now ∧ u.clock = s.clock ∧ u.buckets = s.buckets)
  ∧ (∀ (s : State) (t : Trunk) (f : ProbeFrame), (s.port t).state ≠ .off → (s.port t).state ≠ .test →
    (s.port t).config.peer = some f.site.toNat →
    ((s.port t).recorded = none ∨ (s.port t).recorded = some f.incarnation) → ∃ u,
      exec (.probeReceived t f) s = .next u
      ∧ (u.port t).recorded = some f.incarnation
      ∧ (u.port t).rxPos = (s.port t).rxPos + 1 ∧ (u.port t).prevHead = false ∧ (u.port t).peerHears = f.heard
      ∧ ((s.port t).state = .down → (u.port t).state = .hunt ∧ (u.port t).heard = true)
      ∧ ((s.port t).state = .faulted → (u.port t).state = .faulted ∧ (u.port t).heard = true)
      ∧ u.now = s.now ∧ u.clock = s.clock ∧ u.buckets = s.buckets ∧ u.journal = s.journal ∧ u.apply = s.apply)
  ∧ (∀ (s : State) (t : Trunk) (f : FillFrame) (r : Stamp), (s.port t).state ≠ .off → (s.port t).state ≠ .test →
    (s.port t).config.peer = some f.site.toNat → (s.port t).recorded = some r → r ≠ f.incarnation →
    Table.wf .reset s.apply.records = true → ∃ u,
      exec (.fillReceived t f) s = .next u
      ∧ (u.port t).recorded = some f.incarnation ∧ (u.port t).rxPos = (s.port t).rxPos + 1 ∧ InboundCleared s u t
      ∧ ((s.port t).state = .running ∨ (s.port t).state = .resync → (u.port t).state = .hunt ∧ (u.port t).store = []
        ∧ (u.port t).stats.protocolRestarts = (s.port t).stats.protocolRestarts + 1)
      ∧ ((s.port t).state = .hunt → f.ready = true → (u.port t).state = .align
        ∧ (u.sup t).resync = some ⟨s.now, (s.port t).config.resyncTimeout * 1000000⟩)
      ∧ ((s.port t).state = .hunt → f.ready = false → (u.port t).state = .hunt)
      ∧ ((s.port t).state = .align → (u.port t).state = .align)
      ∧ ((s.port t).state = .down → (u.port t).state = .hunt ∧ (u.port t).heard = true)
      ∧ ((s.port t).state = .faulted → (u.port t).state = .faulted ∧ (u.port t).heard = true)
      ∧ u.now = s.now ∧ u.clock = s.clock ∧ u.buckets = s.buckets)
  ∧ (∀ (s : State) (t : Trunk) (f : FillFrame) (g : ProbeFrame),
    ((s.port t).state = .off → exec (.fillReceived t f) s = .next s ∧ exec (.probeReceived t g) s = .next s)
    ∧ ((s.port t).state = .test →
      let s1 : State := { s with ports := s.ports.set t { s.port t with
        rxPos := (s.port t).rxPos + 1
        stats := { (s.port t).stats with framesReceived := (s.port t).stats.framesReceived + 1 } } }
      exec (.fillReceived t f) s = .next s1 ∧ exec (.probeReceived t g) s = .next s1))
  ∧ (∀ (s : State) (t : Trunk) (site : Byte) (i : Stamp), (s.port t).state ≠ .off → (s.port t).state ≠ .test →
    (s.port t).config.peer ≠ some site.toNat →
    let own := s.clock.site == some site.toNat
    let u := (s.arrivedWith t (own && s.clock.incarnation == some i) (!own) false).passedLock t
    (∀ ready, exec (.fillReceived t ⟨site, i, ready⟩) s = .next u)
    ∧ ∀ heard, exec (.probeReceived t ⟨site, i, heard⟩) s = .next u)
  ∧ (∀ (s : State) (t : Trunk) (site : Byte) (i : Stamp), (s.port t).state ≠ .off → (s.port t).state ≠ .test →
    (s.port t).config.peer = some site.toNat →
    let p := s.port t
    let looped := s.clock.site == some site.toNat && s.clock.incarnation == some i
    let restarts := (p.state = .running ∨ p.state = .resync) ∧ p.recorded ≠ none ∧ p.recorded ≠ some i
    ∃ v, IncarnationTaken (s.arrivedWith t looped false (!looped)) v t i
      ∧ (let u := v.passedLock t
        let heardIn : TrunkState → State := fun st =>
          { u with ports := u.ports.set t { u.port t with state := st, heard := true } }
        (∀ ready, exec (.fillReceived t ⟨site, i, ready⟩) s = .next
          (if restarts then v.startedOver t
          else match p.state with
            | .hunt => if ready = true then u.aligned t else u
            | .down => heardIn .hunt
            | .faulted => heardIn .faulted
            | .align => u
            | _ => if p.prevHead = true ∧ p.peerSeenRunning = true then u.startedOver t else u))
        ∧ ∀ heard, exec (.probeReceived t ⟨site, i, heard⟩) s = .next
          (let z : State := if restarts then v.startedOver t
            else match p.state with
              | .hunt => heardIn .hunt
              | .down => heardIn .hunt
              | .faulted => heardIn .faulted
              | _ => u
          { z with ports := z.ports.set t { z.port t with peerHears := heard } })))
  ∧ (∀ (s : State) (t : Trunk) (site : Byte) (i : Stamp), (s.port t).state ∈ [.align, .running, .resync] →
    (s.port t).config.peer = some site.toNat → ((s.port t).recorded = none ∨ (s.port t).recorded = some i) →
    let looped := s.clock.site == some site.toNat && s.clock.incarnation == some i
    let s1 := s.arrivedWith t looped false (!looped)
    let u := State.passedLock { s1 with ports := s1.ports.set t { s1.port t with recorded := some i } } t
    (∀ ready, ¬ ((s.port t).state ≠ .align ∧ (s.port t).prevHead = true ∧ (s.port t).peerSeenRunning = true) →
      exec (.fillReceived t ⟨site, i, ready⟩) s = .next u)
    ∧ ∀ heard, exec (.probeReceived t ⟨site, i, heard⟩) s =
      .next { u with ports := u.ports.set t { u.port t with peerHears := heard } })
  ∧ ∀ (s : State) (t : Trunk) (f : ProbeFrame) (r : Stamp), (s.port t).state ≠ .off → (s.port t).state ≠ .test →
    (s.port t).config.peer = some f.site.toNat → (s.port t).recorded = some r → r ≠ f.incarnation →
    Table.wf .reset s.apply.records = true → ∃ u,
      exec (.probeReceived t f) s = .next u
      ∧ (u.port t).recorded = some f.incarnation ∧ (u.port t).rxPos = (s.port t).rxPos + 1 ∧ (u.port t).peerHears = f.heard
      ∧ InboundCleared s u t
      ∧ ((s.port t).state = .running ∨ (s.port t).state = .resync → (u.port t).state = .hunt ∧ (u.port t).store = []
        ∧ (u.port t).stats.protocolRestarts = (s.port t).stats.protocolRestarts + 1)
      ∧ ((s.port t).state = .hunt ∨ (s.port t).state = .align → (u.port t).state = (s.port t).state)
      ∧ ((s.port t).state = .down → (u.port t).state = .hunt ∧ (u.port t).heard = true)
      ∧ ((s.port t).state = .faulted → (u.port t).state = .faulted ∧ (u.port t).heard = true)
      ∧ u.now = s.now ∧ u.clock = s.clock ∧ u.buckets = s.buckets

/-- INVALID_FRAME_RECEIVED outside OFF and TEST: a receive position, a frame received, an arrival that is not valid, and
FRAME-CHECK, which stays at 255 and latches COUNTER-SAT with its report (R82, R156, R157, R160; the order of the reports:
log 22); then the arrival goes by the lock; in OFF nothing. What an event of any counter does. -/
def Obligations.InvalidFrameCounted : Prop :=
  (∀ (s : State) (t : Trunk) (c : CounterName),
    let x := s.sup t
    (x.counters.get c < 255 → s.countEvent t c = { s with sups := s.sups.set t { x with counters := match c with
      | .frameCheck => { x.counters with frameCheck := x.counters.frameCheck + 1 }
      | .headError => { x.counters with headError := x.counters.headError + 1 }
      | .resend => { x.counters with resend := x.counters.resend + 1 } } })
    ∧ (255 ≤ x.counters.get c → s.countEvent t c = { s with sli := s.sli.saturated t c 1 }))
  ∧ (∀ x : Counters, x.get .frameCheck = x.frameCheck ∧ x.get .headError = x.headError ∧ x.get .resend = x.resend)
  ∧ (∀ (s : State) (t : Trunk), (s.port t).state = .off → exec (.invalidFrameReceived t) s = .next s)
  ∧ ∀ (s : State) (t : Trunk), (s.port t).state ≠ .off → (s.port t).state ≠ .test → ∃ u,
    exec (.invalidFrameReceived t) s = .next u
    ∧ (let s1 := s.arrivedWith t false false false
      let s2 : State := { s1 with sups := s1.sups.set t { s1.sup t with
        tally := { (s1.sup t).tally with invalid := (s1.sup t).tally.invalid + 1 } } }
      u = (s2.countEvent t .frameCheck).passedLock t)
    ∧ (u.port t).rxPos = (s.port t).rxPos + 1
    ∧ (u.port t).stats = { (s.port t).stats with framesReceived := (s.port t).stats.framesReceived + 1 }
    ∧ (u.sup t).tally = { (s.sup t).tally with
      arrivals := (s.sup t).tally.arrivals + 1, invalid := (s.sup t).tally.invalid + 1 }
    ∧ ((s.sup t).counters.frameCheck < 255 → (u.sup t).counters.frameCheck = (s.sup t).counters.frameCheck + 1)
    ∧ (255 ≤ (s.sup t).counters.frameCheck → (u.sup t).counters.frameCheck = (s.sup t).counters.frameCheck
      ∧ (u.sli.latches.trunk.get t).counterSat = true)
    ∧ (u.port t).store = (s.port t).store ∧ (u.port t).reorder = (s.port t).reorder
    ∧ (u.port t).expectedFrame = (s.port t).expectedFrame ∧ (u.port t).recorded = (s.port t).recorded
    ∧ (∀ v, v ≠ t → u.port v = s.port v ∧ u.sup v = s.sup v) ∧ u.now = s.now ∧ u.clock = s.clock
    ∧ u.buckets = s.buckets ∧ u.journal = s.journal ∧ u.map = s.map ∧ u.body = s.body ∧ u.apply = s.apply

/-- SERVICE_RECEIVED in RUNNING and RESYNC (R126 to R128, R170): every frame at or below R or marked leaves the
retransmit store and the frames-out count of its entry (R70, R123); of the others those overtaken join the resend queue,
each one a RESEND event, which at 255 queues its report (R124, R156, R157; log 22); the kept received-through only rises
(an R of none raises nothing: log 24); then the entry acknowledgements are taken in order. In OFF nothing happens and in
TEST the frame is only counted (R82, R88, R105); elsewhere it is counted, marked and passed by the lock (R92); with more than 1,000 acknowledgements it is not valid (R195, log 28). -/
def Obligations.ServiceRemovesAcknowledged : Prop :=
  (∀ (s : State) (t : Trunk) (f : ServiceFrame), (s.port t).state = .running ∨ (s.port t).state = .resync →
    f.acks.length ≤ 1000 → ∃ u,
    exec (.serviceReceived t f) s = .next u
    ∧ (let p := s.port t
      let base := match f.through with
        | none => 0
        | some r => r + 1
      let marked := fun n => base ≤ n ∧ f.marks.getD (n - base) false = true
      let covered := fun n => n < base ∨ marked n
      let joins := match (p.store.filter fun x => decide (marked x.number)).getLast? with
        | none => 0
        | some m => p.store.countP fun x =>
          decide (x.number < m.number ∧ ¬ covered x.number ∧ x.lastSend < m.firstSend ∧ x.queued = false)
      let old := (s.sup t).counters.resend
      let overtaken := fun (x : SentFrame) => ∃ xs m ys, p.store = xs ++ m :: ys ∧ marked m.number
        ∧ (∀ y ∈ ys, ¬ marked y.number) ∧ x.number < m.number ∧ x.lastSend < m.firstSend
      (old ≤ 255 → (u.sup t).counters.resend = min 255 (old + joins)
        ∧ (255 < old + joins → (u.sli.latches.trunk.get t).counterSat = true)
        ∧ u.sli = { (((s.arrivedWith t false false true).passedLock t).sli.saturated t .resend (old + joins - 255)) with
          stats := u.sli.stats })
      ∧ (f.acks = [] → u.journal.entries = s.journal.entries.map (fun e => { e with
        framesOut := e.framesOut - p.store.countP (fun x => decide (covered x.number ∧ x.handle = ⟨e.index, e.gen⟩)) })
        ∧ u.journal.gens = s.journal.gens ∧ u.buckets = s.buckets ∧ u.map = s.map ∧ u.body = s.body)
      ∧ (∀ x ∈ (u.port t).store, ¬ covered x.number)
      ∧ (∀ x ∈ p.store, ¬ covered x.number → x.queued = true → x ∈ (u.port t).store)
      ∧ (∀ x ∈ p.store, ¬ covered x.number → x.queued = false → ¬ overtaken x → x ∈ (u.port t).store)
      ∧ (∀ x ∈ p.store, ¬ covered x.number → overtaken x → { x with queued := true } ∈ (u.port t).store)
      ∧ (∀ y ∈ (u.port t).store, ∃ x ∈ p.store, y = x ∨ y = { x with queued := true })
      ∧ (u.port t).peerSeenRunning = true ∧ (u.port t).rxPos = p.rxPos + 1
      ∧ (u.port t).stats.framesReceived = p.stats.framesReceived + 1
      ∧ (let rise := match f.through, p.peerThrough with
          | none, _ => false
          | some _, none => true
          | some r, some k => decide (k < r)
        (rise = true → (u.port t).peerThrough = f.through ∧ (u.port t).peerThroughAt = s.now)
        ∧ (rise = false → (u.port t).peerThrough = p.peerThrough ∧ (u.port t).peerThroughAt = p.peerThroughAt)
        ∧ ((u.port t).store = [] → (u.sup t).stall = none)
        ∧ ((u.port t).store ≠ [] → rise = true →
          (u.sup t).stall = some ⟨s.now, p.config.stallTime * 1000000000⟩)
        ∧ ((u.port t).store ≠ [] → rise = false → (u.sup t).stall = (s.sup t).stall)))
    ∧ (∀ v, v ≠ t → u.port v = s.port v ∧ u.sup v = s.sup v) ∧ u.now = s.now ∧ u.clock = s.clock ∧ u.apply = s.apply)
  ∧ (∀ (s v : State) (t : Trunk) (f : ServiceFrame), (s.port t).state = .running ∨ (s.port t).state = .resync →
    f.acks.length ≤ 1000 → exec (.serviceReceived t { f with acks := [] }) s = .next v →
    exec (.serviceReceived t f) s = .next (f.acks.foldl (State.entryAck t) v))
  ∧ (∀ (s : State) (t : Trunk) (f : ServiceFrame), (s.port t).state ∈ [.hunt, .align, .down, .faulted] →
    f.acks.length ≤ 1000 → ∃ u, exec (.serviceReceived t f) s = .next u
      ∧ u = (s.arrivedWith t false false (decide ((s.port t).state = .hunt ∨ (s.port t).state = .align))).passedLock t
      ∧ (u.port t).store = (s.port t).store ∧ u.map = s.map ∧ u.body = s.body ∧ u.apply = s.apply
      ∧ (u.port t).peerSeenRunning = (s.port t).peerSeenRunning ∧ (u.port t).rxPos = (s.port t).rxPos + 1
      ∧ u.journal = s.journal ∧ u.buckets = s.buckets)
  ∧ (∀ (s : State) (t : Trunk) (f : ServiceFrame), f.acks.length ≤ 1000 →
    ((s.port t).state = .off → exec (.serviceReceived t f) s = .next s)
    ∧ ((s.port t).state = .test → exec (.serviceReceived t f) s = .next (s.countedOnly t)))
  ∧ ∀ (s : State) (t : Trunk) (f : ServiceFrame), 1000 < f.acks.length →
    exec (.serviceReceived t f) s = exec (.invalidFrameReceived t) s

/-- Entry acknowledgements: the four cases that discard one, which then only counts (R26, whole; a bucket id above 4,095
is read as an ABSENT bucket: log 37), and what an accepted one does (R27): the slot leaves the entries it covers, and an
entry left without a slot leaves the journal, with its slots, its pin and its map record's unsealed field (R29, R54,
R55); the bucket owes the slot no rebase, and a DRAINING one then without entries is ABSENT, its targets empty, its band
EXPRESS and no rebase owed (R6); the refill queue follows (R72). -/
def Obligations.EntryAcknowledgements : Prop :=
  ∀ (s : State) (t : Trunk) (a : EntryAck),
    let r := s.bucket a.bucket
    let bad := r.state = .absent ∨ a.epoch ≠ r.epochs.get t ∨ r.nextSeq - 1 < a.seq ∨ r.targets.get t = false
    let covered := fun (e : JEntry) =>
      e.bucket == a.bucket && (e.peers.get t).isSome && e.seq.any fun n => decide (n ≤ a.seq)
    (bad → s.entryAck t a = { s with sli := { s.sli with
      stats := { s.sli.stats with badAcks := s.sli.stats.badAcks + 1 } } })
    ∧ (¬ bad → (∀ e ∈ s.journal.entries, covered e = false) → s.entryAck t a = s)
    ∧ (¬ bad → EntriesOk s.journal.entries → (∃ e ∈ s.journal.entries, covered e = true) →
      let u := s.entryAck t a
      let off := fun (e : JEntry) => { e with peers := e.peers.set t none }
      let gone := s.journal.entries.filter fun e => covered e && (off e).noPending
      u.journal.entries = (s.journal.entries.map fun e => if covered e then off e else e).filter (fun e => !e.noPending)
      ∧ u.map = mapAfter s.map gone ∧ u.body = { bodyAfter s.body gone with refillQueue := u.body.refillQueue }
      ∧ RefillCurrent u ∧ u.journal.gens = s.journal.gens
      ∧ (let drained := r.state = .draining ∧ ∀ e ∈ u.journal.entries, e.bucket ≠ a.bucket
        (drained → u.bucket a.bucket = { r with
          state := .absent, targets := .all false, band := .express, rebase := .all false })
        ∧ (¬ drained → u.bucket a.bucket = { r with rebase := r.rebase.set t false }))
      ∧ (∀ b, b ≠ a.bucket → u.bucket b = s.bucket b)
      ∧ (u.port t).stats.entriesAcked = (s.port t).stats.entriesAcked + BitVec.ofNat 32 (s.journal.entries.countP covered)
      ∧ (∀ v, v ≠ t → u.port v = s.port v)
      ∧ u.now = s.now ∧ u.clock = s.clock ∧ u.apply = s.apply ∧ u.sups = s.sups ∧ u.sli = s.sli)

/-- CARRY_RECEIVED in RUNNING and RESYNC by Table 7-1 (R132): a frame already released, held, or out of reach, or
numbered 2^48 - 1, changes no reorder store and no inbound record; any other is held at its place and release is tried.
The store is empty with E at 0 after power-on reset, PART restart and trunk restart. In OFF nothing happens and in TEST
the frame is only counted (R82, R88, R105); elsewhere it is counted, marked and passed by the lock (R92). Release (R133, R139, R141, R91) goes through the held frames in order: a piece taken lets frame E leave and E
rise, one that waits stops it, and a STRAY-PIECE, a SEQ-GAP or a BODY-MISMATCH makes a protocol restart, counted. A
SEGMENT by R142: the next of the entry being rebuilt and of the right length, the next of a duplicate being passed over
(whose byte count is not read: log 39), else a STRAY-PIECE (a bucket above 4,095: log 33). A complete entry joins its
queue, or is a BODY-MISMATCH and discarded (R143). -/
def Obligations.CarryPlaced : Prop :=
  (∀ (s : State) (t : Trunk), (s.port t).reorder.lookup (s.port t).expectedFrame = none → s.release t = s)
  ∧ (∀ (s : State) (t : Trunk) (payload : List Byte),
    (s.port t).reorder.lookup (s.port t).expectedFrame = some payload →
    (∀ s1, s.dispatch t payload = .taken s1 →
      let p := s1.port t
      s.release t = State.release { s1 with ports := s1.ports.set t { p with
        reorder := p.reorder.filter fun x => x.1 != p.expectedFrame
        expectedFrame := p.expectedFrame + 1 } } t)
    ∧ (∀ s1, s.dispatch t payload = .waits s1 → s.release t = s1)
    ∧ ∀ s1, s.dispatch t payload = .error s1 →
      let p := s1.port t
      s.release t = State.trunkRestart { s1 with ports := s1.ports.set t { p with
        stats := { p.stats with protocolRestarts := p.stats.protocolRestarts + 1 } } } t .hunt none)
  ∧ (∀ (s : State) (t : Trunk) (payload : List Byte),
    (∀ n, parsePiece payload = .notice n → s.dispatch t payload = s.dispatchNotice t n)
    ∧ (∀ g, parsePiece payload = .segment g → s.dispatch t payload = s.dispatchSegment t g)
    ∧ (parsePiece payload = .stray → s.dispatch t payload = .error s))
  ∧ (∀ (s : State) (t : Trunk) (g : Segment),
    let k := t.index * 4096 + g.bucket
    let r := s.inRec k
    let next := fun (e : InEntry) => r.reassembly = some e ∧ e.notice.seq = g.seq ∧ e.received = g.index
      ∧ g.count = min 8128 (e.notice.bodyLength - g.index * 8128) ∧ g.bytes.length = g.count
    let passes := fun (y : Skip) => r.skip = some y ∧ y.seq = g.seq ∧ y.passed = g.index
    let p := s.port t
    (4096 ≤ g.bucket → s.dispatchSegment t g = .error s)
    ∧ (g.bucket < 4096 →
      (∀ e, next e →
        let e1 := { e with
          received := e.received + 1, bytes := e.bytes ++ g.bytes, crc := photoFold e.crc g.bytes }
        (e.received + 1 < e.notice.segments →
          s.dispatchSegment t g = .taken (s.setInRec k { r with reassembly := some e1 }))
        ∧ (e.notice.segments ≤ e.received + 1 → s.dispatchSegment t g = s.completeEntry k e1))
      ∧ (∀ y, (∀ e, ¬ next e) → passes y → s.dispatchSegment t g = .taken (State.setInRec { s with
        ports := s.ports.set t { p with stats := { p.stats with duplicates := p.stats.duplicates + 1 } } } k { r with
          skip := if y.passed + 1 < y.segments then some { y with passed := y.passed + 1 } else none }))
      ∧ ((∀ e, ¬ next e) → (∀ y, ¬ passes y) → s.dispatchSegment t g = .error s)))
  ∧ (∀ (s : State) (k : Nat) (e : InEntry),
    let r := s.inRec k
    (photoFinish e.crc = e.notice.check → s.completeEntry k e = .taken (State.forwardTest (s.setInRec k { r with
      reassembly := none, queue := r.queue ++ [e], expected := r.expected + 1 }) k))
    ∧ (photoFinish e.crc ≠ e.notice.check →
      s.completeEntry k e = .error (State.discardInbound (s.setInRec k { r with reassembly := none }) e)))
  ∧ (∀ (s : State) (t : Trunk) (n : Nat) (payload : List Byte), (s.port t).state = .running ∨ (s.port t).state = .resync →
    let p := s.port t
    let out := n < p.expectedFrame ∨ (p.reorder.lookup n).isSome = true ∨ p.expectedFrame + 32768 ≤ n ∨ n = 281474976710655
    let arrived := (s.arrivedWith t false false true).passedLock t
    (out → ∃ u, exec (.carryReceived t n payload) s = .next u ∧ u = arrived
      ∧ (u.port t).reorder = p.reorder ∧ (u.port t).expectedFrame = p.expectedFrame ∧ u.apply = s.apply ∧ u.map = s.map
      ∧ u.body = s.body ∧ u.journal = s.journal ∧ u.clock = s.clock ∧ (u.port t).rxPos = p.rxPos + 1)
    ∧ (¬ out → ∃ u : State, exec (.carryReceived t n payload) s = .next (u.release t)
      ∧ u = { arrived with ports := arrived.ports.set t { arrived.port t with reorder := p.reorder.put n payload } }
      ∧ (u.port t).reorder.lookup n = some payload
      ∧ (∀ m, m ≠ n → (u.port t).reorder.lookup m = p.reorder.lookup m)
      ∧ (u.port t).expectedFrame = p.expectedFrame ∧ u.apply = s.apply ∧ u.map = s.map ∧ u.body = s.body
      ∧ u.journal = s.journal ∧ u.clock = s.clock ∧ (u.port t).rxPos = p.rxPos + 1
      ∧ (n ≠ p.expectedFrame → p.reorder.lookup p.expectedFrame = none → u.release t = u)))
  ∧ (∀ (s : State) (t : Trunk) (n : Nat) (payload : List Byte), (s.port t).state ∈ [.hunt, .align, .down, .faulted] →
    ∃ u, exec (.carryReceived t n payload) s = .next u
      ∧ u = (s.arrivedWith t false false (decide ((s.port t).state = .hunt ∨ (s.port t).state = .align))).passedLock t
      ∧ (u.port t).reorder = (s.port t).reorder
      ∧ (u.port t).expectedFrame = (s.port t).expectedFrame ∧ u.apply = s.apply ∧ (u.port t).rxPos = (s.port t).rxPos + 1)
  ∧ (∀ (s : State) (t : Trunk) (n : Nat) (payload : List Byte),
    ((s.port t).state = .off → exec (.carryReceived t n payload) s = .next s)
    ∧ ((s.port t).state = .test → exec (.carryReceived t n payload) s = .next (s.countedOnly t)))
  ∧ (∀ t, (State.reset.port t).reorder = [] ∧ (State.reset.port t).expectedFrame = 0)
  ∧ (∀ (s : State) (t : Trunk), (s.partRestart.port t).reorder = [] ∧ (s.partRestart.port t).expectedFrame = 0)
  ∧ ∀ (s : State) (t : Trunk) (goal : TrunkState) (cause : Option Signature),
    ((s.trunkRestart t goal cause).port t).reorder = [] ∧ ((s.trunkRestart t goal cause).port t).expectedFrame = 0

/-- A NOTICE is malformed in the cases of R136, and is then a STRAY-PIECE; every other one is classified by Table 7-4,
whatever its REBASE flag. (A bucket above 4,095 is a STRAY-PIECE: log 33.) NOTICE_RETRY tries the head of the reorder
store again (R139): outside RUNNING and RESYNC (log 3) or without room nothing changes; with room the NOTICE is accepted
(R140); else it is the release of R133, which statement CarryPlaced gives. The records each case leaves: adoption (R137), a duplicate passed over (R138), acceptance (R139, R140), whose
stamp is merged and whose object's record is found or inserted and pinned, unless the map has no room and MAP-BLOCKED is
latched (R52, R54). Writing one record, and what an inbound entry releases when it is discarded (R79, R54, R144). -/
def Obligations.NoticeClassified : Prop :=
  (∀ (s : State) (k : Nat) (r : InRec), (∀ j, (s.setInRec k r).inRec j = if j = k then r else s.inRec j)
    ∧ s.setInRec k r = { s with apply := { s.apply with records := (s.setInRec k r).apply.records } })
  ∧ (∀ (s : State) (e : InEntry), s.discardInbound e = { s with
    body := { s.body with inUse := s.body.inUse - e.slots }
    map := if e.mapped then mapChanged s.map e.notice.bucket e.notice.digest fun x => { x with pins := x.pins - 1 }
      else s.map
    apply := { s.apply with backlog := s.apply.backlog - 1 } })
  ∧ (∀ (s : State) (k : Nat) (n : Notice),
    let r := s.inRec k
    let v := match r.reassembly with
      | none => s
      | some e => s.discardInbound e
    s.adopt k n = v.setInRec k { r with
      reassembly := none
      skip := none
      queue := r.queue.map fun e => { e with current := false }
      epoch := some n.epoch
      expected := n.seq
      applied := n.seq - 1 })
  ∧ (∀ (s : State) (t : Trunk) (k : Nat) (n : Notice),
    let r := s.inRec k
    let p := s.port t
    s.duplicateNotice t k n = State.setInRec { s with
      ports := s.ports.set t { p with stats := { p.stats with duplicates := p.stats.duplicates + 1 } } } k { r with
        ackOwed := r.ackOwed || decide (n.seq ≤ r.applied)
        skip := if 0 < n.segments then some ⟨n.seq, n.segments, 0⟩ else none })
  ∧ (∀ (s : State) (k : Nat) (n : Notice),
    let r := s.inRec k
    let slots := if n.kind = 1 then (n.bodyLength + 8127) / 8128 else 0
    let room := s.apply.backlog < 16384 ∧ s.body.inUse + slots ≤ 196608
    let mapped := s.map.any (isObj n.bucket n.digest) || decide (s.map.length < 65536) || s.map.any (fun x => x.pins == 0)
    let v := State.merge { s with
      apply := { s.apply with backlog := s.apply.backlog + 1 }
      body := { s.body with inUse := s.body.inUse + slots } } n.stamp
    let e : InEntry := ⟨n, 0, slots, [], photoStart, mapped, true⟩
    (¬ room → s.acceptNotice k n = .waits s)
    ∧ (room → ∃ w : State,
      (mapped = true → w = { v with map := w.map }
        ∧ MapTook s.map n.bucket n.digest (fun x => { x with pins := x.pins + 1 }) w.map)
      ∧ (mapped = false → w = { v with sli := v.sli.latch .mapBlocked })
      ∧ (0 < n.segments → s.acceptNotice k n = .taken (w.setInRec k { r with skip := none, reassembly := some e }))
      ∧ (n.segments = 0 → s.acceptNotice k n = State.completeEntry (w.setInRec k { r with skip := none }) k e)))
  ∧ (∀ n : Notice, n.malformed = true ↔
    (n.kind < 1 ∨ 4 < n.kind) ∨ 268435456 < n.bodyLength ∨ (n.kind ≠ 1 ∧ n.bodyLength ≠ 0)
    ∨ (n.kind = 1 ∧ n.segments ≠ (n.bodyLength + 8127) / 8128) ∨ (n.kind ≠ 1 ∧ n.segments ≠ 0)
    ∨ ¬ (n.patches.map fun p => p.field).Nodup ∨ (∃ p ∈ n.patches, 31 < p.field ∨ 48 < p.value.length)
    ∨ 32 < n.patches.length ∨ ((n.kind = 3 ∨ n.kind = 4) ∧ n.patches ≠ []) ∨ n.seq = 0 ∨ 4294967294 < n.seq)
  ∧ (∀ (s : State) (t : Trunk) (n : Notice),
    let k := t.index * 4096 + n.bucket
    let r := s.inRec k
    (n.malformed = true → s.dispatchNotice t n = .error s)
    ∧ (n.malformed = false → 4096 ≤ n.bucket → s.dispatchNotice t n = .error s)
    ∧ (n.malformed = false → n.bucket < 4096 →
      (r.epoch = none ∨ r.epoch ≠ some n.epoch → s.dispatchNotice t n = (s.adopt k n).acceptNotice k n)
      ∧ (r.epoch = some n.epoch → r.reassembly.isSome = true → s.dispatchNotice t n = .error s)
      ∧ (r.epoch = some n.epoch → r.reassembly = none → n.seq = r.expected → s.dispatchNotice t n = s.acceptNotice k n)
      ∧ (r.epoch = some n.epoch → r.reassembly = none → n.seq < r.expected →
        s.dispatchNotice t n = .taken (s.duplicateNotice t k n))
      ∧ (r.epoch = some n.epoch → r.reassembly = none → r.expected < n.seq → s.dispatchNotice t n = .error s)))
  ∧ (∀ (s : State) (t : Trunk), (s.port t).state ≠ .running → (s.port t).state ≠ .resync →
    exec (.noticeRetry t) s = .next s)
  ∧ (∀ (s : State) (t : Trunk), (s.port t).state = .running ∨ (s.port t).state = .resync →
    exec (.noticeRetry t) s = .next (s.release t))
  ∧ ∀ (s : State) (t : Trunk) (payload : List Byte) (n : Notice), (s.port t).state = .running ∨ (s.port t).state = .resync →
    (s.port t).reorder.lookup (s.port t).expectedFrame = some payload → parsePiece payload = .notice n →
    n.malformed = false → n.bucket < 4096 →
    let k := t.index * 4096 + n.bucket
    let r := s.inRec k
    let slots := if n.kind = 1 then (n.bodyLength + 8127) / 8128 else 0
    r.epoch = some n.epoch → r.reassembly = none → n.seq = r.expected →
    ((16384 ≤ s.apply.backlog ∨ 196608 < s.body.inUse + slots) → exec (.noticeRetry t) s = .next s)
    ∧ (s.apply.backlog < 16384 → s.body.inUse + slots ≤ 196608 → 0 < n.segments →
      (s.port t).reorder.lookup ((s.port t).expectedFrame + 1) = none → ∃ u mapped,
      exec (.noticeRetry t) s = .next u
      ∧ u.inRec k = { r with skip := none, reassembly := some ⟨n, 0, slots, [], photoStart, mapped, true⟩ }
      ∧ (∀ j, j ≠ k → u.inRec j = s.inRec j)
      ∧ u.apply.backlog = s.apply.backlog + 1 ∧ u.body.inUse = s.body.inUse + slots ∧ u.clock = (s.merge n.stamp).clock
      ∧ (u.port t).reorder = (s.port t).reorder.filter (fun e => e.1 != (s.port t).expectedFrame)
      ∧ (u.port t).expectedFrame = (s.port t).expectedFrame + 1
      ∧ u.journal = s.journal ∧ u.buckets = s.buckets ∧ u.sups = s.sups ∧ u.now = s.now)

/-- APPLY_FORWARD (R145 to R148): a VOID passes; a STALE entry is discarded as if applied; any other entry takes the
lowest free tag and goes to the host behind its BODY-OUT records, with no other record between them (model's choice, log
44); without a slot it waits, and a record whose head cannot go forward, its queue empty among them, is left as it stands
(log 3), as is everything for a bucket above 4,095 (log 28). An entry that leaves the queue gives up its pin, its slots
and its backlog place, and its record the wait list; the next entry's forward test is made (R145, R146). That the slot
may be one handed over before, and that a record found without a slot joins the list at this step, is log 17. -/
def Obligations.ApplyForwarded : Prop :=
  (∀ (s : State) (t : Trunk) (b : Nat), 4096 ≤ b → exec (.applyForward t b) s = .next s)
  ∧ (∀ (s : State) (t : Trunk) (b : Nat), b < 4096 → (s.inRec (t.index * 4096 + b)).queue = [] →
    exec (.applyForward t b) s = .next s)
  ∧ ∀ (s : State) (t : Trunk) (b : Nat) (e : InEntry) (rest : List InEntry), b < 4096 →
    let k := t.index * 4096 + b
    let r := s.inRec k
    r.queue = e :: rest →
    let rec? := s.map.find? fun x => x.bucket == e.notice.bucket && x.digest == e.notice.digest
    let stale := e.mapped = true ∧ ∃ x st, rec? = some x ∧ x.stamp = some st ∧ e.notice.stamp.toNat < st.toNat
    let unchecked := decide (e.mapped = false) || (rec?.bind fun x => x.stamp).isNone
    let prior := e.mapped && (rec?.map fun x => x.tombstone).getD false
    let slot := k ∈ s.apply.granted ∨ s.apply.slots.length + s.apply.granted.length < 256
    let done : InRec := if e.current then { r with queue := rest, applied := e.notice.seq, ackOwed := true }
      else { r with queue := rest }
    let unpin := fun (x : ObjRec) => { x with pins := x.pins - 1 }
    let left := fun (m : List ObjRec) (x : PartStats) => State.forwardTest { s with
      apply := { (s.setInRec k done).apply with
        waitList := s.apply.waitList.filter fun j => j != k
        backlog := s.apply.backlog - 1 }
      body := { s.body with inUse := s.body.inUse - e.slots }
      map := m
      sli := { s.sli with stats := x } } k
    let others := fun (u : State) => ∀ j, j ≠ k → u.inRec j = s.inRec j
    (r.held = true ∨ r.inFlight.isSome = true → exec (.applyForward t b) s = .next s)
    ∧ (r.held = false → r.inFlight = none → e.notice.kind = 4 → ∃ u, exec (.applyForward t b) s = .next u
      ∧ u = left (if e.mapped then mapChanged s.map e.notice.bucket e.notice.digest unpin else s.map) s.sli.stats
      ∧ u.inRec k = done ∧ others u
      ∧ u.apply.backlog = s.apply.backlog - 1 ∧ u.body = { s.body with inUse := s.body.inUse - e.slots }
      ∧ u.apply.slots = s.apply.slots ∧ u.sli = s.sli ∧ u.journal = s.journal ∧ u.clock = s.clock ∧ u.ports = s.ports)
    ∧ (r.held = false → r.inFlight = none → e.notice.kind ≠ 4 → slot → stale → ∃ u, exec (.applyForward t b) s = .next u
      ∧ u = left (mapTouched s.map e.notice.bucket e.notice.digest unpin)
        { s.sli.stats with staleDiscards := s.sli.stats.staleDiscards + 1 }
      ∧ u.inRec k = done ∧ others u
      ∧ u.apply.backlog = s.apply.backlog - 1 ∧ u.body = { s.body with inUse := s.body.inUse - e.slots }
      ∧ u.apply.slots = s.apply.slots ∧ u.sli.partQueue = s.sli.partQueue
      ∧ u.sli.stats = { s.sli.stats with staleDiscards := s.sli.stats.staleDiscards + 1 }
      ∧ u.journal = s.journal ∧ u.clock = s.clock ∧ u.ports = s.ports)
    ∧ (r.held = false → r.inFlight = none → e.notice.kind ≠ 4 → slot → ¬ stale → ∃ u tag,
      exec (.applyForward t b) s = .next u
      ∧ 1 ≤ tag ∧ (∀ x ∈ s.apply.slots, x.tag ≠ tag) ∧ (∀ n, 1 ≤ n → n < tag → ∃ x ∈ s.apply.slots, x.tag = n)
      ∧ u.inRec k = { r with inFlight := some tag } ∧ others u ∧ u.apply.slots = s.apply.slots ++ [⟨tag, t, b, none⟩]
      ∧ u.apply.granted = s.apply.granted.filter (fun j => j != k)
      ∧ u.apply.waitList = s.apply.waitList.filter (fun j => j != k)
      ∧ u.map = (if e.mapped then mapTouched s.map e.notice.bucket e.notice.digest fun x => { x with
        stamp := some e.notice.stamp, tombstone := e.notice.kind == 3 } else s.map)
      ∧ u.sli.partQueue = s.sli.partQueue
        ++ (List.range ((e.notice.bodyLength + 65511) / 65512)).map (fun i => ⟨0x42#8, true, false, tag, .ok,
          beBytes 4 (i * 65512) ++ beBytes 4 e.notice.bodyLength ++ (e.bytes.drop (i * 65512)).take 65512⟩)
        ++ [applyRecord tag t e.notice unchecked prior]
      ∧ u.sli.stats.uncheckedApplies = s.sli.stats.uncheckedApplies + (if unchecked then 1 else 0)
      ∧ (e.mapped = true → rec?.isSome = true → u.findObj e.notice.bucket e.notice.digest = rec?.map fun x =>
        { x with stamp := some e.notice.stamp, tombstone := e.notice.kind == 3 })
      ∧ u.apply.backlog = s.apply.backlog ∧ u.body = s.body ∧ u.journal = s.journal ∧ u.clock = s.clock ∧ u.ports = s.ports)
    ∧ (r.held = false → r.inFlight = none → e.notice.kind ≠ 4 → ¬ slot →
      exec (.applyForward t b) s = .next { s with apply := { s.apply with
        waitList := if s.apply.waitList.contains k then s.apply.waitList else s.apply.waitList ++ [k] } })

/-- APPLY_REPLY to an outstanding APPLY, where the assembler holds no bytes (log 27) (R149, R151, R182): the tag leaves
the table, the slot is freed and handed on (R145). OK finishes the head entry, which gives up its room and its pin, and
its record the wait list, before the next entry's forward test; any other result holds the record and latches
APPLY-HELD, also for an entry kept through an incarnation change (log 43). Of an entry that a peer change took from its
record any answer releases the room and the pin, and changes no record. -/
def Obligations.ApplyAnswered : Prop :=
  ∀ (result : BitVec 16) (w : Wire) (s : State) (t : Trunk) (b : Nat), s.sli.asm.buf = [] → bodyCheck w.body = w.check →
    s.sli.tags.lookup w.tag.toNat = some .apply → b < 4096 →
    let k := t.index * 4096 + b
    let r := s.inRec k
    let x1 : Sli := { s.recordTaken.sli with tags := s.sli.tags.filter fun x => x.1 != w.tag.toNat }
    let f := s.freeSlot w.tag.toNat
    let released := fun (e : InEntry) => if e.mapped then
        mapChanged s.map e.notice.bucket e.notice.digest fun x => { x with pins := x.pins - 1 }
      else s.map
    (∀ e rest, s.apply.slots.find? (fun x => x.tag == w.tag.toNat) = some ⟨w.tag.toNat, t, b, none⟩ →
      r.queue = e :: rest → ∃ u,
        exec (.applyReply 0x40#8 result w) s = .next u
        ∧ u.sli.tags = s.sli.tags.filter (fun x => x.1 != w.tag.toNat) ∧ u.sli.partQueue = s.sli.partQueue
        ∧ u.sli.stats = s.sli.stats
        ∧ u.apply.slots = s.apply.slots.filter (fun x => x.tag != w.tag.toNat)
        ∧ (result = 0#16 →
          let done : InRec := if e.current then
              { r with queue := rest, inFlight := none, applied := e.notice.seq, ackOwed := true }
            else { r with queue := rest, inFlight := none }
          u.inRec k = done ∧ u.sli = x1 ∧ u.map = released e
          ∧ u = State.forwardTest { f with
            apply := { (f.setInRec k done).apply with
              waitList := f.apply.waitList.filter fun j => j != k
              backlog := s.apply.backlog - 1 }
            body := { s.body with inUse := s.body.inUse - e.slots }
            map := released e
            sli := x1 } k
          ∧ u.apply.backlog = s.apply.backlog - 1 ∧ u.body = { s.body with inUse := s.body.inUse - e.slots })
        ∧ (result ≠ 0#16 → u.inRec k = { r with inFlight := none, held := true }
          ∧ u = { f.setInRec k { r with inFlight := none, held := true } with sli := x1.latch .applyHeld } ∧ u.map = s.map
          ∧ u.apply.backlog = s.apply.backlog ∧ u.body = s.body ∧ u.sli = x1.latch .applyHeld
          ∧ u.sli.latches.part.applyHeld = true)
        ∧ (∀ j, j ≠ k → u.inRec j = s.inRec j)
        ∧ u.now = s.now ∧ u.clock = s.clock ∧ u.buckets = s.buckets ∧ u.journal = s.journal ∧ u.ports = s.ports
        ∧ u.sups = s.sups)
    ∧ ∀ e, s.apply.slots.find? (fun x => x.tag == w.tag.toNat) = some ⟨w.tag.toNat, t, b, some e⟩ →
      exec (.applyReply 0x40#8 result w) s = .next { s with
        sli := x1
        freeCount := f.freeCount
        apply := { f.apply with backlog := s.apply.backlog - 1 }
        body := { s.body with inUse := s.body.inUse - e.slots }
        map := released e }

/-! ## What every step keeps -/

/-- Nothing ever holds more than the part has room for: journal, map, Body Store, apply slots and backlog, retransmit
stores, report queue. -/
def Obligations.CapacitiesKept : Prop := ∀ s t : State, Capacities s → step s = .next t → Capacities t

/-- Every trunk stays in a legal state: configuration ranges, band plans, staged fields, counters, timers, fault cause.
-/
def Obligations.TrunksKept : Prop := ∀ s t : State, TrunksOk s → step s = .next t → TrunksOk t

/-- The journal and the sparse tables keep their form: no entry without a pending slot, no position twice, canonical
tables, and every frame of a reorder store between E and E + 32,767. -/
def Obligations.FormKept : Prop := ∀ s t : State, FormOk s → step s = .next t → FormOk t

/-- The invariants hold at reset. -/
def Obligations.InvariantsHoldAtReset : Prop :=
  ClockOk State.reset.clock ∧ Capacities State.reset ∧ TrunksOk State.reset ∧ FormOk State.reset

/-! ## Frames and records as bytes -/

/-- A frame as bytes: its header by Table 10-10, its payload padded with zeros, its frame check, bit by bit (Section 10.3);
the SERVICE payload by Section 10.2.1 (its reserved fields sent as 0: log 47), the test patterns by Table 5-6. Decoding the bytes of a frame gives back what it carries, for every kind
of frame and every value its fields admit. -/
def Obligations.FrameLayoutAndRoundTrip : Prop :=
  (∀ f : Frame,
    let bit := fun (b : Bool) => if b then 1 else 0
    f.header = beBytes 1 f.kind
      ++ beBytes 1 (bit f.ready + 2 * bit f.locked + 4 * bit f.alarm + 8 * bit f.heard + 16 * bit f.echo)
      ++ beBytes 1 f.site ++ beBytes 1 f.k ++ beBytes 4 f.align.toNat ++ beBytes 8 f.incarnation.toNat
      ++ beBytes 6 f.number ++ beBytes 1 f.cycle ++ [0#8] ++ beBytes 4 f.counter.toNat
    ∧ f.header.length = 28
    ∧ (f.payload.length ≤ 8160 →
      let bytes := f.header ++ f.payload ++ List.replicate (8160 - f.payload.length) 0#8
      f.toBytes = bytes ++ beBytes 4 (frameCheck bytes).toNat ∧ f.toBytes.length = 8192))
  ∧ (let step := fun (r : BitVec 32) => if r.getLsbD 0 = true then (r >>> 1) ^^^ 0xEDB88320#32 else r >>> 1
    ∀ bs : List Byte, frameCheck bs =
      bs.foldl (fun r b => Nat.repeat step 8 (r ^^^ b.setWidth 32)) 0xFFFFFFFF#32 ^^^ 0xFFFFFFFF#32)
  ∧ (∀ f : ServiceFrame, ∃ bitmap : List Byte,
    servicePayload f = beBytes 6 (f.through.getD 0xFFFFFFFFFFFF) ++ [0#8, 0#8] ++ bitmap ++ beBytes 2 f.acks.length
      ++ List.replicate 6 0#8 ++ f.acks.flatMap (fun a => beBytes 2 a.bucket ++ beBytes 2 a.epoch ++ beBytes 4 a.seq)
    ∧ bitmap.length = 32 ∧ ∀ i, i < 256 → (bitmap.getD (i / 8) 0#8).getLsbD (7 - i % 8) = f.marks.getD i false)
  ∧ (∀ (c1 c2 : BitVec 64) (f i : Nat),
    let custom := fun (c : BitVec 64) => BitVec.ofNat 8 (c.toNat / 256 ^ (7 - i % 8))
    patternByte .zeros c1 c2 f i = 0x00#8 ∧ patternByte .ones c1 c2 f i = 0xFF#8
    ∧ patternByte .alternate c1 c2 f i = (if f % 2 = 0 then 0x55#8 else 0xAA#8)
    ∧ patternByte .ramp c1 c2 f i = BitVec.ofNat 8 (224 * f + i)
    ∧ patternByte .custom c1 c2 f i = custom c1
    ∧ patternByte .customPair c1 c2 f i = (if f % 2 = 0 then custom c1 else custom c2))
  ∧ (∀ (x : Pattern) (c1 c2 : BitVec 64) (f : Nat),
    patternPayload x c1 c2 f = (List.range 8160).map (patternByte x c1 c2 f))
  ∧ ∀ t : Trunk,
    (∀ f : HeadFrame, frameCommand t (Frame.toBytes { Frame.blank 1 with
      ready := f.ready, locked := f.locked, alarm := f.alarm, site := f.site.toNat, k := f.k.toNat, align := f.align
      incarnation := f.incarnation, cycle := f.cycle.toNat }) = .headReceived t f)
    ∧ (∀ f : FillFrame, frameCommand t (Frame.toBytes { Frame.blank 4 with
      ready := f.ready, site := f.site.toNat, incarnation := f.incarnation }) = .fillReceived t f)
    ∧ (∀ f : ProbeFrame, frameCommand t (Frame.toBytes { Frame.blank 5 with
      heard := f.heard, site := f.site.toNat, incarnation := f.incarnation }) = .probeReceived t f)
    ∧ (∀ f : ServiceFrame, f.wellFormed = true → ∀ echo, frameCommand t (Frame.toBytes { Frame.blank 2 with
      echo := echo, payload := servicePayload f }) = .serviceReceived t f)
    ∧ (∀ n payload, n < 2 ^ 48 → payload.length = 8160 → frameCommand t (Frame.toBytes { Frame.blank 3 with
      number := n, payload := payload }) = .carryReceived t n payload)
    ∧ ∀ counter payload, payload.length = 8160 → frameCommand t (Frame.toBytes { Frame.blank 6 with
      counter := counter, payload := payload }) = .testFrameReceived t counter payload

/-- Pieces and records as bytes: fields most significant byte first, NOTICE and SEGMENT (Section 10.2.2), patch writes
and the SUBMIT body (Table 10-3), the change a SUBMIT makes of it (Table 1-4; the check of a body of length 0 is 0:
R64), APPLY (Table 10-6), the configuration block (Section 10.1.3), the record (Table 10-1). The record's two checks
and the check of a photo body, bit by bit (Section 10.3, R62). Reserved fields, and flag bits without use, are sent as
0 (log 47). Reading the payload of a CARRY frame gives back its piece, for every value the fields admit; a host
request's header passes the assembler's tests, and its record is the command of its kind, with its tag, body and body
check (Tables 10-1 and 10-2). -/
def Obligations.PieceAndRecordLayoutAndRoundTrip : Prop :=
  (let step := fun (r : BitVec 16) => if r.getLsbD 15 = true then (r <<< 1) ^^^ 0x1021#16 else r <<< 1
    ∀ bs : List Byte, headerCheck bs =
      bs.foldl (fun (r : BitVec 16) (b : Byte) => Nat.repeat step 8 (r ^^^ (b.setWidth 16 <<< 8))) 0xFFFF#16)
  ∧ (let step := fun (r : BitVec 32) => if r.getLsbD 0 = true then (r >>> 1) ^^^ 0x82F63B78#32 else r >>> 1
    ∀ bs : List Byte, bodyCheck bs =
      bs.foldl (fun r b => Nat.repeat step 8 (r ^^^ b.setWidth 32)) 0xFFFFFFFF#32 ^^^ 0xFFFFFFFF#32)
  ∧ (let step := fun (r : BitVec 64) => if r.getLsbD 0 = true then (r >>> 1) ^^^ 0xB4E5A3D2C1F08967#64 else r >>> 1
    photoStart = 0xFFFFFFFFFFFFFFFF#64
    ∧ (∀ (r : BitVec 64) (bs : List Byte),
      photoFold r bs = bs.foldl (fun r b => Nat.repeat step 8 (r ^^^ b.setWidth 64)) r)
    ∧ (∀ r : BitVec 64, photoFinish r = r ^^^ 0xFFFFFFFFFFFFFFFF#64) ∧ photoFinish photoStart = 0#64)
  ∧ (∀ n v : Nat, beBytes 0 v = [] ∧ beBytes (n + 1) v = BitVec.ofNat 8 (v / 256 ^ n) :: beBytes n v)
  ∧ (∀ (before after : List Byte) (n v : Nat), v < 256 ^ n →
    fieldAt (before ++ beBytes n v ++ after) before.length n = v)
  ∧ (∀ n : Notice, noticePayload n = [1#8] ++ beBytes 1 n.kind ++ beBytes 1 (if n.rebase then 1 else 0)
    ++ beBytes 1 n.patches.length ++ beBytes 2 n.bucket ++ beBytes 2 n.epoch ++ beBytes 4 n.seq ++ beBytes 4 n.bodyLength
    ++ beBytes 4 n.segments ++ beBytes 16 n.digest.toNat ++ beBytes 8 n.stamp.toNat ++ beBytes 8 n.check.toNat
    ++ patchBytes n.patches)
  ∧ (∀ g : Segment, segmentPayload g = [2#8, 0#8] ++ beBytes 2 g.bucket ++ beBytes 4 g.seq ++ beBytes 4 g.index
    ++ beBytes 2 g.count ++ [0#8, 0#8] ++ g.bytes)
  ∧ (patchBytes [] = [] ∧ ∀ (p : PatchWrite) (ps : List PatchWrite),
    patchBytes (p :: ps) = beBytes 1 p.field ++ beBytes 1 p.value.length ++ p.value ++ patchBytes ps)
  ∧ (∀ (head : List Byte) (ps : List PatchWrite), head.length = 40 → fieldAt head 3 1 = ps.length →
    (∀ p ∈ ps, p.field < 256 ∧ p.value.length < 256) →
    fitsSubmit (head ++ patchBytes ps) = true
    ∧ parseSubmit (head ++ patchBytes ps) = ⟨fieldAt head 0 2, fieldAt head 2 1, fieldAt head 4 4,
      BitVec.ofNat 128 (fieldAt head 8 16), BitVec.ofNat 64 (fieldAt head 24 8), BitVec.ofNat 64 (fieldAt head 32 8), ps⟩)
  ∧ (∀ q : SubmitReq,
    (q.kind = 1 → q.length ≠ 0 → q.change = .body q.length q.check q.ref q.patches)
    ∧ (q.kind = 1 → q.length = 0 → q.change = .body 0 0#64 q.ref q.patches)
    ∧ (q.kind = 2 → q.change = .patch q.patches) ∧ (q.kind = 3 → q.change = .drop))
  ∧ (∀ (tag : Nat) (t : Trunk) (n : Notice) (unchecked prior : Bool),
    let bit := fun (b : Bool) => if b then 1 else 0
    applyRecord tag t n unchecked prior = ⟨0x40#8, true, false, tag, .ok,
      beBytes 1 t.index ++ beBytes 1 n.kind ++ beBytes 1 (bit n.rebase + 2 * bit unchecked + 4 * bit prior)
        ++ beBytes 1 n.patches.length ++ beBytes 2 n.bucket ++ beBytes 2 n.epoch ++ beBytes 4 n.seq
        ++ beBytes 4 n.bodyLength ++ beBytes 16 n.digest.toNat ++ beBytes 8 n.stamp.toNat ++ beBytes 8 n.check.toNat
        ++ patchBytes n.patches⟩)
  ∧ (∀ (t : Trunk) (c : TrunkConfig),
    let bit := fun (b : Bool) => if b then 1 else 0
    configBlock t c = beBytes 1 t.index ++ beBytes 1 (c.peer.getD 255) ++ beBytes 1 c.k ++ beBytes 1 c.paced.divider
      ++ beBytes 4 c.paced.lineRate ++ beBytes 4 c.paced.rtt ++ beBytes 1 c.paced.plan.xs ++ beBytes 1 c.paced.plan.xe
      ++ beBytes 1 c.paced.plan.bs ++ beBytes 1 c.paced.plan.be
      ++ beBytes 1 (bit c.paced.plan.bulk + 2 * bit c.paced.echo + 4 * bit c.identifyPolicy)
      ++ beBytes 1 c.paced.echoM ++ beBytes 1 c.paced.echoN ++ beBytes 1 c.alignDelay ++ beBytes 2 c.probePeriod
      ++ beBytes 2 c.resyncTimeout ++ beBytes 2 c.stallTime ++ [0#8, 0#8])
  ∧ (∀ b : List Byte,
    let bit := fun n => decide (fieldAt b 16 1 / 2 ^ n % 2 = 1)
    parseConfig b = {
      trunk := fieldAt b 0 1, peer := fieldAt b 1 1, k := fieldAt b 2 1, divider := fieldAt b 3 1
      lineRate := fieldAt b 4 4, rtt := fieldAt b 8 4
      xs := fieldAt b 12 1, xe := fieldAt b 13 1, bs := fieldAt b 14 1, be := fieldAt b 15 1
      bulk := bit 0, echo := bit 1, identify := bit 2
      m := fieldAt b 17 1, n := fieldAt b 18 1, alignDelay := fieldAt b 19 1
      probePeriod := fieldAt b 20 2, resyncTimeout := fieldAt b 22 2, stallTime := fieldAt b 24 2 })
  ∧ (∀ r : LinkRecord,
    let lead := beBytes 2 0xC35A ++ [r.kind] ++ beBytes 1 ((if r.partTag then 1 else 0) + if r.reply then 2 else 0)
      ++ beBytes 2 r.tag ++ beBytes 2 r.result.code ++ beBytes 2 r.body.length
    r.toBytes = lead ++ beBytes 2 (headerCheck (lead ++ List.replicate 4 0#8)).toNat ++ List.replicate 4 0#8 ++ r.body
      ++ beBytes 4 (bodyCheck r.body).toNat)
  ∧ (∀ n : Notice, n.kind < 256 → n.bucket < 65536 → n.epoch < 65536 → n.seq < 2 ^ 32 → n.bodyLength < 2 ^ 32 →
    n.segments < 2 ^ 32 → n.patches.length ≤ 32 → (∀ p ∈ n.patches, p.field < 256 ∧ p.value.length ≤ 48) →
    parsePiece (slice (noticePayload n) 0 8160) = .notice n)
  ∧ (∀ g : Segment, g.bucket < 65536 → g.seq < 2 ^ 32 → g.index < 2 ^ 32 → g.count = g.bytes.length → g.count ≤ 8128 →
    parsePiece (slice (segmentPayload g) 0 8160) = .segment g)
  ∧ ∀ c ∈ hostRequests, ∀ w : Wire, w.body.length ≤ 65520 →
    headerOk (headerBytes c.1 0 w.tag.toNat 0 w.body.length) = true
    ∧ recordCommand (headerBytes c.1 0 w.tag.toNat 0 w.body.length) w.body (beBytes 4 w.check.toNat) = c.2 w

end Statements
end

