-- ==== Sys2Proof/Laws/State.lean ====
section
/-! SUPPORT. What each update of the state leaves, and what it writes: one lemma for each field and update. -/

set_option Elab.async false

namespace Sys2Proof.Machine

@[simp] theorem State.setPort_now (s : State) (t : Trunk) (p : Port) : (s.setPort t p).now = s.now := rfl
@[simp] theorem State.setPort_clock (s : State) (t : Trunk) (p : Port) : (s.setPort t p).clock = s.clock := rfl
@[simp] theorem State.setPort_buckets (s : State) (t : Trunk) (p : Port) : (s.setPort t p).buckets = s.buckets := rfl
@[simp] theorem State.setPort_journal (s : State) (t : Trunk) (p : Port) : (s.setPort t p).journal = s.journal := rfl
@[simp] theorem State.setPort_map (s : State) (t : Trunk) (p : Port) : (s.setPort t p).map = s.map := rfl
@[simp] theorem State.setPort_body (s : State) (t : Trunk) (p : Port) : (s.setPort t p).body = s.body := rfl
@[simp] theorem State.setPort_sups (s : State) (t : Trunk) (p : Port) : (s.setPort t p).sups = s.sups := rfl
@[simp] theorem State.setPort_apply (s : State) (t : Trunk) (p : Port) : (s.setPort t p).apply = s.apply := rfl
@[simp] theorem State.setPort_sli (s : State) (t : Trunk) (p : Port) : (s.setPort t p).sli = s.sli := rfl
@[simp] theorem State.setPort_freeCount (s : State) (t : Trunk) (p : Port) : (s.setPort t p).freeCount = s.freeCount := rfl
@[simp] theorem State.setPort_pending (s : State) (t : Trunk) (p : Port) : (s.setPort t p).pending = s.pending := rfl

@[simp] theorem State.setSup_now (s : State) (t : Trunk) (x : Supervisor) : (s.setSup t x).now = s.now := rfl
@[simp] theorem State.setSup_clock (s : State) (t : Trunk) (x : Supervisor) : (s.setSup t x).clock = s.clock := rfl
@[simp] theorem State.setSup_buckets (s : State) (t : Trunk) (x : Supervisor) : (s.setSup t x).buckets = s.buckets := rfl
@[simp] theorem State.setSup_journal (s : State) (t : Trunk) (x : Supervisor) : (s.setSup t x).journal = s.journal := rfl
@[simp] theorem State.setSup_map (s : State) (t : Trunk) (x : Supervisor) : (s.setSup t x).map = s.map := rfl
@[simp] theorem State.setSup_body (s : State) (t : Trunk) (x : Supervisor) : (s.setSup t x).body = s.body := rfl
@[simp] theorem State.setSup_ports (s : State) (t : Trunk) (x : Supervisor) : (s.setSup t x).ports = s.ports := rfl
@[simp] theorem State.setSup_apply (s : State) (t : Trunk) (x : Supervisor) : (s.setSup t x).apply = s.apply := rfl
@[simp] theorem State.setSup_sli (s : State) (t : Trunk) (x : Supervisor) : (s.setSup t x).sli = s.sli := rfl
@[simp] theorem State.setSup_freeCount (s : State) (t : Trunk) (x : Supervisor) : (s.setSup t x).freeCount = s.freeCount := rfl
@[simp] theorem State.setSup_pending (s : State) (t : Trunk) (x : Supervisor) : (s.setSup t x).pending = s.pending := rfl

@[simp] theorem State.setSli_now (s : State) (x : Sli) : (s.setSli x).now = s.now := rfl
@[simp] theorem State.setSli_clock (s : State) (x : Sli) : (s.setSli x).clock = s.clock := rfl
@[simp] theorem State.setSli_buckets (s : State) (x : Sli) : (s.setSli x).buckets = s.buckets := rfl
@[simp] theorem State.setSli_journal (s : State) (x : Sli) : (s.setSli x).journal = s.journal := rfl
@[simp] theorem State.setSli_map (s : State) (x : Sli) : (s.setSli x).map = s.map := rfl
@[simp] theorem State.setSli_body (s : State) (x : Sli) : (s.setSli x).body = s.body := rfl
@[simp] theorem State.setSli_ports (s : State) (x : Sli) : (s.setSli x).ports = s.ports := rfl
@[simp] theorem State.setSli_sups (s : State) (x : Sli) : (s.setSli x).sups = s.sups := rfl
@[simp] theorem State.setSli_apply (s : State) (x : Sli) : (s.setSli x).apply = s.apply := rfl
@[simp] theorem State.setSli_freeCount (s : State) (x : Sli) : (s.setSli x).freeCount = s.freeCount := rfl
@[simp] theorem State.setSli_pending (s : State) (x : Sli) : (s.setSli x).pending = s.pending := rfl

@[simp] theorem State.setClock_now (s : State) (x : StampClock) : (s.setClock x).now = s.now := rfl
@[simp] theorem State.setClock_buckets (s : State) (x : StampClock) : (s.setClock x).buckets = s.buckets := rfl
@[simp] theorem State.setClock_journal (s : State) (x : StampClock) : (s.setClock x).journal = s.journal := rfl
@[simp] theorem State.setClock_map (s : State) (x : StampClock) : (s.setClock x).map = s.map := rfl
@[simp] theorem State.setClock_body (s : State) (x : StampClock) : (s.setClock x).body = s.body := rfl
@[simp] theorem State.setClock_ports (s : State) (x : StampClock) : (s.setClock x).ports = s.ports := rfl
@[simp] theorem State.setClock_sups (s : State) (x : StampClock) : (s.setClock x).sups = s.sups := rfl
@[simp] theorem State.setClock_apply (s : State) (x : StampClock) : (s.setClock x).apply = s.apply := rfl
@[simp] theorem State.setClock_sli (s : State) (x : StampClock) : (s.setClock x).sli = s.sli := rfl
@[simp] theorem State.setClock_freeCount (s : State) (x : StampClock) : (s.setClock x).freeCount = s.freeCount := rfl
@[simp] theorem State.setClock_pending (s : State) (x : StampClock) : (s.setClock x).pending = s.pending := rfl

@[simp] theorem State.setBuckets_now (s : State) (x : Table Bucket) : (s.setBuckets x).now = s.now := rfl
@[simp] theorem State.setBuckets_clock (s : State) (x : Table Bucket) : (s.setBuckets x).clock = s.clock := rfl
@[simp] theorem State.setBuckets_journal (s : State) (x : Table Bucket) : (s.setBuckets x).journal = s.journal := rfl
@[simp] theorem State.setBuckets_map (s : State) (x : Table Bucket) : (s.setBuckets x).map = s.map := rfl
@[simp] theorem State.setBuckets_body (s : State) (x : Table Bucket) : (s.setBuckets x).body = s.body := rfl
@[simp] theorem State.setBuckets_ports (s : State) (x : Table Bucket) : (s.setBuckets x).ports = s.ports := rfl
@[simp] theorem State.setBuckets_sups (s : State) (x : Table Bucket) : (s.setBuckets x).sups = s.sups := rfl
@[simp] theorem State.setBuckets_apply (s : State) (x : Table Bucket) : (s.setBuckets x).apply = s.apply := rfl
@[simp] theorem State.setBuckets_sli (s : State) (x : Table Bucket) : (s.setBuckets x).sli = s.sli := rfl
@[simp] theorem State.setBuckets_freeCount (s : State) (x : Table Bucket) : (s.setBuckets x).freeCount = s.freeCount := rfl
@[simp] theorem State.setBuckets_pending (s : State) (x : Table Bucket) : (s.setBuckets x).pending = s.pending := rfl

@[simp] theorem State.setJournal_now (s : State) (x : Journal) : (s.setJournal x).now = s.now := rfl
@[simp] theorem State.setJournal_clock (s : State) (x : Journal) : (s.setJournal x).clock = s.clock := rfl
@[simp] theorem State.setJournal_buckets (s : State) (x : Journal) : (s.setJournal x).buckets = s.buckets := rfl
@[simp] theorem State.setJournal_map (s : State) (x : Journal) : (s.setJournal x).map = s.map := rfl
@[simp] theorem State.setJournal_body (s : State) (x : Journal) : (s.setJournal x).body = s.body := rfl
@[simp] theorem State.setJournal_ports (s : State) (x : Journal) : (s.setJournal x).ports = s.ports := rfl
@[simp] theorem State.setJournal_sups (s : State) (x : Journal) : (s.setJournal x).sups = s.sups := rfl
@[simp] theorem State.setJournal_apply (s : State) (x : Journal) : (s.setJournal x).apply = s.apply := rfl
@[simp] theorem State.setJournal_sli (s : State) (x : Journal) : (s.setJournal x).sli = s.sli := rfl
@[simp] theorem State.setJournal_freeCount (s : State) (x : Journal) : (s.setJournal x).freeCount = s.freeCount := rfl
@[simp] theorem State.setJournal_pending (s : State) (x : Journal) : (s.setJournal x).pending = s.pending := rfl

@[simp] theorem State.setMap_now (s : State) (x : List ObjRec) : (s.setMap x).now = s.now := rfl
@[simp] theorem State.setMap_clock (s : State) (x : List ObjRec) : (s.setMap x).clock = s.clock := rfl
@[simp] theorem State.setMap_buckets (s : State) (x : List ObjRec) : (s.setMap x).buckets = s.buckets := rfl
@[simp] theorem State.setMap_journal (s : State) (x : List ObjRec) : (s.setMap x).journal = s.journal := rfl
@[simp] theorem State.setMap_body (s : State) (x : List ObjRec) : (s.setMap x).body = s.body := rfl
@[simp] theorem State.setMap_ports (s : State) (x : List ObjRec) : (s.setMap x).ports = s.ports := rfl
@[simp] theorem State.setMap_sups (s : State) (x : List ObjRec) : (s.setMap x).sups = s.sups := rfl
@[simp] theorem State.setMap_apply (s : State) (x : List ObjRec) : (s.setMap x).apply = s.apply := rfl
@[simp] theorem State.setMap_sli (s : State) (x : List ObjRec) : (s.setMap x).sli = s.sli := rfl
@[simp] theorem State.setMap_freeCount (s : State) (x : List ObjRec) : (s.setMap x).freeCount = s.freeCount := rfl
@[simp] theorem State.setMap_pending (s : State) (x : List ObjRec) : (s.setMap x).pending = s.pending := rfl

@[simp] theorem State.setBody_now (s : State) (x : BodyStore) : (s.setBody x).now = s.now := rfl
@[simp] theorem State.setBody_clock (s : State) (x : BodyStore) : (s.setBody x).clock = s.clock := rfl
@[simp] theorem State.setBody_buckets (s : State) (x : BodyStore) : (s.setBody x).buckets = s.buckets := rfl
@[simp] theorem State.setBody_journal (s : State) (x : BodyStore) : (s.setBody x).journal = s.journal := rfl
@[simp] theorem State.setBody_map (s : State) (x : BodyStore) : (s.setBody x).map = s.map := rfl
@[simp] theorem State.setBody_ports (s : State) (x : BodyStore) : (s.setBody x).ports = s.ports := rfl
@[simp] theorem State.setBody_sups (s : State) (x : BodyStore) : (s.setBody x).sups = s.sups := rfl
@[simp] theorem State.setBody_apply (s : State) (x : BodyStore) : (s.setBody x).apply = s.apply := rfl
@[simp] theorem State.setBody_sli (s : State) (x : BodyStore) : (s.setBody x).sli = s.sli := rfl
@[simp] theorem State.setBody_freeCount (s : State) (x : BodyStore) : (s.setBody x).freeCount = s.freeCount := rfl
@[simp] theorem State.setBody_pending (s : State) (x : BodyStore) : (s.setBody x).pending = s.pending := rfl

@[simp] theorem State.setApply_now (s : State) (x : ApplyUnit) : (s.setApply x).now = s.now := rfl
@[simp] theorem State.setApply_clock (s : State) (x : ApplyUnit) : (s.setApply x).clock = s.clock := rfl
@[simp] theorem State.setApply_buckets (s : State) (x : ApplyUnit) : (s.setApply x).buckets = s.buckets := rfl
@[simp] theorem State.setApply_journal (s : State) (x : ApplyUnit) : (s.setApply x).journal = s.journal := rfl
@[simp] theorem State.setApply_map (s : State) (x : ApplyUnit) : (s.setApply x).map = s.map := rfl
@[simp] theorem State.setApply_body (s : State) (x : ApplyUnit) : (s.setApply x).body = s.body := rfl
@[simp] theorem State.setApply_ports (s : State) (x : ApplyUnit) : (s.setApply x).ports = s.ports := rfl
@[simp] theorem State.setApply_sups (s : State) (x : ApplyUnit) : (s.setApply x).sups = s.sups := rfl
@[simp] theorem State.setApply_sli (s : State) (x : ApplyUnit) : (s.setApply x).sli = s.sli := rfl
@[simp] theorem State.setApply_freeCount (s : State) (x : ApplyUnit) : (s.setApply x).freeCount = s.freeCount := rfl
@[simp] theorem State.setApply_pending (s : State) (x : ApplyUnit) : (s.setApply x).pending = s.pending := rfl

@[simp] theorem State.advanceTo_clock (s : State) (m : Nat) : (s.advanceTo m).clock = s.clock := rfl
@[simp] theorem State.advanceTo_buckets (s : State) (m : Nat) : (s.advanceTo m).buckets = s.buckets := rfl
@[simp] theorem State.advanceTo_journal (s : State) (m : Nat) : (s.advanceTo m).journal = s.journal := rfl
@[simp] theorem State.advanceTo_map (s : State) (m : Nat) : (s.advanceTo m).map = s.map := rfl
@[simp] theorem State.advanceTo_body (s : State) (m : Nat) : (s.advanceTo m).body = s.body := rfl
@[simp] theorem State.advanceTo_ports (s : State) (m : Nat) : (s.advanceTo m).ports = s.ports := rfl
@[simp] theorem State.advanceTo_sups (s : State) (m : Nat) : (s.advanceTo m).sups = s.sups := rfl
@[simp] theorem State.advanceTo_apply (s : State) (m : Nat) : (s.advanceTo m).apply = s.apply := rfl
@[simp] theorem State.advanceTo_sli (s : State) (m : Nat) : (s.advanceTo m).sli = s.sli := rfl
@[simp] theorem State.advanceTo_freeCount (s : State) (m : Nat) : (s.advanceTo m).freeCount = s.freeCount := rfl
@[simp] theorem State.advanceTo_pending (s : State) (m : Nat) : (s.advanceTo m).pending = s.pending := rfl

@[simp] theorem State.setStats_now (s : State) (x : PartStats) : (s.setStats x).now = s.now := rfl
@[simp] theorem State.setStats_clock (s : State) (x : PartStats) : (s.setStats x).clock = s.clock := rfl
@[simp] theorem State.setStats_buckets (s : State) (x : PartStats) : (s.setStats x).buckets = s.buckets := rfl
@[simp] theorem State.setStats_journal (s : State) (x : PartStats) : (s.setStats x).journal = s.journal := rfl
@[simp] theorem State.setStats_map (s : State) (x : PartStats) : (s.setStats x).map = s.map := rfl
@[simp] theorem State.setStats_body (s : State) (x : PartStats) : (s.setStats x).body = s.body := rfl
@[simp] theorem State.setStats_ports (s : State) (x : PartStats) : (s.setStats x).ports = s.ports := rfl
@[simp] theorem State.setStats_sups (s : State) (x : PartStats) : (s.setStats x).sups = s.sups := rfl
@[simp] theorem State.setStats_apply (s : State) (x : PartStats) : (s.setStats x).apply = s.apply := rfl
@[simp] theorem State.setStats_freeCount (s : State) (x : PartStats) : (s.setStats x).freeCount = s.freeCount := rfl
@[simp] theorem State.setStats_pending (s : State) (x : PartStats) : (s.setStats x).pending = s.pending := rfl

@[simp] theorem State.latch_now (s : State) (l : PartLatch) : (s.latch l).now = s.now := rfl
@[simp] theorem State.latch_clock (s : State) (l : PartLatch) : (s.latch l).clock = s.clock := rfl
@[simp] theorem State.latch_buckets (s : State) (l : PartLatch) : (s.latch l).buckets = s.buckets := rfl
@[simp] theorem State.latch_journal (s : State) (l : PartLatch) : (s.latch l).journal = s.journal := rfl
@[simp] theorem State.latch_map (s : State) (l : PartLatch) : (s.latch l).map = s.map := rfl
@[simp] theorem State.latch_body (s : State) (l : PartLatch) : (s.latch l).body = s.body := rfl
@[simp] theorem State.latch_ports (s : State) (l : PartLatch) : (s.latch l).ports = s.ports := rfl
@[simp] theorem State.latch_sups (s : State) (l : PartLatch) : (s.latch l).sups = s.sups := rfl
@[simp] theorem State.latch_apply (s : State) (l : PartLatch) : (s.latch l).apply = s.apply := rfl
@[simp] theorem State.latch_freeCount (s : State) (l : PartLatch) : (s.latch l).freeCount = s.freeCount := rfl
@[simp] theorem State.latch_pending (s : State) (l : PartLatch) : (s.latch l).pending = s.pending := rfl

@[simp] theorem State.latchTrunk_now (s : State) (t : Trunk) (l : TrunkLatch) : (s.latchTrunk t l).now = s.now := rfl
@[simp] theorem State.latchTrunk_clock (s : State) (t : Trunk) (l : TrunkLatch) : (s.latchTrunk t l).clock = s.clock := rfl
@[simp] theorem State.latchTrunk_buckets (s : State) (t : Trunk) (l : TrunkLatch) : (s.latchTrunk t l).buckets = s.buckets := rfl
@[simp] theorem State.latchTrunk_journal (s : State) (t : Trunk) (l : TrunkLatch) : (s.latchTrunk t l).journal = s.journal := rfl
@[simp] theorem State.latchTrunk_map (s : State) (t : Trunk) (l : TrunkLatch) : (s.latchTrunk t l).map = s.map := rfl
@[simp] theorem State.latchTrunk_body (s : State) (t : Trunk) (l : TrunkLatch) : (s.latchTrunk t l).body = s.body := rfl
@[simp] theorem State.latchTrunk_ports (s : State) (t : Trunk) (l : TrunkLatch) : (s.latchTrunk t l).ports = s.ports := rfl
@[simp] theorem State.latchTrunk_sups (s : State) (t : Trunk) (l : TrunkLatch) : (s.latchTrunk t l).sups = s.sups := rfl
@[simp] theorem State.latchTrunk_apply (s : State) (t : Trunk) (l : TrunkLatch) : (s.latchTrunk t l).apply = s.apply := rfl
@[simp] theorem State.latchTrunk_freeCount (s : State) (t : Trunk) (l : TrunkLatch) : (s.latchTrunk t l).freeCount = s.freeCount := rfl
@[simp] theorem State.latchTrunk_pending (s : State) (t : Trunk) (l : TrunkLatch) : (s.latchTrunk t l).pending = s.pending := rfl

@[simp] theorem State.latchUnidentified_now (s : State) (t : Trunk) : (s.latchUnidentified t).now = s.now := rfl
@[simp] theorem State.latchUnidentified_clock (s : State) (t : Trunk) : (s.latchUnidentified t).clock = s.clock := rfl
@[simp] theorem State.latchUnidentified_buckets (s : State) (t : Trunk) : (s.latchUnidentified t).buckets = s.buckets := rfl
@[simp] theorem State.latchUnidentified_journal (s : State) (t : Trunk) : (s.latchUnidentified t).journal = s.journal := rfl
@[simp] theorem State.latchUnidentified_map (s : State) (t : Trunk) : (s.latchUnidentified t).map = s.map := rfl
@[simp] theorem State.latchUnidentified_body (s : State) (t : Trunk) : (s.latchUnidentified t).body = s.body := rfl
@[simp] theorem State.latchUnidentified_ports (s : State) (t : Trunk) : (s.latchUnidentified t).ports = s.ports := rfl
@[simp] theorem State.latchUnidentified_sups (s : State) (t : Trunk) : (s.latchUnidentified t).sups = s.sups := rfl
@[simp] theorem State.latchUnidentified_apply (s : State) (t : Trunk) : (s.latchUnidentified t).apply = s.apply := rfl
@[simp] theorem State.latchUnidentified_freeCount (s : State) (t : Trunk) : (s.latchUnidentified t).freeCount = s.freeCount := rfl
@[simp] theorem State.latchUnidentified_pending (s : State) (t : Trunk) : (s.latchUnidentified t).pending = s.pending := rfl

/-! ## The field written -/

@[simp] theorem State.setPort_ports (s : State) (t : Trunk) (p : Port) : (s.setPort t p).ports = s.ports.set t p := rfl
@[simp] theorem State.setSup_sups (s : State) (t : Trunk) (x : Supervisor) : (s.setSup t x).sups = s.sups.set t x := rfl
@[simp] theorem State.setSli_sli (s : State) (x : Sli) : (s.setSli x).sli = x := rfl
@[simp] theorem State.setClock_clock (s : State) (x : StampClock) : (s.setClock x).clock = x := rfl
@[simp] theorem State.setBuckets_buckets (s : State) (x : Table Bucket) : (s.setBuckets x).buckets = x := rfl
@[simp] theorem State.setJournal_journal (s : State) (x : Journal) : (s.setJournal x).journal = x := rfl
@[simp] theorem State.setMap_map (s : State) (x : List ObjRec) : (s.setMap x).map = x := rfl
@[simp] theorem State.setBody_body (s : State) (x : BodyStore) : (s.setBody x).body = x := rfl
@[simp] theorem State.setApply_apply (s : State) (x : ApplyUnit) : (s.setApply x).apply = x := rfl
@[simp] theorem State.advanceTo_now (s : State) (m : Nat) : (s.advanceTo m).now = max s.now m := rfl
@[simp] theorem State.setStats_sli (s : State) (x : PartStats) : (s.setStats x).sli = { s.sli with stats := x } := rfl

/-! ## One value per trunk -/

@[simp] theorem Quad.get_set_self {α : Type} (q : Quad α) (t : Trunk) (v : α) : (q.set t v).get t = v := by
  cases t <;> rfl

theorem Quad.get_set_ne {α : Type} (q : Quad α) {t u : Trunk} (v : α) (h : u ≠ t) : (q.set t v).get u = q.get u := by
  cases t <;> cases u <;> first | rfl | exact absurd rfl h

theorem Quad.get_set {α : Type} (q : Quad α) (t u : Trunk) (v : α) :
    (q.set t v).get u = if u = t then v else q.get u := by
  cases t <;> cases u <;> rfl

@[simp] theorem Quad.set_set {α : Type} (q : Quad α) (t : Trunk) (v w : α) : (q.set t v).set t w = q.set t w := by
  cases t <;> rfl

@[simp] theorem Quad.set_get {α : Type} (q : Quad α) (t : Trunk) : q.set t (q.get t) = q := by cases t <;> rfl

@[simp] theorem Quad.get_all {α : Type} (t : Trunk) (v : α) : (Quad.all v).get t = v := by cases t <;> rfl

@[simp] theorem Quad.get_map {α β : Type} (q : Quad α) (g : α → β) (t : Trunk) : (q.map g).get t = g (q.get t) := by
  cases t <;> rfl

@[simp] theorem Trunk.ofNat?_index (t : Trunk) : Trunk.ofNat? t.index = some t := by cases t <;> rfl

theorem Trunk.ofNat?_none {n : Nat} (h : 3 < n) : Trunk.ofNat? n = none := by
  match n, h with
  | k + 4, _ => rfl

/-! ## Ports and supervisors -/

@[simp] theorem State.port_setPort_self (s : State) (t : Trunk) (p : Port) : (s.setPort t p).port t = p :=
  Quad.get_set_self s.ports t p

theorem State.port_setPort_ne (s : State) {t u : Trunk} (p : Port) (h : u ≠ t) : (s.setPort t p).port u = s.port u :=
  Quad.get_set_ne s.ports p h

@[simp] theorem State.sup_setSup_self (s : State) (t : Trunk) (x : Supervisor) : (s.setSup t x).sup t = x :=
  Quad.get_set_self s.sups t x

theorem State.sup_setSup_ne (s : State) {t u : Trunk} (x : Supervisor) (h : u ≠ t) : (s.setSup t x).sup u = s.sup u :=
  Quad.get_set_ne s.sups x h

@[simp] theorem State.sup_setPort (s : State) (t : Trunk) (p : Port) (u : Trunk) : (s.setPort t p).sup u = s.sup u := rfl
@[simp] theorem State.port_setSup (s : State) (t : Trunk) (x : Supervisor) (u : Trunk) : (s.setSup t x).port u = s.port u := rfl
@[simp] theorem State.port_setSli (s : State) (x : Sli) (u : Trunk) : (s.setSli x).port u = s.port u := rfl
@[simp] theorem State.sup_setSli (s : State) (x : Sli) (u : Trunk) : (s.setSli x).sup u = s.sup u := rfl
@[simp] theorem State.port_setClock (s : State) (x : StampClock) (u : Trunk) : (s.setClock x).port u = s.port u := rfl
@[simp] theorem State.sup_setClock (s : State) (x : StampClock) (u : Trunk) : (s.setClock x).sup u = s.sup u := rfl
@[simp] theorem State.port_setBuckets (s : State) (x : Table Bucket) (u : Trunk) : (s.setBuckets x).port u = s.port u := rfl
@[simp] theorem State.sup_setBuckets (s : State) (x : Table Bucket) (u : Trunk) : (s.setBuckets x).sup u = s.sup u := rfl
@[simp] theorem State.port_setJournal (s : State) (x : Journal) (u : Trunk) : (s.setJournal x).port u = s.port u := rfl
@[simp] theorem State.sup_setJournal (s : State) (x : Journal) (u : Trunk) : (s.setJournal x).sup u = s.sup u := rfl
@[simp] theorem State.port_setMap (s : State) (x : List ObjRec) (u : Trunk) : (s.setMap x).port u = s.port u := rfl
@[simp] theorem State.sup_setMap (s : State) (x : List ObjRec) (u : Trunk) : (s.setMap x).sup u = s.sup u := rfl
@[simp] theorem State.port_setBody (s : State) (x : BodyStore) (u : Trunk) : (s.setBody x).port u = s.port u := rfl
@[simp] theorem State.sup_setBody (s : State) (x : BodyStore) (u : Trunk) : (s.setBody x).sup u = s.sup u := rfl
@[simp] theorem State.port_setApply (s : State) (x : ApplyUnit) (u : Trunk) : (s.setApply x).port u = s.port u := rfl
@[simp] theorem State.sup_setApply (s : State) (x : ApplyUnit) (u : Trunk) : (s.setApply x).sup u = s.sup u := rfl
@[simp] theorem State.port_advanceTo (s : State) (m : Nat) (u : Trunk) : (s.advanceTo m).port u = s.port u := rfl
@[simp] theorem State.sup_advanceTo (s : State) (m : Nat) (u : Trunk) : (s.advanceTo m).sup u = s.sup u := rfl
@[simp] theorem State.port_setStats (s : State) (x : PartStats) (u : Trunk) : (s.setStats x).port u = s.port u := rfl
@[simp] theorem State.sup_setStats (s : State) (x : PartStats) (u : Trunk) : (s.setStats x).sup u = s.sup u := rfl
@[simp] theorem State.port_latch (s : State) (l : PartLatch) (u : Trunk) : (s.latch l).port u = s.port u := rfl
@[simp] theorem State.sup_latch (s : State) (l : PartLatch) (u : Trunk) : (s.latch l).sup u = s.sup u := rfl
@[simp] theorem State.port_latchTrunk (s : State) (t : Trunk) (l : TrunkLatch) (u : Trunk) : (s.latchTrunk t l).port u = s.port u := rfl
@[simp] theorem State.sup_latchTrunk (s : State) (t : Trunk) (l : TrunkLatch) (u : Trunk) : (s.latchTrunk t l).sup u = s.sup u := rfl
@[simp] theorem State.port_latchUnidentified (s : State) (t : Trunk) (u : Trunk) : (s.latchUnidentified t).port u = s.port u := rfl
@[simp] theorem State.sup_latchUnidentified (s : State) (t : Trunk) (u : Trunk) : (s.latchUnidentified t).sup u = s.sup u := rfl

end Sys2Proof.Machine
end

