-- ==== Sys2Proof/Laws/Ops.lean ====
section
/-! SUPPORT. What the operations of the Stamp Clock, the Object Map, the Body Store and the Journal leave. -/

set_option Elab.async false

namespace Sys2Proof.Machine

@[simp] theorem State.countEvent_now (s : State) (t : Trunk) (c : CounterName) : (s.countEvent t c).now = s.now := by unfold State.countEvent; dsimp only; split <;> simp
@[simp] theorem State.countEvent_clock (s : State) (t : Trunk) (c : CounterName) : (s.countEvent t c).clock = s.clock := by unfold State.countEvent; dsimp only; split <;> simp
@[simp] theorem State.countEvent_buckets (s : State) (t : Trunk) (c : CounterName) : (s.countEvent t c).buckets = s.buckets := by unfold State.countEvent; dsimp only; split <;> simp
@[simp] theorem State.countEvent_journal (s : State) (t : Trunk) (c : CounterName) : (s.countEvent t c).journal = s.journal := by unfold State.countEvent; dsimp only; split <;> simp
@[simp] theorem State.countEvent_map (s : State) (t : Trunk) (c : CounterName) : (s.countEvent t c).map = s.map := by unfold State.countEvent; dsimp only; split <;> simp
@[simp] theorem State.countEvent_body (s : State) (t : Trunk) (c : CounterName) : (s.countEvent t c).body = s.body := by unfold State.countEvent; dsimp only; split <;> simp
@[simp] theorem State.countEvent_ports (s : State) (t : Trunk) (c : CounterName) : (s.countEvent t c).ports = s.ports := by unfold State.countEvent; dsimp only; split <;> simp
@[simp] theorem State.countEvent_apply (s : State) (t : Trunk) (c : CounterName) : (s.countEvent t c).apply = s.apply := by unfold State.countEvent; dsimp only; split <;> simp
@[simp] theorem State.countEvent_freeCount (s : State) (t : Trunk) (c : CounterName) : (s.countEvent t c).freeCount = s.freeCount := by unfold State.countEvent; dsimp only; split <;> simp
@[simp] theorem State.countEvent_pending (s : State) (t : Trunk) (c : CounterName) : (s.countEvent t c).pending = s.pending := by unfold State.countEvent; dsimp only; split <;> simp

@[simp] theorem State.borrowed_now (s : State) : (s.borrowed).now = s.now := rfl
@[simp] theorem State.borrowed_clock (s : State) : (s.borrowed).clock = s.clock := rfl
@[simp] theorem State.borrowed_buckets (s : State) : (s.borrowed).buckets = s.buckets := rfl
@[simp] theorem State.borrowed_journal (s : State) : (s.borrowed).journal = s.journal := rfl
@[simp] theorem State.borrowed_map (s : State) : (s.borrowed).map = s.map := rfl
@[simp] theorem State.borrowed_body (s : State) : (s.borrowed).body = s.body := rfl
@[simp] theorem State.borrowed_ports (s : State) : (s.borrowed).ports = s.ports := rfl
@[simp] theorem State.borrowed_sups (s : State) : (s.borrowed).sups = s.sups := rfl
@[simp] theorem State.borrowed_apply (s : State) : (s.borrowed).apply = s.apply := rfl
@[simp] theorem State.borrowed_freeCount (s : State) : (s.borrowed).freeCount = s.freeCount := rfl
@[simp] theorem State.borrowed_pending (s : State) : (s.borrowed).pending = s.pending := rfl

@[simp] theorem State.skewClamped_now (s : State) : (s.skewClamped).now = s.now := rfl
@[simp] theorem State.skewClamped_clock (s : State) : (s.skewClamped).clock = s.clock := rfl
@[simp] theorem State.skewClamped_buckets (s : State) : (s.skewClamped).buckets = s.buckets := rfl
@[simp] theorem State.skewClamped_journal (s : State) : (s.skewClamped).journal = s.journal := rfl
@[simp] theorem State.skewClamped_map (s : State) : (s.skewClamped).map = s.map := rfl
@[simp] theorem State.skewClamped_body (s : State) : (s.skewClamped).body = s.body := rfl
@[simp] theorem State.skewClamped_ports (s : State) : (s.skewClamped).ports = s.ports := rfl
@[simp] theorem State.skewClamped_sups (s : State) : (s.skewClamped).sups = s.sups := rfl
@[simp] theorem State.skewClamped_apply (s : State) : (s.skewClamped).apply = s.apply := rfl
@[simp] theorem State.skewClamped_freeCount (s : State) : (s.skewClamped).freeCount = s.freeCount := rfl
@[simp] theorem State.skewClamped_pending (s : State) : (s.skewClamped).pending = s.pending := rfl

@[simp] theorem State.merge_now (s : State) (x : Stamp) : (s.merge x).now = s.now := by unfold State.merge; dsimp only; split <;> split <;> simp
@[simp] theorem State.merge_buckets (s : State) (x : Stamp) : (s.merge x).buckets = s.buckets := by unfold State.merge; dsimp only; split <;> split <;> simp
@[simp] theorem State.merge_journal (s : State) (x : Stamp) : (s.merge x).journal = s.journal := by unfold State.merge; dsimp only; split <;> split <;> simp
@[simp] theorem State.merge_map (s : State) (x : Stamp) : (s.merge x).map = s.map := by unfold State.merge; dsimp only; split <;> split <;> simp
@[simp] theorem State.merge_body (s : State) (x : Stamp) : (s.merge x).body = s.body := by unfold State.merge; dsimp only; split <;> split <;> simp
@[simp] theorem State.merge_ports (s : State) (x : Stamp) : (s.merge x).ports = s.ports := by unfold State.merge; dsimp only; split <;> split <;> simp
@[simp] theorem State.merge_sups (s : State) (x : Stamp) : (s.merge x).sups = s.sups := by unfold State.merge; dsimp only; split <;> split <;> simp
@[simp] theorem State.merge_apply (s : State) (x : Stamp) : (s.merge x).apply = s.apply := by unfold State.merge; dsimp only; split <;> split <;> simp
@[simp] theorem State.merge_freeCount (s : State) (x : Stamp) : (s.merge x).freeCount = s.freeCount := by unfold State.merge; dsimp only; split <;> split <;> simp
@[simp] theorem State.merge_pending (s : State) (x : Stamp) : (s.merge x).pending = s.pending := by unfold State.merge; dsimp only; split <;> split <;> simp

@[simp] theorem State.changeObj_now (s : State) (b : Nat) (d : Digest) (g : ObjRec → ObjRec) : (s.changeObj b d g).now = s.now := rfl
@[simp] theorem State.changeObj_clock (s : State) (b : Nat) (d : Digest) (g : ObjRec → ObjRec) : (s.changeObj b d g).clock = s.clock := rfl
@[simp] theorem State.changeObj_buckets (s : State) (b : Nat) (d : Digest) (g : ObjRec → ObjRec) : (s.changeObj b d g).buckets = s.buckets := rfl
@[simp] theorem State.changeObj_journal (s : State) (b : Nat) (d : Digest) (g : ObjRec → ObjRec) : (s.changeObj b d g).journal = s.journal := rfl
@[simp] theorem State.changeObj_body (s : State) (b : Nat) (d : Digest) (g : ObjRec → ObjRec) : (s.changeObj b d g).body = s.body := rfl
@[simp] theorem State.changeObj_ports (s : State) (b : Nat) (d : Digest) (g : ObjRec → ObjRec) : (s.changeObj b d g).ports = s.ports := rfl
@[simp] theorem State.changeObj_sups (s : State) (b : Nat) (d : Digest) (g : ObjRec → ObjRec) : (s.changeObj b d g).sups = s.sups := rfl
@[simp] theorem State.changeObj_apply (s : State) (b : Nat) (d : Digest) (g : ObjRec → ObjRec) : (s.changeObj b d g).apply = s.apply := rfl
@[simp] theorem State.changeObj_sli (s : State) (b : Nat) (d : Digest) (g : ObjRec → ObjRec) : (s.changeObj b d g).sli = s.sli := rfl
@[simp] theorem State.changeObj_freeCount (s : State) (b : Nat) (d : Digest) (g : ObjRec → ObjRec) : (s.changeObj b d g).freeCount = s.freeCount := rfl
@[simp] theorem State.changeObj_pending (s : State) (b : Nat) (d : Digest) (g : ObjRec → ObjRec) : (s.changeObj b d g).pending = s.pending := rfl

@[simp] theorem State.unpin_now (s : State) (b : Nat) (d : Digest) : (s.unpin b d).now = s.now := rfl
@[simp] theorem State.unpin_clock (s : State) (b : Nat) (d : Digest) : (s.unpin b d).clock = s.clock := rfl
@[simp] theorem State.unpin_buckets (s : State) (b : Nat) (d : Digest) : (s.unpin b d).buckets = s.buckets := rfl
@[simp] theorem State.unpin_journal (s : State) (b : Nat) (d : Digest) : (s.unpin b d).journal = s.journal := rfl
@[simp] theorem State.unpin_body (s : State) (b : Nat) (d : Digest) : (s.unpin b d).body = s.body := rfl
@[simp] theorem State.unpin_ports (s : State) (b : Nat) (d : Digest) : (s.unpin b d).ports = s.ports := rfl
@[simp] theorem State.unpin_sups (s : State) (b : Nat) (d : Digest) : (s.unpin b d).sups = s.sups := rfl
@[simp] theorem State.unpin_apply (s : State) (b : Nat) (d : Digest) : (s.unpin b d).apply = s.apply := rfl
@[simp] theorem State.unpin_sli (s : State) (b : Nat) (d : Digest) : (s.unpin b d).sli = s.sli := rfl
@[simp] theorem State.unpin_freeCount (s : State) (b : Nat) (d : Digest) : (s.unpin b d).freeCount = s.freeCount := rfl
@[simp] theorem State.unpin_pending (s : State) (b : Nat) (d : Digest) : (s.unpin b d).pending = s.pending := rfl

@[simp] theorem State.findOrInsert_now (s : State) (b : Nat) (d : Digest) (g : ObjRec → ObjRec) : (s.findOrInsert b d g).now = s.now := by unfold State.findOrInsert; split <;> simp
@[simp] theorem State.findOrInsert_clock (s : State) (b : Nat) (d : Digest) (g : ObjRec → ObjRec) : (s.findOrInsert b d g).clock = s.clock := by unfold State.findOrInsert; split <;> simp
@[simp] theorem State.findOrInsert_buckets (s : State) (b : Nat) (d : Digest) (g : ObjRec → ObjRec) : (s.findOrInsert b d g).buckets = s.buckets := by unfold State.findOrInsert; split <;> simp
@[simp] theorem State.findOrInsert_journal (s : State) (b : Nat) (d : Digest) (g : ObjRec → ObjRec) : (s.findOrInsert b d g).journal = s.journal := by unfold State.findOrInsert; split <;> simp
@[simp] theorem State.findOrInsert_body (s : State) (b : Nat) (d : Digest) (g : ObjRec → ObjRec) : (s.findOrInsert b d g).body = s.body := by unfold State.findOrInsert; split <;> simp
@[simp] theorem State.findOrInsert_ports (s : State) (b : Nat) (d : Digest) (g : ObjRec → ObjRec) : (s.findOrInsert b d g).ports = s.ports := by unfold State.findOrInsert; split <;> simp
@[simp] theorem State.findOrInsert_sups (s : State) (b : Nat) (d : Digest) (g : ObjRec → ObjRec) : (s.findOrInsert b d g).sups = s.sups := by unfold State.findOrInsert; split <;> simp
@[simp] theorem State.findOrInsert_apply (s : State) (b : Nat) (d : Digest) (g : ObjRec → ObjRec) : (s.findOrInsert b d g).apply = s.apply := by unfold State.findOrInsert; split <;> simp
@[simp] theorem State.findOrInsert_sli (s : State) (b : Nat) (d : Digest) (g : ObjRec → ObjRec) : (s.findOrInsert b d g).sli = s.sli := by unfold State.findOrInsert; split <;> simp
@[simp] theorem State.findOrInsert_freeCount (s : State) (b : Nat) (d : Digest) (g : ObjRec → ObjRec) : (s.findOrInsert b d g).freeCount = s.freeCount := by unfold State.findOrInsert; split <;> simp
@[simp] theorem State.findOrInsert_pending (s : State) (b : Nat) (d : Digest) (g : ObjRec → ObjRec) : (s.findOrInsert b d g).pending = s.pending := by unfold State.findOrInsert; split <;> simp

@[simp] theorem State.putEntry_now (s : State) (e : JEntry) : (s.putEntry e).now = s.now := rfl
@[simp] theorem State.putEntry_clock (s : State) (e : JEntry) : (s.putEntry e).clock = s.clock := rfl
@[simp] theorem State.putEntry_buckets (s : State) (e : JEntry) : (s.putEntry e).buckets = s.buckets := rfl
@[simp] theorem State.putEntry_map (s : State) (e : JEntry) : (s.putEntry e).map = s.map := rfl
@[simp] theorem State.putEntry_body (s : State) (e : JEntry) : (s.putEntry e).body = s.body := rfl
@[simp] theorem State.putEntry_ports (s : State) (e : JEntry) : (s.putEntry e).ports = s.ports := rfl
@[simp] theorem State.putEntry_sups (s : State) (e : JEntry) : (s.putEntry e).sups = s.sups := rfl
@[simp] theorem State.putEntry_apply (s : State) (e : JEntry) : (s.putEntry e).apply = s.apply := rfl
@[simp] theorem State.putEntry_sli (s : State) (e : JEntry) : (s.putEntry e).sli = s.sli := rfl
@[simp] theorem State.putEntry_freeCount (s : State) (e : JEntry) : (s.putEntry e).freeCount = s.freeCount := rfl
@[simp] theorem State.putEntry_pending (s : State) (e : JEntry) : (s.putEntry e).pending = s.pending := rfl

@[simp] theorem State.setEntries_now (s : State) (es : List JEntry) : (s.setEntries es).now = s.now := rfl
@[simp] theorem State.setEntries_clock (s : State) (es : List JEntry) : (s.setEntries es).clock = s.clock := rfl
@[simp] theorem State.setEntries_buckets (s : State) (es : List JEntry) : (s.setEntries es).buckets = s.buckets := rfl
@[simp] theorem State.setEntries_map (s : State) (es : List JEntry) : (s.setEntries es).map = s.map := rfl
@[simp] theorem State.setEntries_body (s : State) (es : List JEntry) : (s.setEntries es).body = s.body := rfl
@[simp] theorem State.setEntries_ports (s : State) (es : List JEntry) : (s.setEntries es).ports = s.ports := rfl
@[simp] theorem State.setEntries_sups (s : State) (es : List JEntry) : (s.setEntries es).sups = s.sups := rfl
@[simp] theorem State.setEntries_apply (s : State) (es : List JEntry) : (s.setEntries es).apply = s.apply := rfl
@[simp] theorem State.setEntries_sli (s : State) (es : List JEntry) : (s.setEntries es).sli = s.sli := rfl
@[simp] theorem State.setEntries_freeCount (s : State) (es : List JEntry) : (s.setEntries es).freeCount = s.freeCount := rfl
@[simp] theorem State.setEntries_pending (s : State) (es : List JEntry) : (s.setEntries es).pending = s.pending := rfl

@[simp] theorem State.setBucket_now (s : State) (b : Nat) (r : Bucket) : (s.setBucket b r).now = s.now := rfl
@[simp] theorem State.setBucket_clock (s : State) (b : Nat) (r : Bucket) : (s.setBucket b r).clock = s.clock := rfl
@[simp] theorem State.setBucket_journal (s : State) (b : Nat) (r : Bucket) : (s.setBucket b r).journal = s.journal := rfl
@[simp] theorem State.setBucket_map (s : State) (b : Nat) (r : Bucket) : (s.setBucket b r).map = s.map := rfl
@[simp] theorem State.setBucket_body (s : State) (b : Nat) (r : Bucket) : (s.setBucket b r).body = s.body := rfl
@[simp] theorem State.setBucket_ports (s : State) (b : Nat) (r : Bucket) : (s.setBucket b r).ports = s.ports := rfl
@[simp] theorem State.setBucket_sups (s : State) (b : Nat) (r : Bucket) : (s.setBucket b r).sups = s.sups := rfl
@[simp] theorem State.setBucket_apply (s : State) (b : Nat) (r : Bucket) : (s.setBucket b r).apply = s.apply := rfl
@[simp] theorem State.setBucket_sli (s : State) (b : Nat) (r : Bucket) : (s.setBucket b r).sli = s.sli := rfl
@[simp] theorem State.setBucket_freeCount (s : State) (b : Nat) (r : Bucket) : (s.setBucket b r).freeCount = s.freeCount := rfl
@[simp] theorem State.setBucket_pending (s : State) (b : Nat) (r : Bucket) : (s.setBucket b r).pending = s.pending := rfl

@[simp] theorem State.refillRefresh_now (s : State) : (s.refillRefresh).now = s.now := rfl
@[simp] theorem State.refillRefresh_clock (s : State) : (s.refillRefresh).clock = s.clock := rfl
@[simp] theorem State.refillRefresh_buckets (s : State) : (s.refillRefresh).buckets = s.buckets := rfl
@[simp] theorem State.refillRefresh_journal (s : State) : (s.refillRefresh).journal = s.journal := rfl
@[simp] theorem State.refillRefresh_map (s : State) : (s.refillRefresh).map = s.map := rfl
@[simp] theorem State.refillRefresh_ports (s : State) : (s.refillRefresh).ports = s.ports := rfl
@[simp] theorem State.refillRefresh_sups (s : State) : (s.refillRefresh).sups = s.sups := rfl
@[simp] theorem State.refillRefresh_apply (s : State) : (s.refillRefresh).apply = s.apply := rfl
@[simp] theorem State.refillRefresh_sli (s : State) : (s.refillRefresh).sli = s.sli := rfl
@[simp] theorem State.refillRefresh_pending (s : State) : (s.refillRefresh).pending = s.pending := rfl

@[simp] theorem State.releaseSlots_now (s : State) (e : JEntry) : (s.releaseSlots e).now = s.now := by unfold State.releaseSlots; split <;> simp
@[simp] theorem State.releaseSlots_clock (s : State) (e : JEntry) : (s.releaseSlots e).clock = s.clock := by unfold State.releaseSlots; split <;> simp
@[simp] theorem State.releaseSlots_buckets (s : State) (e : JEntry) : (s.releaseSlots e).buckets = s.buckets := by unfold State.releaseSlots; split <;> simp
@[simp] theorem State.releaseSlots_map (s : State) (e : JEntry) : (s.releaseSlots e).map = s.map := by unfold State.releaseSlots; split <;> simp
@[simp] theorem State.releaseSlots_ports (s : State) (e : JEntry) : (s.releaseSlots e).ports = s.ports := by unfold State.releaseSlots; split <;> simp
@[simp] theorem State.releaseSlots_sups (s : State) (e : JEntry) : (s.releaseSlots e).sups = s.sups := by unfold State.releaseSlots; split <;> simp
@[simp] theorem State.releaseSlots_apply (s : State) (e : JEntry) : (s.releaseSlots e).apply = s.apply := by unfold State.releaseSlots; split <;> simp
@[simp] theorem State.releaseSlots_sli (s : State) (e : JEntry) : (s.releaseSlots e).sli = s.sli := by unfold State.releaseSlots; split <;> simp
@[simp] theorem State.releaseSlots_freeCount (s : State) (e : JEntry) : (s.releaseSlots e).freeCount = s.freeCount := by unfold State.releaseSlots; split <;> simp
@[simp] theorem State.releaseSlots_pending (s : State) (e : JEntry) : (s.releaseSlots e).pending = s.pending := by unfold State.releaseSlots; split <;> simp

@[simp] theorem State.parkStart_now (s : State) : (s.parkStart).now = s.now := by unfold State.parkStart; split <;> simp
@[simp] theorem State.parkStart_clock (s : State) : (s.parkStart).clock = s.clock := by unfold State.parkStart; split <;> simp
@[simp] theorem State.parkStart_buckets (s : State) : (s.parkStart).buckets = s.buckets := by unfold State.parkStart; split <;> simp
@[simp] theorem State.parkStart_journal (s : State) : (s.parkStart).journal = s.journal := by unfold State.parkStart; split <;> simp
@[simp] theorem State.parkStart_map (s : State) : (s.parkStart).map = s.map := by unfold State.parkStart; split <;> simp
@[simp] theorem State.parkStart_ports (s : State) : (s.parkStart).ports = s.ports := by unfold State.parkStart; split <;> simp
@[simp] theorem State.parkStart_sups (s : State) : (s.parkStart).sups = s.sups := by unfold State.parkStart; split <;> simp
@[simp] theorem State.parkStart_apply (s : State) : (s.parkStart).apply = s.apply := by unfold State.parkStart; split <;> simp
@[simp] theorem State.parkStart_freeCount (s : State) : (s.parkStart).freeCount = s.freeCount := by unfold State.parkStart; split <;> simp
@[simp] theorem State.parkStart_pending (s : State) : (s.parkStart).pending = s.pending := by unfold State.parkStart; split <;> simp

@[simp] theorem State.reserveSlots_now (s : State) (e : JEntry) : (s.reserveSlots e).now = s.now := by unfold State.reserveSlots; split <;> simp
@[simp] theorem State.reserveSlots_clock (s : State) (e : JEntry) : (s.reserveSlots e).clock = s.clock := by unfold State.reserveSlots; split <;> simp
@[simp] theorem State.reserveSlots_buckets (s : State) (e : JEntry) : (s.reserveSlots e).buckets = s.buckets := by unfold State.reserveSlots; split <;> simp
@[simp] theorem State.reserveSlots_map (s : State) (e : JEntry) : (s.reserveSlots e).map = s.map := by unfold State.reserveSlots; split <;> simp
@[simp] theorem State.reserveSlots_ports (s : State) (e : JEntry) : (s.reserveSlots e).ports = s.ports := by unfold State.reserveSlots; split <;> simp
@[simp] theorem State.reserveSlots_sups (s : State) (e : JEntry) : (s.reserveSlots e).sups = s.sups := by unfold State.reserveSlots; split <;> simp
@[simp] theorem State.reserveSlots_apply (s : State) (e : JEntry) : (s.reserveSlots e).apply = s.apply := by unfold State.reserveSlots; split <;> simp
@[simp] theorem State.reserveSlots_freeCount (s : State) (e : JEntry) : (s.reserveSlots e).freeCount = s.freeCount := by unfold State.reserveSlots; split <;> simp
@[simp] theorem State.reserveSlots_pending (s : State) (e : JEntry) : (s.reserveSlots e).pending = s.pending := by unfold State.reserveSlots; split <;> simp

@[simp] theorem State.drainTest_now (s : State) (b : Nat) : (s.drainTest b).now = s.now := by unfold State.drainTest; dsimp only; split <;> simp
@[simp] theorem State.drainTest_clock (s : State) (b : Nat) : (s.drainTest b).clock = s.clock := by unfold State.drainTest; dsimp only; split <;> simp
@[simp] theorem State.drainTest_journal (s : State) (b : Nat) : (s.drainTest b).journal = s.journal := by unfold State.drainTest; dsimp only; split <;> simp
@[simp] theorem State.drainTest_map (s : State) (b : Nat) : (s.drainTest b).map = s.map := by unfold State.drainTest; dsimp only; split <;> simp
@[simp] theorem State.drainTest_body (s : State) (b : Nat) : (s.drainTest b).body = s.body := by unfold State.drainTest; dsimp only; split <;> simp
@[simp] theorem State.drainTest_ports (s : State) (b : Nat) : (s.drainTest b).ports = s.ports := by unfold State.drainTest; dsimp only; split <;> simp
@[simp] theorem State.drainTest_sups (s : State) (b : Nat) : (s.drainTest b).sups = s.sups := by unfold State.drainTest; dsimp only; split <;> simp
@[simp] theorem State.drainTest_apply (s : State) (b : Nat) : (s.drainTest b).apply = s.apply := by unfold State.drainTest; dsimp only; split <;> simp
@[simp] theorem State.drainTest_sli (s : State) (b : Nat) : (s.drainTest b).sli = s.sli := by unfold State.drainTest; dsimp only; split <;> simp
@[simp] theorem State.drainTest_freeCount (s : State) (b : Nat) : (s.drainTest b).freeCount = s.freeCount := by unfold State.drainTest; dsimp only; split <;> simp
@[simp] theorem State.drainTest_pending (s : State) (b : Nat) : (s.drainTest b).pending = s.pending := by unfold State.drainTest; dsimp only; split <;> simp

@[simp] theorem State.takeOut_now (s : State) (e : JEntry) : (s.takeOut e).now = s.now := by unfold State.takeOut; dsimp only; split <;> simp
@[simp] theorem State.takeOut_clock (s : State) (e : JEntry) : (s.takeOut e).clock = s.clock := by unfold State.takeOut; dsimp only; split <;> simp
@[simp] theorem State.takeOut_buckets (s : State) (e : JEntry) : (s.takeOut e).buckets = s.buckets := by unfold State.takeOut; dsimp only; split <;> simp
@[simp] theorem State.takeOut_ports (s : State) (e : JEntry) : (s.takeOut e).ports = s.ports := by unfold State.takeOut; dsimp only; split <;> simp
@[simp] theorem State.takeOut_sups (s : State) (e : JEntry) : (s.takeOut e).sups = s.sups := by unfold State.takeOut; dsimp only; split <;> simp
@[simp] theorem State.takeOut_apply (s : State) (e : JEntry) : (s.takeOut e).apply = s.apply := by unfold State.takeOut; dsimp only; split <;> simp
@[simp] theorem State.takeOut_sli (s : State) (e : JEntry) : (s.takeOut e).sli = s.sli := by unfold State.takeOut; dsimp only; split <;> simp
@[simp] theorem State.takeOut_freeCount (s : State) (e : JEntry) : (s.takeOut e).freeCount = s.freeCount := by unfold State.takeOut; dsimp only; split <;> simp
@[simp] theorem State.takeOut_pending (s : State) (e : JEntry) : (s.takeOut e).pending = s.pending := by unfold State.takeOut; dsimp only; split <;> simp

@[simp] theorem State.removeEntry_now (s : State) (e : JEntry) : (s.removeEntry e).now = s.now := by simp [State.removeEntry]
@[simp] theorem State.removeEntry_clock (s : State) (e : JEntry) : (s.removeEntry e).clock = s.clock := by simp [State.removeEntry]
@[simp] theorem State.removeEntry_ports (s : State) (e : JEntry) : (s.removeEntry e).ports = s.ports := by simp [State.removeEntry]
@[simp] theorem State.removeEntry_sups (s : State) (e : JEntry) : (s.removeEntry e).sups = s.sups := by simp [State.removeEntry]
@[simp] theorem State.removeEntry_apply (s : State) (e : JEntry) : (s.removeEntry e).apply = s.apply := by simp [State.removeEntry]
@[simp] theorem State.removeEntry_sli (s : State) (e : JEntry) : (s.removeEntry e).sli = s.sli := by simp [State.removeEntry]
@[simp] theorem State.removeEntry_freeCount (s : State) (e : JEntry) : (s.removeEntry e).freeCount = s.freeCount := by simp [State.removeEntry]
@[simp] theorem State.removeEntry_pending (s : State) (e : JEntry) : (s.removeEntry e).pending = s.pending := by simp [State.removeEntry]

@[simp] theorem State.convertVoid_now (s : State) (e : JEntry) : (s.convertVoid e).now = s.now := by simp [State.convertVoid]
@[simp] theorem State.convertVoid_clock (s : State) (e : JEntry) : (s.convertVoid e).clock = s.clock := by simp [State.convertVoid]
@[simp] theorem State.convertVoid_buckets (s : State) (e : JEntry) : (s.convertVoid e).buckets = s.buckets := by simp [State.convertVoid]
@[simp] theorem State.convertVoid_map (s : State) (e : JEntry) : (s.convertVoid e).map = s.map := by simp [State.convertVoid]
@[simp] theorem State.convertVoid_ports (s : State) (e : JEntry) : (s.convertVoid e).ports = s.ports := by simp [State.convertVoid]
@[simp] theorem State.convertVoid_sups (s : State) (e : JEntry) : (s.convertVoid e).sups = s.sups := by simp [State.convertVoid]
@[simp] theorem State.convertVoid_apply (s : State) (e : JEntry) : (s.convertVoid e).apply = s.apply := by simp [State.convertVoid]
@[simp] theorem State.convertVoid_freeCount (s : State) (e : JEntry) : (s.convertVoid e).freeCount = s.freeCount := by simp [State.convertVoid]
@[simp] theorem State.convertVoid_pending (s : State) (e : JEntry) : (s.convertVoid e).pending = s.pending := by simp [State.convertVoid]

@[simp] theorem State.loseEntry_now (s : State) (e : JEntry) : (s.loseEntry e).now = s.now := by simp [State.loseEntry]
@[simp] theorem State.loseEntry_clock (s : State) (e : JEntry) : (s.loseEntry e).clock = s.clock := by simp [State.loseEntry]
@[simp] theorem State.loseEntry_ports (s : State) (e : JEntry) : (s.loseEntry e).ports = s.ports := by simp [State.loseEntry]
@[simp] theorem State.loseEntry_sups (s : State) (e : JEntry) : (s.loseEntry e).sups = s.sups := by simp [State.loseEntry]
@[simp] theorem State.loseEntry_apply (s : State) (e : JEntry) : (s.loseEntry e).apply = s.apply := by simp [State.loseEntry]
@[simp] theorem State.loseEntry_freeCount (s : State) (e : JEntry) : (s.loseEntry e).freeCount = s.freeCount := by simp [State.loseEntry]
@[simp] theorem State.loseEntry_pending (s : State) (e : JEntry) : (s.loseEntry e).pending = s.pending := by simp [State.loseEntry]

@[simp] theorem State.framesLeave_now (s : State) (g : List SentFrame) : (s.framesLeave g).now = s.now := rfl
@[simp] theorem State.framesLeave_clock (s : State) (g : List SentFrame) : (s.framesLeave g).clock = s.clock := rfl
@[simp] theorem State.framesLeave_buckets (s : State) (g : List SentFrame) : (s.framesLeave g).buckets = s.buckets := rfl
@[simp] theorem State.framesLeave_map (s : State) (g : List SentFrame) : (s.framesLeave g).map = s.map := rfl
@[simp] theorem State.framesLeave_body (s : State) (g : List SentFrame) : (s.framesLeave g).body = s.body := rfl
@[simp] theorem State.framesLeave_ports (s : State) (g : List SentFrame) : (s.framesLeave g).ports = s.ports := rfl
@[simp] theorem State.framesLeave_sups (s : State) (g : List SentFrame) : (s.framesLeave g).sups = s.sups := rfl
@[simp] theorem State.framesLeave_apply (s : State) (g : List SentFrame) : (s.framesLeave g).apply = s.apply := rfl
@[simp] theorem State.framesLeave_sli (s : State) (g : List SentFrame) : (s.framesLeave g).sli = s.sli := rfl
@[simp] theorem State.framesLeave_freeCount (s : State) (g : List SentFrame) : (s.framesLeave g).freeCount = s.freeCount := rfl
@[simp] theorem State.framesLeave_pending (s : State) (g : List SentFrame) : (s.framesLeave g).pending = s.pending := rfl

/-! ## Many events, many entries -/

@[simp] theorem State.countEvents_now (s : State) (t : Trunk) (c : CounterName) (n : Nat) : (s.countEvents t c n).now = s.now := by
  induction n generalizing s with
  | zero => rfl
  | succ n ih => simp [State.countEvents, ih]
@[simp] theorem State.countEvents_clock (s : State) (t : Trunk) (c : CounterName) (n : Nat) : (s.countEvents t c n).clock = s.clock := by
  induction n generalizing s with
  | zero => rfl
  | succ n ih => simp [State.countEvents, ih]
@[simp] theorem State.countEvents_buckets (s : State) (t : Trunk) (c : CounterName) (n : Nat) : (s.countEvents t c n).buckets = s.buckets := by
  induction n generalizing s with
  | zero => rfl
  | succ n ih => simp [State.countEvents, ih]
@[simp] theorem State.countEvents_journal (s : State) (t : Trunk) (c : CounterName) (n : Nat) : (s.countEvents t c n).journal = s.journal := by
  induction n generalizing s with
  | zero => rfl
  | succ n ih => simp [State.countEvents, ih]
@[simp] theorem State.countEvents_map (s : State) (t : Trunk) (c : CounterName) (n : Nat) : (s.countEvents t c n).map = s.map := by
  induction n generalizing s with
  | zero => rfl
  | succ n ih => simp [State.countEvents, ih]
@[simp] theorem State.countEvents_body (s : State) (t : Trunk) (c : CounterName) (n : Nat) : (s.countEvents t c n).body = s.body := by
  induction n generalizing s with
  | zero => rfl
  | succ n ih => simp [State.countEvents, ih]
@[simp] theorem State.countEvents_ports (s : State) (t : Trunk) (c : CounterName) (n : Nat) : (s.countEvents t c n).ports = s.ports := by
  induction n generalizing s with
  | zero => rfl
  | succ n ih => simp [State.countEvents, ih]
@[simp] theorem State.countEvents_apply (s : State) (t : Trunk) (c : CounterName) (n : Nat) : (s.countEvents t c n).apply = s.apply := by
  induction n generalizing s with
  | zero => rfl
  | succ n ih => simp [State.countEvents, ih]
@[simp] theorem State.countEvents_freeCount (s : State) (t : Trunk) (c : CounterName) (n : Nat) : (s.countEvents t c n).freeCount = s.freeCount := by
  induction n generalizing s with
  | zero => rfl
  | succ n ih => simp [State.countEvents, ih]
@[simp] theorem State.countEvents_pending (s : State) (t : Trunk) (c : CounterName) (n : Nat) : (s.countEvents t c n).pending = s.pending := by
  induction n generalizing s with
  | zero => rfl
  | succ n ih => simp [State.countEvents, ih]

@[simp] theorem State.foldl_takeOut_now (s : State) (es : List JEntry) : (es.foldl State.takeOut s).now = s.now := by
  induction es generalizing s with
  | nil => rfl
  | cons e es ih => simp [ih]
@[simp] theorem State.foldl_takeOut_clock (s : State) (es : List JEntry) : (es.foldl State.takeOut s).clock = s.clock := by
  induction es generalizing s with
  | nil => rfl
  | cons e es ih => simp [ih]
@[simp] theorem State.foldl_takeOut_buckets (s : State) (es : List JEntry) : (es.foldl State.takeOut s).buckets = s.buckets := by
  induction es generalizing s with
  | nil => rfl
  | cons e es ih => simp [ih]
@[simp] theorem State.foldl_takeOut_ports (s : State) (es : List JEntry) : (es.foldl State.takeOut s).ports = s.ports := by
  induction es generalizing s with
  | nil => rfl
  | cons e es ih => simp [ih]
@[simp] theorem State.foldl_takeOut_sups (s : State) (es : List JEntry) : (es.foldl State.takeOut s).sups = s.sups := by
  induction es generalizing s with
  | nil => rfl
  | cons e es ih => simp [ih]
@[simp] theorem State.foldl_takeOut_apply (s : State) (es : List JEntry) : (es.foldl State.takeOut s).apply = s.apply := by
  induction es generalizing s with
  | nil => rfl
  | cons e es ih => simp [ih]
@[simp] theorem State.foldl_takeOut_sli (s : State) (es : List JEntry) : (es.foldl State.takeOut s).sli = s.sli := by
  induction es generalizing s with
  | nil => rfl
  | cons e es ih => simp [ih]
@[simp] theorem State.foldl_takeOut_freeCount (s : State) (es : List JEntry) : (es.foldl State.takeOut s).freeCount = s.freeCount := by
  induction es generalizing s with
  | nil => rfl
  | cons e es ih => simp [ih]
@[simp] theorem State.foldl_takeOut_pending (s : State) (es : List JEntry) : (es.foldl State.takeOut s).pending = s.pending := by
  induction es generalizing s with
  | nil => rfl
  | cons e es ih => simp [ih]

@[simp] theorem State.foldl_removeEntry_now (s : State) (es : List JEntry) : (es.foldl State.removeEntry s).now = s.now := by
  induction es generalizing s with
  | nil => rfl
  | cons e es ih => simp [ih]
@[simp] theorem State.foldl_removeEntry_clock (s : State) (es : List JEntry) : (es.foldl State.removeEntry s).clock = s.clock := by
  induction es generalizing s with
  | nil => rfl
  | cons e es ih => simp [ih]
@[simp] theorem State.foldl_removeEntry_ports (s : State) (es : List JEntry) : (es.foldl State.removeEntry s).ports = s.ports := by
  induction es generalizing s with
  | nil => rfl
  | cons e es ih => simp [ih]
@[simp] theorem State.foldl_removeEntry_sups (s : State) (es : List JEntry) : (es.foldl State.removeEntry s).sups = s.sups := by
  induction es generalizing s with
  | nil => rfl
  | cons e es ih => simp [ih]
@[simp] theorem State.foldl_removeEntry_apply (s : State) (es : List JEntry) : (es.foldl State.removeEntry s).apply = s.apply := by
  induction es generalizing s with
  | nil => rfl
  | cons e es ih => simp [ih]
@[simp] theorem State.foldl_removeEntry_sli (s : State) (es : List JEntry) : (es.foldl State.removeEntry s).sli = s.sli := by
  induction es generalizing s with
  | nil => rfl
  | cons e es ih => simp [ih]
@[simp] theorem State.foldl_removeEntry_freeCount (s : State) (es : List JEntry) : (es.foldl State.removeEntry s).freeCount = s.freeCount := by
  induction es generalizing s with
  | nil => rfl
  | cons e es ih => simp [ih]
@[simp] theorem State.foldl_removeEntry_pending (s : State) (es : List JEntry) : (es.foldl State.removeEntry s).pending = s.pending := by
  induction es generalizing s with
  | nil => rfl
  | cons e es ih => simp [ih]

@[simp] theorem State.foldl_drainTest_now (s : State) (es : List Nat) : (es.foldl State.drainTest s).now = s.now := by
  induction es generalizing s with
  | nil => rfl
  | cons e es ih => simp [ih]
@[simp] theorem State.foldl_drainTest_clock (s : State) (es : List Nat) : (es.foldl State.drainTest s).clock = s.clock := by
  induction es generalizing s with
  | nil => rfl
  | cons e es ih => simp [ih]
@[simp] theorem State.foldl_drainTest_journal (s : State) (es : List Nat) : (es.foldl State.drainTest s).journal = s.journal := by
  induction es generalizing s with
  | nil => rfl
  | cons e es ih => simp [ih]
@[simp] theorem State.foldl_drainTest_map (s : State) (es : List Nat) : (es.foldl State.drainTest s).map = s.map := by
  induction es generalizing s with
  | nil => rfl
  | cons e es ih => simp [ih]
@[simp] theorem State.foldl_drainTest_body (s : State) (es : List Nat) : (es.foldl State.drainTest s).body = s.body := by
  induction es generalizing s with
  | nil => rfl
  | cons e es ih => simp [ih]
@[simp] theorem State.foldl_drainTest_ports (s : State) (es : List Nat) : (es.foldl State.drainTest s).ports = s.ports := by
  induction es generalizing s with
  | nil => rfl
  | cons e es ih => simp [ih]
@[simp] theorem State.foldl_drainTest_sups (s : State) (es : List Nat) : (es.foldl State.drainTest s).sups = s.sups := by
  induction es generalizing s with
  | nil => rfl
  | cons e es ih => simp [ih]
@[simp] theorem State.foldl_drainTest_apply (s : State) (es : List Nat) : (es.foldl State.drainTest s).apply = s.apply := by
  induction es generalizing s with
  | nil => rfl
  | cons e es ih => simp [ih]
@[simp] theorem State.foldl_drainTest_sli (s : State) (es : List Nat) : (es.foldl State.drainTest s).sli = s.sli := by
  induction es generalizing s with
  | nil => rfl
  | cons e es ih => simp [ih]
@[simp] theorem State.foldl_drainTest_freeCount (s : State) (es : List Nat) : (es.foldl State.drainTest s).freeCount = s.freeCount := by
  induction es generalizing s with
  | nil => rfl
  | cons e es ih => simp [ih]
@[simp] theorem State.foldl_drainTest_pending (s : State) (es : List Nat) : (es.foldl State.drainTest s).pending = s.pending := by
  induction es generalizing s with
  | nil => rfl
  | cons e es ih => simp [ih]

end Sys2Proof.Machine
end

