-- ==== Sys2Proof/Laws/Restart.lean ====
section
/-! SUPPORT. What the operations of the Apply Unit and the restarts of a trunk leave. -/

set_option Elab.async false

namespace Sys2Proof.Machine

@[simp] theorem State.setInRec_now (s : State) (k : Nat) (r : InRec) : (s.setInRec k r).now = s.now := rfl
@[simp] theorem State.setInRec_clock (s : State) (k : Nat) (r : InRec) : (s.setInRec k r).clock = s.clock := rfl
@[simp] theorem State.setInRec_buckets (s : State) (k : Nat) (r : InRec) : (s.setInRec k r).buckets = s.buckets := rfl
@[simp] theorem State.setInRec_journal (s : State) (k : Nat) (r : InRec) : (s.setInRec k r).journal = s.journal := rfl
@[simp] theorem State.setInRec_map (s : State) (k : Nat) (r : InRec) : (s.setInRec k r).map = s.map := rfl
@[simp] theorem State.setInRec_body (s : State) (k : Nat) (r : InRec) : (s.setInRec k r).body = s.body := rfl
@[simp] theorem State.setInRec_ports (s : State) (k : Nat) (r : InRec) : (s.setInRec k r).ports = s.ports := rfl
@[simp] theorem State.setInRec_sups (s : State) (k : Nat) (r : InRec) : (s.setInRec k r).sups = s.sups := rfl
@[simp] theorem State.setInRec_sli (s : State) (k : Nat) (r : InRec) : (s.setInRec k r).sli = s.sli := rfl
@[simp] theorem State.setInRec_freeCount (s : State) (k : Nat) (r : InRec) : (s.setInRec k r).freeCount = s.freeCount := rfl
@[simp] theorem State.setInRec_pending (s : State) (k : Nat) (r : InRec) : (s.setInRec k r).pending = s.pending := rfl

@[simp] theorem State.mapInRecs_now (s : State) (t : Trunk) (g : InRec → InRec) : (s.mapInRecs t g).now = s.now := rfl
@[simp] theorem State.mapInRecs_clock (s : State) (t : Trunk) (g : InRec → InRec) : (s.mapInRecs t g).clock = s.clock := rfl
@[simp] theorem State.mapInRecs_buckets (s : State) (t : Trunk) (g : InRec → InRec) : (s.mapInRecs t g).buckets = s.buckets := rfl
@[simp] theorem State.mapInRecs_journal (s : State) (t : Trunk) (g : InRec → InRec) : (s.mapInRecs t g).journal = s.journal := rfl
@[simp] theorem State.mapInRecs_map (s : State) (t : Trunk) (g : InRec → InRec) : (s.mapInRecs t g).map = s.map := rfl
@[simp] theorem State.mapInRecs_body (s : State) (t : Trunk) (g : InRec → InRec) : (s.mapInRecs t g).body = s.body := rfl
@[simp] theorem State.mapInRecs_ports (s : State) (t : Trunk) (g : InRec → InRec) : (s.mapInRecs t g).ports = s.ports := rfl
@[simp] theorem State.mapInRecs_sups (s : State) (t : Trunk) (g : InRec → InRec) : (s.mapInRecs t g).sups = s.sups := rfl
@[simp] theorem State.mapInRecs_sli (s : State) (t : Trunk) (g : InRec → InRec) : (s.mapInRecs t g).sli = s.sli := rfl
@[simp] theorem State.mapInRecs_freeCount (s : State) (t : Trunk) (g : InRec → InRec) : (s.mapInRecs t g).freeCount = s.freeCount := rfl
@[simp] theorem State.mapInRecs_pending (s : State) (t : Trunk) (g : InRec → InRec) : (s.mapInRecs t g).pending = s.pending := rfl

@[simp] theorem State.discardInbound_now (s : State) (e : InEntry) : (s.discardInbound e).now = s.now := by unfold State.discardInbound; dsimp only; split <;> simp
@[simp] theorem State.discardInbound_clock (s : State) (e : InEntry) : (s.discardInbound e).clock = s.clock := by unfold State.discardInbound; dsimp only; split <;> simp
@[simp] theorem State.discardInbound_buckets (s : State) (e : InEntry) : (s.discardInbound e).buckets = s.buckets := by unfold State.discardInbound; dsimp only; split <;> simp
@[simp] theorem State.discardInbound_journal (s : State) (e : InEntry) : (s.discardInbound e).journal = s.journal := by unfold State.discardInbound; dsimp only; split <;> simp
@[simp] theorem State.discardInbound_ports (s : State) (e : InEntry) : (s.discardInbound e).ports = s.ports := by unfold State.discardInbound; dsimp only; split <;> simp
@[simp] theorem State.discardInbound_sups (s : State) (e : InEntry) : (s.discardInbound e).sups = s.sups := by unfold State.discardInbound; dsimp only; split <;> simp
@[simp] theorem State.discardInbound_sli (s : State) (e : InEntry) : (s.discardInbound e).sli = s.sli := by unfold State.discardInbound; dsimp only; split <;> simp
@[simp] theorem State.discardInbound_freeCount (s : State) (e : InEntry) : (s.discardInbound e).freeCount = s.freeCount := by unfold State.discardInbound; dsimp only; split <;> simp
@[simp] theorem State.discardInbound_pending (s : State) (e : InEntry) : (s.discardInbound e).pending = s.pending := by unfold State.discardInbound; dsimp only; split <;> simp

@[simp] theorem State.offerSlots_now (s : State) : s.offerSlots.now = s.now := rfl
@[simp] theorem State.offerSlots_clock (s : State) : s.offerSlots.clock = s.clock := rfl
@[simp] theorem State.offerSlots_buckets (s : State) : s.offerSlots.buckets = s.buckets := rfl
@[simp] theorem State.offerSlots_journal (s : State) : s.offerSlots.journal = s.journal := rfl
@[simp] theorem State.offerSlots_map (s : State) : s.offerSlots.map = s.map := rfl
@[simp] theorem State.offerSlots_body (s : State) : s.offerSlots.body = s.body := rfl
@[simp] theorem State.offerSlots_ports (s : State) : s.offerSlots.ports = s.ports := rfl
@[simp] theorem State.offerSlots_sups (s : State) : s.offerSlots.sups = s.sups := rfl
@[simp] theorem State.offerSlots_sli (s : State) : s.offerSlots.sli = s.sli := rfl
@[simp] theorem State.offerSlots_pending (s : State) : s.offerSlots.pending = s.pending := rfl
@[simp] theorem State.offerSlots_inRec (s : State) (k : Nat) : s.offerSlots.inRec k = s.inRec k := rfl
@[simp] theorem State.offerSlots_apply_records (s : State) : s.offerSlots.apply.records = s.apply.records := rfl
@[simp] theorem State.offerSlots_apply_slots (s : State) : s.offerSlots.apply.slots = s.apply.slots := rfl
@[simp] theorem State.offerSlots_apply_backlog (s : State) : s.offerSlots.apply.backlog = s.apply.backlog := rfl

@[simp] theorem State.returnSlots_now (s : State) (g : Nat → Bool) : (s.returnSlots g).now = s.now := by unfold State.returnSlots; split <;> rfl
@[simp] theorem State.returnSlots_clock (s : State) (g : Nat → Bool) : (s.returnSlots g).clock = s.clock := by unfold State.returnSlots; split <;> rfl
@[simp] theorem State.returnSlots_buckets (s : State) (g : Nat → Bool) : (s.returnSlots g).buckets = s.buckets := by unfold State.returnSlots; split <;> rfl
@[simp] theorem State.returnSlots_journal (s : State) (g : Nat → Bool) : (s.returnSlots g).journal = s.journal := by unfold State.returnSlots; split <;> rfl
@[simp] theorem State.returnSlots_map (s : State) (g : Nat → Bool) : (s.returnSlots g).map = s.map := by unfold State.returnSlots; split <;> rfl
@[simp] theorem State.returnSlots_body (s : State) (g : Nat → Bool) : (s.returnSlots g).body = s.body := by unfold State.returnSlots; split <;> rfl
@[simp] theorem State.returnSlots_ports (s : State) (g : Nat → Bool) : (s.returnSlots g).ports = s.ports := by unfold State.returnSlots; split <;> rfl
@[simp] theorem State.returnSlots_sups (s : State) (g : Nat → Bool) : (s.returnSlots g).sups = s.sups := by unfold State.returnSlots; split <;> rfl
@[simp] theorem State.returnSlots_sli (s : State) (g : Nat → Bool) : (s.returnSlots g).sli = s.sli := by unfold State.returnSlots; split <;> rfl
@[simp] theorem State.returnSlots_pending (s : State) (g : Nat → Bool) : (s.returnSlots g).pending = s.pending := by unfold State.returnSlots; split <;> rfl
@[simp] theorem State.returnSlots_inRec (s : State) (g : Nat → Bool) (k : Nat) : (s.returnSlots g).inRec k = s.inRec k := by unfold State.returnSlots; split <;> rfl
@[simp] theorem State.returnSlots_apply_records (s : State) (g : Nat → Bool) : (s.returnSlots g).apply.records = s.apply.records := by unfold State.returnSlots; split <;> rfl
@[simp] theorem State.returnSlots_apply_slots (s : State) (g : Nat → Bool) : (s.returnSlots g).apply.slots = s.apply.slots := by unfold State.returnSlots; split <;> rfl
@[simp] theorem State.returnSlots_apply_backlog (s : State) (g : Nat → Bool) : (s.returnSlots g).apply.backlog = s.apply.backlog := by unfold State.returnSlots; split <;> rfl

@[simp] theorem State.freeSlot_now (s : State) (tag : Nat) : (s.freeSlot tag).now = s.now := rfl
@[simp] theorem State.freeSlot_clock (s : State) (tag : Nat) : (s.freeSlot tag).clock = s.clock := rfl
@[simp] theorem State.freeSlot_buckets (s : State) (tag : Nat) : (s.freeSlot tag).buckets = s.buckets := rfl
@[simp] theorem State.freeSlot_journal (s : State) (tag : Nat) : (s.freeSlot tag).journal = s.journal := rfl
@[simp] theorem State.freeSlot_map (s : State) (tag : Nat) : (s.freeSlot tag).map = s.map := rfl
@[simp] theorem State.freeSlot_body (s : State) (tag : Nat) : (s.freeSlot tag).body = s.body := rfl
@[simp] theorem State.freeSlot_ports (s : State) (tag : Nat) : (s.freeSlot tag).ports = s.ports := rfl
@[simp] theorem State.freeSlot_sups (s : State) (tag : Nat) : (s.freeSlot tag).sups = s.sups := rfl
@[simp] theorem State.freeSlot_sli (s : State) (tag : Nat) : (s.freeSlot tag).sli = s.sli := rfl
@[simp] theorem State.freeSlot_pending (s : State) (tag : Nat) : (s.freeSlot tag).pending = s.pending := rfl
@[simp] theorem State.freeSlot_inRec (s : State) (tag k : Nat) : (s.freeSlot tag).inRec k = s.inRec k := rfl
@[simp] theorem State.freeSlot_apply_records (s : State) (tag : Nat) : (s.freeSlot tag).apply.records = s.apply.records := rfl
@[simp] theorem State.freeSlot_apply_slots (s : State) (tag : Nat) : (s.freeSlot tag).apply.slots = s.apply.slots.filter (fun x => x.tag != tag) := rfl
@[simp] theorem State.freeSlot_apply_backlog (s : State) (tag : Nat) : (s.freeSlot tag).apply.backlog = s.apply.backlog := rfl

@[simp] theorem State.forwardTest_now (s : State) (k : Nat) : (s.forwardTest k).now = s.now := by unfold State.forwardTest; dsimp only; (repeat' split) <;> simp
@[simp] theorem State.forwardTest_clock (s : State) (k : Nat) : (s.forwardTest k).clock = s.clock := by unfold State.forwardTest; dsimp only; (repeat' split) <;> simp
@[simp] theorem State.forwardTest_buckets (s : State) (k : Nat) : (s.forwardTest k).buckets = s.buckets := by unfold State.forwardTest; dsimp only; (repeat' split) <;> simp
@[simp] theorem State.forwardTest_journal (s : State) (k : Nat) : (s.forwardTest k).journal = s.journal := by unfold State.forwardTest; dsimp only; (repeat' split) <;> simp
@[simp] theorem State.forwardTest_map (s : State) (k : Nat) : (s.forwardTest k).map = s.map := by unfold State.forwardTest; dsimp only; (repeat' split) <;> simp
@[simp] theorem State.forwardTest_body (s : State) (k : Nat) : (s.forwardTest k).body = s.body := by unfold State.forwardTest; dsimp only; (repeat' split) <;> simp
@[simp] theorem State.forwardTest_ports (s : State) (k : Nat) : (s.forwardTest k).ports = s.ports := by unfold State.forwardTest; dsimp only; (repeat' split) <;> simp
@[simp] theorem State.forwardTest_sups (s : State) (k : Nat) : (s.forwardTest k).sups = s.sups := by unfold State.forwardTest; dsimp only; (repeat' split) <;> simp
@[simp] theorem State.forwardTest_sli (s : State) (k : Nat) : (s.forwardTest k).sli = s.sli := by unfold State.forwardTest; dsimp only; (repeat' split) <;> simp
@[simp] theorem State.forwardTest_pending (s : State) (k : Nat) : (s.forwardTest k).pending = s.pending := by unfold State.forwardTest; dsimp only; (repeat' split) <;> simp
@[simp] theorem State.forwardTest_inRec (s : State) (k j : Nat) : (s.forwardTest k).inRec j = s.inRec j := by unfold State.forwardTest; dsimp only; (repeat' split) <;> first | rfl | simp
@[simp] theorem State.forwardTest_apply_records (s : State) (k : Nat) : (s.forwardTest k).apply.records = s.apply.records := by unfold State.forwardTest; dsimp only; (repeat' split) <;> first | rfl | simp
@[simp] theorem State.forwardTest_apply_slots (s : State) (k : Nat) : (s.forwardTest k).apply.slots = s.apply.slots := by unfold State.forwardTest; dsimp only; (repeat' split) <;> first | rfl | simp
@[simp] theorem State.forwardTest_apply_backlog (s : State) (k : Nat) : (s.forwardTest k).apply.backlog = s.apply.backlog := by unfold State.forwardTest; dsimp only; (repeat' split) <;> first | rfl | simp

@[simp] theorem State.foldl_discardInbound_now (s : State) (es : List InEntry) : (es.foldl State.discardInbound s).now = s.now := by
  induction es generalizing s with
  | nil => rfl
  | cons e es ih => simp [ih]
@[simp] theorem State.foldl_discardInbound_clock (s : State) (es : List InEntry) : (es.foldl State.discardInbound s).clock = s.clock := by
  induction es generalizing s with
  | nil => rfl
  | cons e es ih => simp [ih]
@[simp] theorem State.foldl_discardInbound_buckets (s : State) (es : List InEntry) : (es.foldl State.discardInbound s).buckets = s.buckets := by
  induction es generalizing s with
  | nil => rfl
  | cons e es ih => simp [ih]
@[simp] theorem State.foldl_discardInbound_journal (s : State) (es : List InEntry) : (es.foldl State.discardInbound s).journal = s.journal := by
  induction es generalizing s with
  | nil => rfl
  | cons e es ih => simp [ih]
@[simp] theorem State.foldl_discardInbound_ports (s : State) (es : List InEntry) : (es.foldl State.discardInbound s).ports = s.ports := by
  induction es generalizing s with
  | nil => rfl
  | cons e es ih => simp [ih]
@[simp] theorem State.foldl_discardInbound_sups (s : State) (es : List InEntry) : (es.foldl State.discardInbound s).sups = s.sups := by
  induction es generalizing s with
  | nil => rfl
  | cons e es ih => simp [ih]
@[simp] theorem State.foldl_discardInbound_sli (s : State) (es : List InEntry) : (es.foldl State.discardInbound s).sli = s.sli := by
  induction es generalizing s with
  | nil => rfl
  | cons e es ih => simp [ih]
@[simp] theorem State.foldl_discardInbound_freeCount (s : State) (es : List InEntry) : (es.foldl State.discardInbound s).freeCount = s.freeCount := by
  induction es generalizing s with
  | nil => rfl
  | cons e es ih => simp [ih]
@[simp] theorem State.foldl_discardInbound_pending (s : State) (es : List InEntry) : (es.foldl State.discardInbound s).pending = s.pending := by
  induction es generalizing s with
  | nil => rfl
  | cons e es ih => simp [ih]

@[simp] theorem State.discardAll_now (s : State) (es : List InEntry) : (s.discardAll es).now = s.now := by simp [State.discardAll]
@[simp] theorem State.discardAll_clock (s : State) (es : List InEntry) : (s.discardAll es).clock = s.clock := by simp [State.discardAll]
@[simp] theorem State.discardAll_buckets (s : State) (es : List InEntry) : (s.discardAll es).buckets = s.buckets := by simp [State.discardAll]
@[simp] theorem State.discardAll_journal (s : State) (es : List InEntry) : (s.discardAll es).journal = s.journal := by simp [State.discardAll]
@[simp] theorem State.discardAll_ports (s : State) (es : List InEntry) : (s.discardAll es).ports = s.ports := by simp [State.discardAll]
@[simp] theorem State.discardAll_sups (s : State) (es : List InEntry) : (s.discardAll es).sups = s.sups := by simp [State.discardAll]
@[simp] theorem State.discardAll_sli (s : State) (es : List InEntry) : (s.discardAll es).sli = s.sli := by simp [State.discardAll]
@[simp] theorem State.discardAll_freeCount (s : State) (es : List InEntry) : (s.discardAll es).freeCount = s.freeCount := by simp [State.discardAll]
@[simp] theorem State.discardAll_pending (s : State) (es : List InEntry) : (s.discardAll es).pending = s.pending := by simp [State.discardAll]

@[simp] theorem State.restartInbound_now (s : State) (t : Trunk) : (s.restartInbound t).now = s.now := by simp [State.restartInbound]
@[simp] theorem State.restartInbound_clock (s : State) (t : Trunk) : (s.restartInbound t).clock = s.clock := by simp [State.restartInbound]
@[simp] theorem State.restartInbound_buckets (s : State) (t : Trunk) : (s.restartInbound t).buckets = s.buckets := by simp [State.restartInbound]
@[simp] theorem State.restartInbound_journal (s : State) (t : Trunk) : (s.restartInbound t).journal = s.journal := by simp [State.restartInbound]
@[simp] theorem State.restartInbound_ports (s : State) (t : Trunk) : (s.restartInbound t).ports = s.ports := by simp [State.restartInbound]
@[simp] theorem State.restartInbound_sups (s : State) (t : Trunk) : (s.restartInbound t).sups = s.sups := by simp [State.restartInbound]
@[simp] theorem State.restartInbound_sli (s : State) (t : Trunk) : (s.restartInbound t).sli = s.sli := by simp [State.restartInbound]
@[simp] theorem State.restartInbound_freeCount (s : State) (t : Trunk) : (s.restartInbound t).freeCount = s.freeCount := by simp [State.restartInbound]
@[simp] theorem State.restartInbound_pending (s : State) (t : Trunk) : (s.restartInbound t).pending = s.pending := by simp [State.restartInbound]

@[simp] theorem State.leaveList_now (s : State) (g : Nat → Bool) : (s.leaveList g).now = s.now := rfl
@[simp] theorem State.leaveList_clock (s : State) (g : Nat → Bool) : (s.leaveList g).clock = s.clock := rfl
@[simp] theorem State.leaveList_buckets (s : State) (g : Nat → Bool) : (s.leaveList g).buckets = s.buckets := rfl
@[simp] theorem State.leaveList_journal (s : State) (g : Nat → Bool) : (s.leaveList g).journal = s.journal := rfl
@[simp] theorem State.leaveList_map (s : State) (g : Nat → Bool) : (s.leaveList g).map = s.map := rfl
@[simp] theorem State.leaveList_body (s : State) (g : Nat → Bool) : (s.leaveList g).body = s.body := rfl
@[simp] theorem State.leaveList_ports (s : State) (g : Nat → Bool) : (s.leaveList g).ports = s.ports := rfl
@[simp] theorem State.leaveList_sups (s : State) (g : Nat → Bool) : (s.leaveList g).sups = s.sups := rfl
@[simp] theorem State.leaveList_sli (s : State) (g : Nat → Bool) : (s.leaveList g).sli = s.sli := rfl
@[simp] theorem State.leaveList_freeCount (s : State) (g : Nat → Bool) : (s.leaveList g).freeCount = s.freeCount := rfl
@[simp] theorem State.leaveList_pending (s : State) (g : Nat → Bool) : (s.leaveList g).pending = s.pending := rfl
@[simp] theorem State.leaveList_inRec (s : State) (g : Nat → Bool) (k : Nat) : (s.leaveList g).inRec k = s.inRec k := rfl
@[simp] theorem State.leaveList_apply (s : State) (g : Nat → Bool) :
    (s.leaveList g).apply = { s.apply with waitList := s.apply.waitList.filter fun k => !g k } := rfl

@[simp] theorem State.incarnationInbound_now (s : State) (t : Trunk) : (s.incarnationInbound t).now = s.now := by simp [State.incarnationInbound]
@[simp] theorem State.incarnationInbound_clock (s : State) (t : Trunk) : (s.incarnationInbound t).clock = s.clock := by simp [State.incarnationInbound]
@[simp] theorem State.incarnationInbound_buckets (s : State) (t : Trunk) : (s.incarnationInbound t).buckets = s.buckets := by simp [State.incarnationInbound]
@[simp] theorem State.incarnationInbound_journal (s : State) (t : Trunk) : (s.incarnationInbound t).journal = s.journal := by simp [State.incarnationInbound]
@[simp] theorem State.incarnationInbound_ports (s : State) (t : Trunk) : (s.incarnationInbound t).ports = s.ports := by simp [State.incarnationInbound]
@[simp] theorem State.incarnationInbound_sups (s : State) (t : Trunk) : (s.incarnationInbound t).sups = s.sups := by simp [State.incarnationInbound]
@[simp] theorem State.incarnationInbound_sli (s : State) (t : Trunk) : (s.incarnationInbound t).sli = s.sli := by simp [State.incarnationInbound]
@[simp] theorem State.incarnationInbound_freeCount (s : State) (t : Trunk) : (s.incarnationInbound t).freeCount = s.freeCount := by simp [State.incarnationInbound]
@[simp] theorem State.incarnationInbound_pending (s : State) (t : Trunk) : (s.incarnationInbound t).pending = s.pending := by simp [State.incarnationInbound]

@[simp] theorem State.peerChangeInbound_now (s : State) (t : Trunk) : (s.peerChangeInbound t).now = s.now := by simp [State.peerChangeInbound]
@[simp] theorem State.peerChangeInbound_clock (s : State) (t : Trunk) : (s.peerChangeInbound t).clock = s.clock := by simp [State.peerChangeInbound]
@[simp] theorem State.peerChangeInbound_buckets (s : State) (t : Trunk) : (s.peerChangeInbound t).buckets = s.buckets := by simp [State.peerChangeInbound]
@[simp] theorem State.peerChangeInbound_journal (s : State) (t : Trunk) : (s.peerChangeInbound t).journal = s.journal := by simp [State.peerChangeInbound]
@[simp] theorem State.peerChangeInbound_ports (s : State) (t : Trunk) : (s.peerChangeInbound t).ports = s.ports := by simp [State.peerChangeInbound]
@[simp] theorem State.peerChangeInbound_sups (s : State) (t : Trunk) : (s.peerChangeInbound t).sups = s.sups := by simp [State.peerChangeInbound]
@[simp] theorem State.peerChangeInbound_sli (s : State) (t : Trunk) : (s.peerChangeInbound t).sli = s.sli := by simp [State.peerChangeInbound]
@[simp] theorem State.peerChangeInbound_pending (s : State) (t : Trunk) : (s.peerChangeInbound t).pending = s.pending := by simp [State.peerChangeInbound]

@[simp] theorem State.trunkRestart_now (s : State) (t : Trunk) (goal : TrunkState) (cause : Option Signature) : (s.trunkRestart t goal cause).now = s.now := by simp [State.trunkRestart]
@[simp] theorem State.trunkRestart_clock (s : State) (t : Trunk) (goal : TrunkState) (cause : Option Signature) : (s.trunkRestart t goal cause).clock = s.clock := by simp [State.trunkRestart]
@[simp] theorem State.trunkRestart_buckets (s : State) (t : Trunk) (goal : TrunkState) (cause : Option Signature) : (s.trunkRestart t goal cause).buckets = s.buckets := by simp [State.trunkRestart]
@[simp] theorem State.trunkRestart_sli (s : State) (t : Trunk) (goal : TrunkState) (cause : Option Signature) : (s.trunkRestart t goal cause).sli = s.sli := by simp [State.trunkRestart]
@[simp] theorem State.trunkRestart_pending (s : State) (t : Trunk) (goal : TrunkState) (cause : Option Signature) : (s.trunkRestart t goal cause).pending = s.pending := by simp [State.trunkRestart]

@[simp] theorem State.moveDown_now (s : State) (t : Trunk) : (s.moveDown t).now = s.now := by simp [State.moveDown]
@[simp] theorem State.moveDown_clock (s : State) (t : Trunk) : (s.moveDown t).clock = s.clock := by simp [State.moveDown]
@[simp] theorem State.moveDown_buckets (s : State) (t : Trunk) : (s.moveDown t).buckets = s.buckets := by simp [State.moveDown]
@[simp] theorem State.moveDown_pending (s : State) (t : Trunk) : (s.moveDown t).pending = s.pending := by simp [State.moveDown]

@[simp] theorem State.moveFaulted_now (s : State) (t : Trunk) (c : Signature) : (s.moveFaulted t c).now = s.now := by simp [State.moveFaulted]
@[simp] theorem State.moveFaulted_clock (s : State) (t : Trunk) (c : Signature) : (s.moveFaulted t c).clock = s.clock := by simp [State.moveFaulted]
@[simp] theorem State.moveFaulted_buckets (s : State) (t : Trunk) (c : Signature) : (s.moveFaulted t c).buckets = s.buckets := by simp [State.moveFaulted]
@[simp] theorem State.moveFaulted_pending (s : State) (t : Trunk) (c : Signature) : (s.moveFaulted t c).pending = s.pending := by simp [State.moveFaulted]

@[simp] theorem State.protocolRestart_now (s : State) (t : Trunk) : (s.protocolRestart t).now = s.now := by simp [State.protocolRestart]
@[simp] theorem State.protocolRestart_clock (s : State) (t : Trunk) : (s.protocolRestart t).clock = s.clock := by simp [State.protocolRestart]
@[simp] theorem State.protocolRestart_buckets (s : State) (t : Trunk) : (s.protocolRestart t).buckets = s.buckets := by simp [State.protocolRestart]
@[simp] theorem State.protocolRestart_sli (s : State) (t : Trunk) : (s.protocolRestart t).sli = s.sli := by simp [State.protocolRestart]
@[simp] theorem State.protocolRestart_pending (s : State) (t : Trunk) : (s.protocolRestart t).pending = s.pending := by simp [State.protocolRestart]

@[simp] theorem State.enterAlign_now (s : State) (t : Trunk) : (s.enterAlign t).now = s.now := rfl
@[simp] theorem State.enterAlign_clock (s : State) (t : Trunk) : (s.enterAlign t).clock = s.clock := rfl
@[simp] theorem State.enterAlign_buckets (s : State) (t : Trunk) : (s.enterAlign t).buckets = s.buckets := rfl
@[simp] theorem State.enterAlign_journal (s : State) (t : Trunk) : (s.enterAlign t).journal = s.journal := rfl
@[simp] theorem State.enterAlign_map (s : State) (t : Trunk) : (s.enterAlign t).map = s.map := rfl
@[simp] theorem State.enterAlign_body (s : State) (t : Trunk) : (s.enterAlign t).body = s.body := rfl
@[simp] theorem State.enterAlign_apply (s : State) (t : Trunk) : (s.enterAlign t).apply = s.apply := rfl
@[simp] theorem State.enterAlign_sli (s : State) (t : Trunk) : (s.enterAlign t).sli = s.sli := rfl
@[simp] theorem State.enterAlign_freeCount (s : State) (t : Trunk) : (s.enterAlign t).freeCount = s.freeCount := rfl
@[simp] theorem State.enterAlign_pending (s : State) (t : Trunk) : (s.enterAlign t).pending = s.pending := rfl

@[simp] theorem State.enterRunning_now (s : State) (t : Trunk) : (s.enterRunning t).now = s.now := rfl
@[simp] theorem State.enterRunning_clock (s : State) (t : Trunk) : (s.enterRunning t).clock = s.clock := rfl
@[simp] theorem State.enterRunning_buckets (s : State) (t : Trunk) : (s.enterRunning t).buckets = s.buckets := rfl
@[simp] theorem State.enterRunning_journal (s : State) (t : Trunk) : (s.enterRunning t).journal = s.journal := rfl
@[simp] theorem State.enterRunning_map (s : State) (t : Trunk) : (s.enterRunning t).map = s.map := rfl
@[simp] theorem State.enterRunning_apply (s : State) (t : Trunk) : (s.enterRunning t).apply = s.apply := rfl
@[simp] theorem State.enterRunning_sli (s : State) (t : Trunk) : (s.enterRunning t).sli = s.sli := rfl
@[simp] theorem State.enterRunning_pending (s : State) (t : Trunk) : (s.enterRunning t).pending = s.pending := rfl

@[simp] theorem State.enterResync_now (s : State) (t : Trunk) : (s.enterResync t).now = s.now := rfl
@[simp] theorem State.enterResync_clock (s : State) (t : Trunk) : (s.enterResync t).clock = s.clock := rfl
@[simp] theorem State.enterResync_buckets (s : State) (t : Trunk) : (s.enterResync t).buckets = s.buckets := rfl
@[simp] theorem State.enterResync_journal (s : State) (t : Trunk) : (s.enterResync t).journal = s.journal := rfl
@[simp] theorem State.enterResync_map (s : State) (t : Trunk) : (s.enterResync t).map = s.map := rfl
@[simp] theorem State.enterResync_body (s : State) (t : Trunk) : (s.enterResync t).body = s.body := rfl
@[simp] theorem State.enterResync_apply (s : State) (t : Trunk) : (s.enterResync t).apply = s.apply := rfl
@[simp] theorem State.enterResync_freeCount (s : State) (t : Trunk) : (s.enterResync t).freeCount = s.freeCount := rfl
@[simp] theorem State.enterResync_pending (s : State) (t : Trunk) : (s.enterResync t).pending = s.pending := rfl

@[simp] theorem State.regainRunning_now (s : State) (t : Trunk) : (s.regainRunning t).now = s.now := rfl
@[simp] theorem State.regainRunning_clock (s : State) (t : Trunk) : (s.regainRunning t).clock = s.clock := rfl
@[simp] theorem State.regainRunning_buckets (s : State) (t : Trunk) : (s.regainRunning t).buckets = s.buckets := rfl
@[simp] theorem State.regainRunning_journal (s : State) (t : Trunk) : (s.regainRunning t).journal = s.journal := rfl
@[simp] theorem State.regainRunning_map (s : State) (t : Trunk) : (s.regainRunning t).map = s.map := rfl
@[simp] theorem State.regainRunning_body (s : State) (t : Trunk) : (s.regainRunning t).body = s.body := rfl
@[simp] theorem State.regainRunning_apply (s : State) (t : Trunk) : (s.regainRunning t).apply = s.apply := rfl
@[simp] theorem State.regainRunning_sli (s : State) (t : Trunk) : (s.regainRunning t).sli = s.sli := rfl
@[simp] theorem State.regainRunning_freeCount (s : State) (t : Trunk) : (s.regainRunning t).freeCount = s.freeCount := rfl
@[simp] theorem State.regainRunning_pending (s : State) (t : Trunk) : (s.regainRunning t).pending = s.pending := rfl

@[simp] theorem State.dropSlotFrom_now (s : State) (t : Trunk) (g : Nat → Bool) : (s.dropSlotFrom t g).now = s.now := rfl
@[simp] theorem State.dropSlotFrom_clock (s : State) (t : Trunk) (g : Nat → Bool) : (s.dropSlotFrom t g).clock = s.clock := rfl
@[simp] theorem State.dropSlotFrom_buckets (s : State) (t : Trunk) (g : Nat → Bool) : (s.dropSlotFrom t g).buckets = s.buckets := rfl
@[simp] theorem State.dropSlotFrom_map (s : State) (t : Trunk) (g : Nat → Bool) : (s.dropSlotFrom t g).map = s.map := rfl
@[simp] theorem State.dropSlotFrom_body (s : State) (t : Trunk) (g : Nat → Bool) : (s.dropSlotFrom t g).body = s.body := rfl
@[simp] theorem State.dropSlotFrom_ports (s : State) (t : Trunk) (g : Nat → Bool) : (s.dropSlotFrom t g).ports = s.ports := rfl
@[simp] theorem State.dropSlotFrom_sups (s : State) (t : Trunk) (g : Nat → Bool) : (s.dropSlotFrom t g).sups = s.sups := rfl
@[simp] theorem State.dropSlotFrom_apply (s : State) (t : Trunk) (g : Nat → Bool) : (s.dropSlotFrom t g).apply = s.apply := rfl
@[simp] theorem State.dropSlotFrom_sli (s : State) (t : Trunk) (g : Nat → Bool) : (s.dropSlotFrom t g).sli = s.sli := rfl
@[simp] theorem State.dropSlotFrom_freeCount (s : State) (t : Trunk) (g : Nat → Bool) : (s.dropSlotFrom t g).freeCount = s.freeCount := rfl
@[simp] theorem State.dropSlotFrom_pending (s : State) (t : Trunk) (g : Nat → Bool) : (s.dropSlotFrom t g).pending = s.pending := rfl

@[simp] theorem State.drainAll_now (s : State) : (s.drainAll).now = s.now := by simp [State.drainAll]
@[simp] theorem State.drainAll_clock (s : State) : (s.drainAll).clock = s.clock := by simp [State.drainAll]
@[simp] theorem State.drainAll_journal (s : State) : (s.drainAll).journal = s.journal := by simp [State.drainAll]
@[simp] theorem State.drainAll_map (s : State) : (s.drainAll).map = s.map := by simp [State.drainAll]
@[simp] theorem State.drainAll_body (s : State) : (s.drainAll).body = s.body := by simp [State.drainAll]
@[simp] theorem State.drainAll_ports (s : State) : (s.drainAll).ports = s.ports := by simp [State.drainAll]
@[simp] theorem State.drainAll_sups (s : State) : (s.drainAll).sups = s.sups := by simp [State.drainAll]
@[simp] theorem State.drainAll_apply (s : State) : (s.drainAll).apply = s.apply := by simp [State.drainAll]
@[simp] theorem State.drainAll_sli (s : State) : (s.drainAll).sli = s.sli := by simp [State.drainAll]
@[simp] theorem State.drainAll_freeCount (s : State) : (s.drainAll).freeCount = s.freeCount := by simp [State.drainAll]
@[simp] theorem State.drainAll_pending (s : State) : (s.drainAll).pending = s.pending := by simp [State.drainAll]

@[simp] theorem State.peerChange_now (s : State) (t : Trunk) : (s.peerChange t).now = s.now := by simp [State.peerChange]
@[simp] theorem State.peerChange_clock (s : State) (t : Trunk) : (s.peerChange t).clock = s.clock := by simp [State.peerChange]
@[simp] theorem State.peerChange_sups (s : State) (t : Trunk) : (s.peerChange t).sups = s.sups := by simp [State.peerChange]
@[simp] theorem State.peerChange_sli (s : State) (t : Trunk) : (s.peerChange t).sli = s.sli := by simp [State.peerChange]
@[simp] theorem State.peerChange_pending (s : State) (t : Trunk) : (s.peerChange t).pending = s.pending := by simp [State.peerChange]

end Sys2Proof.Machine
end

