-- ==== Sys2Proof/Laws/Receiving.lean ====
section
/-! SUPPORT. What the receive side of a trunk leaves. -/

set_option Elab.async false

namespace Sys2Proof.Machine

@[simp] theorem State.countArrival_now (s : State) (t : Trunk) : (s.countArrival t).now = s.now := rfl
@[simp] theorem State.countArrival_clock (s : State) (t : Trunk) : (s.countArrival t).clock = s.clock := rfl
@[simp] theorem State.countArrival_buckets (s : State) (t : Trunk) : (s.countArrival t).buckets = s.buckets := rfl
@[simp] theorem State.countArrival_journal (s : State) (t : Trunk) : (s.countArrival t).journal = s.journal := rfl
@[simp] theorem State.countArrival_map (s : State) (t : Trunk) : (s.countArrival t).map = s.map := rfl
@[simp] theorem State.countArrival_body (s : State) (t : Trunk) : (s.countArrival t).body = s.body := rfl
@[simp] theorem State.countArrival_sups (s : State) (t : Trunk) : (s.countArrival t).sups = s.sups := rfl
@[simp] theorem State.countArrival_apply (s : State) (t : Trunk) : (s.countArrival t).apply = s.apply := rfl
@[simp] theorem State.countArrival_sli (s : State) (t : Trunk) : (s.countArrival t).sli = s.sli := rfl
@[simp] theorem State.countArrival_freeCount (s : State) (t : Trunk) : (s.countArrival t).freeCount = s.freeCount := rfl
@[simp] theorem State.countArrival_pending (s : State) (t : Trunk) : (s.countArrival t).pending = s.pending := rfl

@[simp] theorem State.reportArrival_now (s : State) (t : Trunk) (v : Bool) (m : Marks) : (s.reportArrival t v m).now = s.now := by unfold State.reportArrival; dsimp only; split <;> simp
@[simp] theorem State.reportArrival_clock (s : State) (t : Trunk) (v : Bool) (m : Marks) : (s.reportArrival t v m).clock = s.clock := by unfold State.reportArrival; dsimp only; split <;> simp
@[simp] theorem State.reportArrival_buckets (s : State) (t : Trunk) (v : Bool) (m : Marks) : (s.reportArrival t v m).buckets = s.buckets := by unfold State.reportArrival; dsimp only; split <;> simp
@[simp] theorem State.reportArrival_journal (s : State) (t : Trunk) (v : Bool) (m : Marks) : (s.reportArrival t v m).journal = s.journal := by unfold State.reportArrival; dsimp only; split <;> simp
@[simp] theorem State.reportArrival_map (s : State) (t : Trunk) (v : Bool) (m : Marks) : (s.reportArrival t v m).map = s.map := by unfold State.reportArrival; dsimp only; split <;> simp
@[simp] theorem State.reportArrival_body (s : State) (t : Trunk) (v : Bool) (m : Marks) : (s.reportArrival t v m).body = s.body := by unfold State.reportArrival; dsimp only; split <;> simp
@[simp] theorem State.reportArrival_ports (s : State) (t : Trunk) (v : Bool) (m : Marks) : (s.reportArrival t v m).ports = s.ports := by unfold State.reportArrival; dsimp only; split <;> simp
@[simp] theorem State.reportArrival_apply (s : State) (t : Trunk) (v : Bool) (m : Marks) : (s.reportArrival t v m).apply = s.apply := by unfold State.reportArrival; dsimp only; split <;> simp
@[simp] theorem State.reportArrival_freeCount (s : State) (t : Trunk) (v : Bool) (m : Marks) : (s.reportArrival t v m).freeCount = s.freeCount := by unfold State.reportArrival; dsimp only; split <;> simp
@[simp] theorem State.reportArrival_pending (s : State) (t : Trunk) (v : Bool) (m : Marks) : (s.reportArrival t v m).pending = s.pending := by unfold State.reportArrival; dsimp only; split <;> simp

@[simp] theorem State.headError_now (s : State) (t : Trunk) : (s.headError t).now = s.now := by unfold State.headError; dsimp only; (repeat' split) <;> simp
@[simp] theorem State.headError_clock (s : State) (t : Trunk) : (s.headError t).clock = s.clock := by unfold State.headError; dsimp only; (repeat' split) <;> simp
@[simp] theorem State.headError_buckets (s : State) (t : Trunk) : (s.headError t).buckets = s.buckets := by unfold State.headError; dsimp only; (repeat' split) <;> simp
@[simp] theorem State.headError_journal (s : State) (t : Trunk) : (s.headError t).journal = s.journal := by unfold State.headError; dsimp only; (repeat' split) <;> simp
@[simp] theorem State.headError_map (s : State) (t : Trunk) : (s.headError t).map = s.map := by unfold State.headError; dsimp only; (repeat' split) <;> simp
@[simp] theorem State.headError_body (s : State) (t : Trunk) : (s.headError t).body = s.body := by unfold State.headError; dsimp only; (repeat' split) <;> simp
@[simp] theorem State.headError_apply (s : State) (t : Trunk) : (s.headError t).apply = s.apply := by unfold State.headError; dsimp only; (repeat' split) <;> simp
@[simp] theorem State.headError_freeCount (s : State) (t : Trunk) : (s.headError t).freeCount = s.freeCount := by unfold State.headError; dsimp only; (repeat' split) <;> simp
@[simp] theorem State.headError_pending (s : State) (t : Trunk) : (s.headError t).pending = s.pending := by unfold State.headError; dsimp only; (repeat' split) <;> simp

@[simp] theorem State.lockArrival_now (s : State) (t : Trunk) (k : Option Nat) : (s.lockArrival t k).now = s.now := by unfold State.lockArrival; dsimp only; (repeat' split) <;> simp
@[simp] theorem State.lockArrival_clock (s : State) (t : Trunk) (k : Option Nat) : (s.lockArrival t k).clock = s.clock := by unfold State.lockArrival; dsimp only; (repeat' split) <;> simp
@[simp] theorem State.lockArrival_buckets (s : State) (t : Trunk) (k : Option Nat) : (s.lockArrival t k).buckets = s.buckets := by unfold State.lockArrival; dsimp only; (repeat' split) <;> simp
@[simp] theorem State.lockArrival_journal (s : State) (t : Trunk) (k : Option Nat) : (s.lockArrival t k).journal = s.journal := by unfold State.lockArrival; dsimp only; (repeat' split) <;> simp
@[simp] theorem State.lockArrival_map (s : State) (t : Trunk) (k : Option Nat) : (s.lockArrival t k).map = s.map := by unfold State.lockArrival; dsimp only; (repeat' split) <;> simp
@[simp] theorem State.lockArrival_body (s : State) (t : Trunk) (k : Option Nat) : (s.lockArrival t k).body = s.body := by unfold State.lockArrival; dsimp only; (repeat' split) <;> simp
@[simp] theorem State.lockArrival_apply (s : State) (t : Trunk) (k : Option Nat) : (s.lockArrival t k).apply = s.apply := by unfold State.lockArrival; dsimp only; (repeat' split) <;> simp
@[simp] theorem State.lockArrival_freeCount (s : State) (t : Trunk) (k : Option Nat) : (s.lockArrival t k).freeCount = s.freeCount := by unfold State.lockArrival; dsimp only; (repeat' split) <;> simp
@[simp] theorem State.lockArrival_pending (s : State) (t : Trunk) (k : Option Nat) : (s.lockArrival t k).pending = s.pending := by unfold State.lockArrival; dsimp only; (repeat' split) <;> simp

@[simp] theorem State.lockStep_now (s : State) (t : Trunk) (k : Option Nat) : (s.lockStep t k).now = s.now := by unfold State.lockStep; split <;> simp
@[simp] theorem State.lockStep_clock (s : State) (t : Trunk) (k : Option Nat) : (s.lockStep t k).clock = s.clock := by unfold State.lockStep; split <;> simp
@[simp] theorem State.lockStep_buckets (s : State) (t : Trunk) (k : Option Nat) : (s.lockStep t k).buckets = s.buckets := by unfold State.lockStep; split <;> simp
@[simp] theorem State.lockStep_journal (s : State) (t : Trunk) (k : Option Nat) : (s.lockStep t k).journal = s.journal := by unfold State.lockStep; split <;> simp
@[simp] theorem State.lockStep_map (s : State) (t : Trunk) (k : Option Nat) : (s.lockStep t k).map = s.map := by unfold State.lockStep; split <;> simp
@[simp] theorem State.lockStep_body (s : State) (t : Trunk) (k : Option Nat) : (s.lockStep t k).body = s.body := by unfold State.lockStep; split <;> simp
@[simp] theorem State.lockStep_apply (s : State) (t : Trunk) (k : Option Nat) : (s.lockStep t k).apply = s.apply := by unfold State.lockStep; split <;> simp
@[simp] theorem State.lockStep_freeCount (s : State) (t : Trunk) (k : Option Nat) : (s.lockStep t k).freeCount = s.freeCount := by unfold State.lockStep; split <;> simp
@[simp] theorem State.lockStep_pending (s : State) (t : Trunk) (k : Option Nat) : (s.lockStep t k).pending = s.pending := by unfold State.lockStep; split <;> simp

@[simp] theorem State.headFlags_now (s : State) (t : Trunk) (f : HeadFrame) : (s.headFlags t f).now = s.now := by unfold State.headFlags; dsimp only; split <;> simp
@[simp] theorem State.headFlags_clock (s : State) (t : Trunk) (f : HeadFrame) : (s.headFlags t f).clock = s.clock := by unfold State.headFlags; dsimp only; split <;> simp
@[simp] theorem State.headFlags_buckets (s : State) (t : Trunk) (f : HeadFrame) : (s.headFlags t f).buckets = s.buckets := by unfold State.headFlags; dsimp only; split <;> simp
@[simp] theorem State.headFlags_journal (s : State) (t : Trunk) (f : HeadFrame) : (s.headFlags t f).journal = s.journal := by unfold State.headFlags; dsimp only; split <;> simp
@[simp] theorem State.headFlags_map (s : State) (t : Trunk) (f : HeadFrame) : (s.headFlags t f).map = s.map := by unfold State.headFlags; dsimp only; split <;> simp
@[simp] theorem State.headFlags_body (s : State) (t : Trunk) (f : HeadFrame) : (s.headFlags t f).body = s.body := by unfold State.headFlags; dsimp only; split <;> simp
@[simp] theorem State.headFlags_sups (s : State) (t : Trunk) (f : HeadFrame) : (s.headFlags t f).sups = s.sups := by unfold State.headFlags; dsimp only; split <;> simp
@[simp] theorem State.headFlags_apply (s : State) (t : Trunk) (f : HeadFrame) : (s.headFlags t f).apply = s.apply := by unfold State.headFlags; dsimp only; split <;> simp
@[simp] theorem State.headFlags_freeCount (s : State) (t : Trunk) (f : HeadFrame) : (s.headFlags t f).freeCount = s.freeCount := by unfold State.headFlags; dsimp only; split <;> simp
@[simp] theorem State.headFlags_pending (s : State) (t : Trunk) (f : HeadFrame) : (s.headFlags t f).pending = s.pending := by unfold State.headFlags; dsimp only; split <;> simp

@[simp] theorem State.setPrevHead_now (s : State) (t : Trunk) (b : Bool) : (s.setPrevHead t b).now = s.now := rfl
@[simp] theorem State.setPrevHead_clock (s : State) (t : Trunk) (b : Bool) : (s.setPrevHead t b).clock = s.clock := rfl
@[simp] theorem State.setPrevHead_buckets (s : State) (t : Trunk) (b : Bool) : (s.setPrevHead t b).buckets = s.buckets := rfl
@[simp] theorem State.setPrevHead_journal (s : State) (t : Trunk) (b : Bool) : (s.setPrevHead t b).journal = s.journal := rfl
@[simp] theorem State.setPrevHead_map (s : State) (t : Trunk) (b : Bool) : (s.setPrevHead t b).map = s.map := rfl
@[simp] theorem State.setPrevHead_body (s : State) (t : Trunk) (b : Bool) : (s.setPrevHead t b).body = s.body := rfl
@[simp] theorem State.setPrevHead_sups (s : State) (t : Trunk) (b : Bool) : (s.setPrevHead t b).sups = s.sups := rfl
@[simp] theorem State.setPrevHead_apply (s : State) (t : Trunk) (b : Bool) : (s.setPrevHead t b).apply = s.apply := rfl
@[simp] theorem State.setPrevHead_sli (s : State) (t : Trunk) (b : Bool) : (s.setPrevHead t b).sli = s.sli := rfl
@[simp] theorem State.setPrevHead_freeCount (s : State) (t : Trunk) (b : Bool) : (s.setPrevHead t b).freeCount = s.freeCount := rfl
@[simp] theorem State.setPrevHead_pending (s : State) (t : Trunk) (b : Bool) : (s.setPrevHead t b).pending = s.pending := rfl

@[simp] theorem State.setPeerHears_now (s : State) (t : Trunk) (b : Bool) : (s.setPeerHears t b).now = s.now := rfl
@[simp] theorem State.setPeerHears_clock (s : State) (t : Trunk) (b : Bool) : (s.setPeerHears t b).clock = s.clock := rfl
@[simp] theorem State.setPeerHears_buckets (s : State) (t : Trunk) (b : Bool) : (s.setPeerHears t b).buckets = s.buckets := rfl
@[simp] theorem State.setPeerHears_journal (s : State) (t : Trunk) (b : Bool) : (s.setPeerHears t b).journal = s.journal := rfl
@[simp] theorem State.setPeerHears_map (s : State) (t : Trunk) (b : Bool) : (s.setPeerHears t b).map = s.map := rfl
@[simp] theorem State.setPeerHears_body (s : State) (t : Trunk) (b : Bool) : (s.setPeerHears t b).body = s.body := rfl
@[simp] theorem State.setPeerHears_sups (s : State) (t : Trunk) (b : Bool) : (s.setPeerHears t b).sups = s.sups := rfl
@[simp] theorem State.setPeerHears_apply (s : State) (t : Trunk) (b : Bool) : (s.setPeerHears t b).apply = s.apply := rfl
@[simp] theorem State.setPeerHears_sli (s : State) (t : Trunk) (b : Bool) : (s.setPeerHears t b).sli = s.sli := rfl
@[simp] theorem State.setPeerHears_freeCount (s : State) (t : Trunk) (b : Bool) : (s.setPeerHears t b).freeCount = s.freeCount := rfl
@[simp] theorem State.setPeerHears_pending (s : State) (t : Trunk) (b : Bool) : (s.setPeerHears t b).pending = s.pending := rfl

@[simp] theorem State.setHeard_now (s : State) (t : Trunk) : (s.setHeard t).now = s.now := rfl
@[simp] theorem State.setHeard_clock (s : State) (t : Trunk) : (s.setHeard t).clock = s.clock := rfl
@[simp] theorem State.setHeard_buckets (s : State) (t : Trunk) : (s.setHeard t).buckets = s.buckets := rfl
@[simp] theorem State.setHeard_journal (s : State) (t : Trunk) : (s.setHeard t).journal = s.journal := rfl
@[simp] theorem State.setHeard_map (s : State) (t : Trunk) : (s.setHeard t).map = s.map := rfl
@[simp] theorem State.setHeard_body (s : State) (t : Trunk) : (s.setHeard t).body = s.body := rfl
@[simp] theorem State.setHeard_sups (s : State) (t : Trunk) : (s.setHeard t).sups = s.sups := rfl
@[simp] theorem State.setHeard_apply (s : State) (t : Trunk) : (s.setHeard t).apply = s.apply := rfl
@[simp] theorem State.setHeard_sli (s : State) (t : Trunk) : (s.setHeard t).sli = s.sli := rfl
@[simp] theorem State.setHeard_freeCount (s : State) (t : Trunk) : (s.setHeard t).freeCount = s.freeCount := rfl
@[simp] theorem State.setHeard_pending (s : State) (t : Trunk) : (s.setHeard t).pending = s.pending := rfl

@[simp] theorem State.downToHunt_now (s : State) (t : Trunk) : (s.downToHunt t).now = s.now := rfl
@[simp] theorem State.downToHunt_clock (s : State) (t : Trunk) : (s.downToHunt t).clock = s.clock := rfl
@[simp] theorem State.downToHunt_buckets (s : State) (t : Trunk) : (s.downToHunt t).buckets = s.buckets := rfl
@[simp] theorem State.downToHunt_journal (s : State) (t : Trunk) : (s.downToHunt t).journal = s.journal := rfl
@[simp] theorem State.downToHunt_map (s : State) (t : Trunk) : (s.downToHunt t).map = s.map := rfl
@[simp] theorem State.downToHunt_body (s : State) (t : Trunk) : (s.downToHunt t).body = s.body := rfl
@[simp] theorem State.downToHunt_sups (s : State) (t : Trunk) : (s.downToHunt t).sups = s.sups := rfl
@[simp] theorem State.downToHunt_apply (s : State) (t : Trunk) : (s.downToHunt t).apply = s.apply := rfl
@[simp] theorem State.downToHunt_sli (s : State) (t : Trunk) : (s.downToHunt t).sli = s.sli := rfl
@[simp] theorem State.downToHunt_freeCount (s : State) (t : Trunk) : (s.downToHunt t).freeCount = s.freeCount := rfl
@[simp] theorem State.downToHunt_pending (s : State) (t : Trunk) : (s.downToHunt t).pending = s.pending := rfl

@[simp] theorem State.adopt_now (s : State) (k : Nat) (n : Notice) : (s.adopt k n).now = s.now := by simp [State.adopt]
@[simp] theorem State.adopt_clock (s : State) (k : Nat) (n : Notice) : (s.adopt k n).clock = s.clock := by simp [State.adopt]
@[simp] theorem State.adopt_buckets (s : State) (k : Nat) (n : Notice) : (s.adopt k n).buckets = s.buckets := by simp [State.adopt]
@[simp] theorem State.adopt_journal (s : State) (k : Nat) (n : Notice) : (s.adopt k n).journal = s.journal := by simp [State.adopt]
@[simp] theorem State.adopt_ports (s : State) (k : Nat) (n : Notice) : (s.adopt k n).ports = s.ports := by simp [State.adopt]
@[simp] theorem State.adopt_sups (s : State) (k : Nat) (n : Notice) : (s.adopt k n).sups = s.sups := by simp [State.adopt]
@[simp] theorem State.adopt_sli (s : State) (k : Nat) (n : Notice) : (s.adopt k n).sli = s.sli := by simp [State.adopt]
@[simp] theorem State.adopt_freeCount (s : State) (k : Nat) (n : Notice) : (s.adopt k n).freeCount = s.freeCount := by simp [State.adopt]
@[simp] theorem State.adopt_pending (s : State) (k : Nat) (n : Notice) : (s.adopt k n).pending = s.pending := by simp [State.adopt]

@[simp] theorem State.takeRoom_now (s : State) (n : Notice) : (s.takeRoom n).now = s.now := rfl
@[simp] theorem State.takeRoom_clock (s : State) (n : Notice) : (s.takeRoom n).clock = s.clock := rfl
@[simp] theorem State.takeRoom_buckets (s : State) (n : Notice) : (s.takeRoom n).buckets = s.buckets := rfl
@[simp] theorem State.takeRoom_journal (s : State) (n : Notice) : (s.takeRoom n).journal = s.journal := rfl
@[simp] theorem State.takeRoom_map (s : State) (n : Notice) : (s.takeRoom n).map = s.map := rfl
@[simp] theorem State.takeRoom_ports (s : State) (n : Notice) : (s.takeRoom n).ports = s.ports := rfl
@[simp] theorem State.takeRoom_sups (s : State) (n : Notice) : (s.takeRoom n).sups = s.sups := rfl
@[simp] theorem State.takeRoom_sli (s : State) (n : Notice) : (s.takeRoom n).sli = s.sli := rfl
@[simp] theorem State.takeRoom_freeCount (s : State) (n : Notice) : (s.takeRoom n).freeCount = s.freeCount := rfl
@[simp] theorem State.takeRoom_pending (s : State) (n : Notice) : (s.takeRoom n).pending = s.pending := rfl

@[simp] theorem State.countDuplicate_now (s : State) (t : Trunk) : (s.countDuplicate t).now = s.now := rfl
@[simp] theorem State.countDuplicate_clock (s : State) (t : Trunk) : (s.countDuplicate t).clock = s.clock := rfl
@[simp] theorem State.countDuplicate_buckets (s : State) (t : Trunk) : (s.countDuplicate t).buckets = s.buckets := rfl
@[simp] theorem State.countDuplicate_journal (s : State) (t : Trunk) : (s.countDuplicate t).journal = s.journal := rfl
@[simp] theorem State.countDuplicate_map (s : State) (t : Trunk) : (s.countDuplicate t).map = s.map := rfl
@[simp] theorem State.countDuplicate_body (s : State) (t : Trunk) : (s.countDuplicate t).body = s.body := rfl
@[simp] theorem State.countDuplicate_sups (s : State) (t : Trunk) : (s.countDuplicate t).sups = s.sups := rfl
@[simp] theorem State.countDuplicate_apply (s : State) (t : Trunk) : (s.countDuplicate t).apply = s.apply := rfl
@[simp] theorem State.countDuplicate_sli (s : State) (t : Trunk) : (s.countDuplicate t).sli = s.sli := rfl
@[simp] theorem State.countDuplicate_freeCount (s : State) (t : Trunk) : (s.countDuplicate t).freeCount = s.freeCount := rfl
@[simp] theorem State.countDuplicate_pending (s : State) (t : Trunk) : (s.countDuplicate t).pending = s.pending := rfl

@[simp] theorem State.duplicateNotice_now (s : State) (t : Trunk) (k : Nat) (n : Notice) : (s.duplicateNotice t k n).now = s.now := rfl
@[simp] theorem State.duplicateNotice_clock (s : State) (t : Trunk) (k : Nat) (n : Notice) : (s.duplicateNotice t k n).clock = s.clock := rfl
@[simp] theorem State.duplicateNotice_buckets (s : State) (t : Trunk) (k : Nat) (n : Notice) : (s.duplicateNotice t k n).buckets = s.buckets := rfl
@[simp] theorem State.duplicateNotice_journal (s : State) (t : Trunk) (k : Nat) (n : Notice) : (s.duplicateNotice t k n).journal = s.journal := rfl
@[simp] theorem State.duplicateNotice_map (s : State) (t : Trunk) (k : Nat) (n : Notice) : (s.duplicateNotice t k n).map = s.map := rfl
@[simp] theorem State.duplicateNotice_body (s : State) (t : Trunk) (k : Nat) (n : Notice) : (s.duplicateNotice t k n).body = s.body := rfl
@[simp] theorem State.duplicateNotice_sups (s : State) (t : Trunk) (k : Nat) (n : Notice) : (s.duplicateNotice t k n).sups = s.sups := rfl
@[simp] theorem State.duplicateNotice_sli (s : State) (t : Trunk) (k : Nat) (n : Notice) : (s.duplicateNotice t k n).sli = s.sli := rfl
@[simp] theorem State.duplicateNotice_freeCount (s : State) (t : Trunk) (k : Nat) (n : Notice) : (s.duplicateNotice t k n).freeCount = s.freeCount := rfl
@[simp] theorem State.duplicateNotice_pending (s : State) (t : Trunk) (k : Nat) (n : Notice) : (s.duplicateNotice t k n).pending = s.pending := rfl

@[simp] theorem State.frameTaken_now (s : State) (t : Trunk) : (s.frameTaken t).now = s.now := rfl
@[simp] theorem State.frameTaken_clock (s : State) (t : Trunk) : (s.frameTaken t).clock = s.clock := rfl
@[simp] theorem State.frameTaken_buckets (s : State) (t : Trunk) : (s.frameTaken t).buckets = s.buckets := rfl
@[simp] theorem State.frameTaken_journal (s : State) (t : Trunk) : (s.frameTaken t).journal = s.journal := rfl
@[simp] theorem State.frameTaken_map (s : State) (t : Trunk) : (s.frameTaken t).map = s.map := rfl
@[simp] theorem State.frameTaken_body (s : State) (t : Trunk) : (s.frameTaken t).body = s.body := rfl
@[simp] theorem State.frameTaken_sups (s : State) (t : Trunk) : (s.frameTaken t).sups = s.sups := rfl
@[simp] theorem State.frameTaken_apply (s : State) (t : Trunk) : (s.frameTaken t).apply = s.apply := rfl
@[simp] theorem State.frameTaken_sli (s : State) (t : Trunk) : (s.frameTaken t).sli = s.sli := rfl
@[simp] theorem State.frameTaken_freeCount (s : State) (t : Trunk) : (s.frameTaken t).freeCount = s.freeCount := rfl
@[simp] theorem State.frameTaken_pending (s : State) (t : Trunk) : (s.frameTaken t).pending = s.pending := rfl

@[simp] theorem State.incarnationCheck_now (s : State) (t : Trunk) (i : Stamp) :
    (s.incarnationCheck t i).1.now = s.now := by
  unfold State.incarnationCheck; dsimp only; (repeat' split) <;> simp
@[simp] theorem State.incarnationCheck_clock (s : State) (t : Trunk) (i : Stamp) :
    (s.incarnationCheck t i).1.clock = s.clock := by
  unfold State.incarnationCheck; dsimp only; (repeat' split) <;> simp
@[simp] theorem State.incarnationCheck_buckets (s : State) (t : Trunk) (i : Stamp) :
    (s.incarnationCheck t i).1.buckets = s.buckets := by
  unfold State.incarnationCheck; dsimp only; (repeat' split) <;> simp
@[simp] theorem State.incarnationCheck_sli (s : State) (t : Trunk) (i : Stamp) :
    (s.incarnationCheck t i).1.sli = s.sli := by
  unfold State.incarnationCheck; dsimp only; (repeat' split) <;> simp
@[simp] theorem State.incarnationCheck_pending (s : State) (t : Trunk) (i : Stamp) :
    (s.incarnationCheck t i).1.pending = s.pending := by
  unfold State.incarnationCheck; dsimp only; (repeat' split) <;> simp
@[simp] theorem State.pinForNotice_now (s : State) (b : Nat) (d : Digest) : (s.pinForNotice b d).2.now = s.now := by
  unfold State.pinForNotice; split <;> simp
@[simp] theorem State.pinForNotice_clock (s : State) (b : Nat) (d : Digest) : (s.pinForNotice b d).2.clock = s.clock := by
  unfold State.pinForNotice; split <;> simp
@[simp] theorem State.pinForNotice_buckets (s : State) (b : Nat) (d : Digest) : (s.pinForNotice b d).2.buckets = s.buckets := by
  unfold State.pinForNotice; split <;> simp
@[simp] theorem State.pinForNotice_journal (s : State) (b : Nat) (d : Digest) : (s.pinForNotice b d).2.journal = s.journal := by
  unfold State.pinForNotice; split <;> simp
@[simp] theorem State.pinForNotice_body (s : State) (b : Nat) (d : Digest) : (s.pinForNotice b d).2.body = s.body := by
  unfold State.pinForNotice; split <;> simp
@[simp] theorem State.pinForNotice_ports (s : State) (b : Nat) (d : Digest) : (s.pinForNotice b d).2.ports = s.ports := by
  unfold State.pinForNotice; split <;> simp
@[simp] theorem State.pinForNotice_sups (s : State) (b : Nat) (d : Digest) : (s.pinForNotice b d).2.sups = s.sups := by
  unfold State.pinForNotice; split <;> simp
@[simp] theorem State.pinForNotice_apply (s : State) (b : Nat) (d : Digest) : (s.pinForNotice b d).2.apply = s.apply := by
  unfold State.pinForNotice; split <;> simp
@[simp] theorem State.pinForNotice_freeCount (s : State) (b : Nat) (d : Digest) : (s.pinForNotice b d).2.freeCount = s.freeCount := by
  unfold State.pinForNotice; split <;> simp
@[simp] theorem State.pinForNotice_pending (s : State) (b : Nat) (d : Digest) : (s.pinForNotice b d).2.pending = s.pending := by
  unfold State.pinForNotice; split <;> simp

/-- The state that a release comes to, whatever it comes to. -/
def Released.state : Released → State
  | .taken s => s
  | .waits s => s
  | .error s => s

@[simp] theorem Released.state_taken (s : State) : (Released.taken s).state = s := rfl
@[simp] theorem Released.state_waits (s : State) : (Released.waits s).state = s := rfl
@[simp] theorem Released.state_error (s : State) : (Released.error s).state = s := rfl

@[simp] theorem State.completeEntry_now (s : State) (k : Nat) (e : InEntry) : (s.completeEntry k e).state.now = s.now := by
  unfold State.completeEntry; dsimp only; split <;> simp
@[simp] theorem State.completeEntry_clock (s : State) (k : Nat) (e : InEntry) : (s.completeEntry k e).state.clock = s.clock := by
  unfold State.completeEntry; dsimp only; split <;> simp
@[simp] theorem State.completeEntry_buckets (s : State) (k : Nat) (e : InEntry) : (s.completeEntry k e).state.buckets = s.buckets := by
  unfold State.completeEntry; dsimp only; split <;> simp
@[simp] theorem State.completeEntry_journal (s : State) (k : Nat) (e : InEntry) : (s.completeEntry k e).state.journal = s.journal := by
  unfold State.completeEntry; dsimp only; split <;> simp
@[simp] theorem State.completeEntry_ports (s : State) (k : Nat) (e : InEntry) : (s.completeEntry k e).state.ports = s.ports := by
  unfold State.completeEntry; dsimp only; split <;> simp
@[simp] theorem State.completeEntry_sups (s : State) (k : Nat) (e : InEntry) : (s.completeEntry k e).state.sups = s.sups := by
  unfold State.completeEntry; dsimp only; split <;> simp
@[simp] theorem State.completeEntry_sli (s : State) (k : Nat) (e : InEntry) : (s.completeEntry k e).state.sli = s.sli := by
  unfold State.completeEntry; dsimp only; split <;> simp
@[simp] theorem State.completeEntry_pending (s : State) (k : Nat) (e : InEntry) : (s.completeEntry k e).state.pending = s.pending := by
  unfold State.completeEntry; dsimp only; split <;> simp

@[simp] theorem State.acceptNotice_now (s : State) (k : Nat) (n : Notice) : (s.acceptNotice k n).state.now = s.now := by
  unfold State.acceptNotice; dsimp only; (repeat' split) <;> simp
@[simp] theorem State.acceptNotice_buckets (s : State) (k : Nat) (n : Notice) : (s.acceptNotice k n).state.buckets = s.buckets := by
  unfold State.acceptNotice; dsimp only; (repeat' split) <;> simp
@[simp] theorem State.acceptNotice_journal (s : State) (k : Nat) (n : Notice) : (s.acceptNotice k n).state.journal = s.journal := by
  unfold State.acceptNotice; dsimp only; (repeat' split) <;> simp
@[simp] theorem State.acceptNotice_ports (s : State) (k : Nat) (n : Notice) : (s.acceptNotice k n).state.ports = s.ports := by
  unfold State.acceptNotice; dsimp only; (repeat' split) <;> simp
@[simp] theorem State.acceptNotice_sups (s : State) (k : Nat) (n : Notice) : (s.acceptNotice k n).state.sups = s.sups := by
  unfold State.acceptNotice; dsimp only; (repeat' split) <;> simp
@[simp] theorem State.acceptNotice_pending (s : State) (k : Nat) (n : Notice) : (s.acceptNotice k n).state.pending = s.pending := by
  unfold State.acceptNotice; dsimp only; (repeat' split) <;> simp

@[simp] theorem State.dispatchNotice_now (s : State) (t : Trunk) (n : Notice) : (s.dispatchNotice t n).state.now = s.now := by
  unfold State.dispatchNotice; dsimp only; (repeat' split) <;> simp
@[simp] theorem State.dispatchNotice_buckets (s : State) (t : Trunk) (n : Notice) : (s.dispatchNotice t n).state.buckets = s.buckets := by
  unfold State.dispatchNotice; dsimp only; (repeat' split) <;> simp
@[simp] theorem State.dispatchNotice_journal (s : State) (t : Trunk) (n : Notice) : (s.dispatchNotice t n).state.journal = s.journal := by
  unfold State.dispatchNotice; dsimp only; (repeat' split) <;> simp
@[simp] theorem State.dispatchNotice_sups (s : State) (t : Trunk) (n : Notice) : (s.dispatchNotice t n).state.sups = s.sups := by
  unfold State.dispatchNotice; dsimp only; (repeat' split) <;> simp
@[simp] theorem State.dispatchNotice_pending (s : State) (t : Trunk) (n : Notice) : (s.dispatchNotice t n).state.pending = s.pending := by
  unfold State.dispatchNotice; dsimp only; (repeat' split) <;> simp

@[simp] theorem State.dispatchSegment_now (s : State) (t : Trunk) (g : Segment) : (s.dispatchSegment t g).state.now = s.now := by
  unfold State.dispatchSegment; dsimp only; (repeat' split) <;> simp
@[simp] theorem State.dispatchSegment_clock (s : State) (t : Trunk) (g : Segment) : (s.dispatchSegment t g).state.clock = s.clock := by
  unfold State.dispatchSegment; dsimp only; (repeat' split) <;> simp
@[simp] theorem State.dispatchSegment_buckets (s : State) (t : Trunk) (g : Segment) : (s.dispatchSegment t g).state.buckets = s.buckets := by
  unfold State.dispatchSegment; dsimp only; (repeat' split) <;> simp
@[simp] theorem State.dispatchSegment_journal (s : State) (t : Trunk) (g : Segment) : (s.dispatchSegment t g).state.journal = s.journal := by
  unfold State.dispatchSegment; dsimp only; (repeat' split) <;> simp
@[simp] theorem State.dispatchSegment_sups (s : State) (t : Trunk) (g : Segment) : (s.dispatchSegment t g).state.sups = s.sups := by
  unfold State.dispatchSegment; dsimp only; (repeat' split) <;> simp
@[simp] theorem State.dispatchSegment_sli (s : State) (t : Trunk) (g : Segment) : (s.dispatchSegment t g).state.sli = s.sli := by
  unfold State.dispatchSegment; dsimp only; (repeat' split) <;> simp
@[simp] theorem State.dispatchSegment_pending (s : State) (t : Trunk) (g : Segment) : (s.dispatchSegment t g).state.pending = s.pending := by
  unfold State.dispatchSegment; dsimp only; (repeat' split) <;> simp

@[simp] theorem State.dispatch_now (s : State) (t : Trunk) (p : List Byte) : (s.dispatch t p).state.now = s.now := by
  unfold State.dispatch; split <;> simp
@[simp] theorem State.dispatch_buckets (s : State) (t : Trunk) (p : List Byte) : (s.dispatch t p).state.buckets = s.buckets := by
  unfold State.dispatch; split <;> simp
@[simp] theorem State.dispatch_journal (s : State) (t : Trunk) (p : List Byte) : (s.dispatch t p).state.journal = s.journal := by
  unfold State.dispatch; split <;> simp
@[simp] theorem State.dispatch_sups (s : State) (t : Trunk) (p : List Byte) : (s.dispatch t p).state.sups = s.sups := by
  unfold State.dispatch; split <;> simp
@[simp] theorem State.dispatch_pending (s : State) (t : Trunk) (p : List Byte) : (s.dispatch t p).state.pending = s.pending := by
  unfold State.dispatch; split <;> simp

@[simp] theorem State.releaseFrames_now (s : State) (t : Trunk) (fuel : Nat) : (s.releaseFrames t fuel).now = s.now := by
  induction fuel generalizing s with
  | zero => rfl
  | succ n ih =>
    unfold State.releaseFrames
    split
    · rfl
    · rename_i payload _
      have h := State.dispatch_now s t payload
      split <;> rename_i s1 h1 <;> rw [h1] at h <;> simp only [Released.state] at h <;> simp [ih, h]
@[simp] theorem State.release_now (s : State) (t : Trunk) : (s.release t).now = s.now := State.releaseFrames_now s t _
@[simp] theorem State.releaseFrames_buckets (s : State) (t : Trunk) (fuel : Nat) : (s.releaseFrames t fuel).buckets = s.buckets := by
  induction fuel generalizing s with
  | zero => rfl
  | succ n ih =>
    unfold State.releaseFrames
    split
    · rfl
    · rename_i payload _
      have h := State.dispatch_buckets s t payload
      split <;> rename_i s1 h1 <;> rw [h1] at h <;> simp only [Released.state] at h <;> simp [ih, h]
@[simp] theorem State.release_buckets (s : State) (t : Trunk) : (s.release t).buckets = s.buckets := State.releaseFrames_buckets s t _
@[simp] theorem State.releaseFrames_pending (s : State) (t : Trunk) (fuel : Nat) : (s.releaseFrames t fuel).pending = s.pending := by
  induction fuel generalizing s with
  | zero => rfl
  | succ n ih =>
    unfold State.releaseFrames
    split
    · rfl
    · rename_i payload _
      have h := State.dispatch_pending s t payload
      split <;> rename_i s1 h1 <;> rw [h1] at h <;> simp only [Released.state] at h <;> simp [ih, h]
@[simp] theorem State.release_pending (s : State) (t : Trunk) : (s.release t).pending = s.pending := State.releaseFrames_pending s t _
end Sys2Proof.Machine
end

