-- ==== Sys2Proof/Laws/Sending.lean ====
section
/-! SUPPORT. What the send side of a trunk leaves. -/

set_option Elab.async false

namespace Sys2Proof.Machine

@[simp] theorem State.emit_now (s : State) (t : Trunk) (f : Frame) : (s.emit t f).now = s.now := rfl
@[simp] theorem State.emit_clock (s : State) (t : Trunk) (f : Frame) : (s.emit t f).clock = s.clock := rfl
@[simp] theorem State.emit_buckets (s : State) (t : Trunk) (f : Frame) : (s.emit t f).buckets = s.buckets := rfl
@[simp] theorem State.emit_journal (s : State) (t : Trunk) (f : Frame) : (s.emit t f).journal = s.journal := rfl
@[simp] theorem State.emit_map (s : State) (t : Trunk) (f : Frame) : (s.emit t f).map = s.map := rfl
@[simp] theorem State.emit_body (s : State) (t : Trunk) (f : Frame) : (s.emit t f).body = s.body := rfl
@[simp] theorem State.emit_sups (s : State) (t : Trunk) (f : Frame) : (s.emit t f).sups = s.sups := rfl
@[simp] theorem State.emit_apply (s : State) (t : Trunk) (f : Frame) : (s.emit t f).apply = s.apply := rfl
@[simp] theorem State.emit_sli (s : State) (t : Trunk) (f : Frame) : (s.emit t f).sli = s.sli := rfl
@[simp] theorem State.emit_freeCount (s : State) (t : Trunk) (f : Frame) : (s.emit t f).freeCount = s.freeCount := rfl
@[simp] theorem State.emit_pending (s : State) (t : Trunk) (f : Frame) : (s.emit t f).pending = s.pending := rfl

@[simp] theorem State.seal_now (s : State) (e : JEntry) : (s.seal e).now = s.now := rfl
@[simp] theorem State.seal_clock (s : State) (e : JEntry) : (s.seal e).clock = s.clock := rfl
@[simp] theorem State.seal_body (s : State) (e : JEntry) : (s.seal e).body = s.body := rfl
@[simp] theorem State.seal_ports (s : State) (e : JEntry) : (s.seal e).ports = s.ports := rfl
@[simp] theorem State.seal_sups (s : State) (e : JEntry) : (s.seal e).sups = s.sups := rfl
@[simp] theorem State.seal_apply (s : State) (e : JEntry) : (s.seal e).apply = s.apply := rfl
@[simp] theorem State.seal_sli (s : State) (e : JEntry) : (s.seal e).sli = s.sli := rfl
@[simp] theorem State.seal_freeCount (s : State) (e : JEntry) : (s.seal e).freeCount = s.freeCount := rfl
@[simp] theorem State.seal_pending (s : State) (e : JEntry) : (s.seal e).pending = s.pending := rfl

@[simp] theorem State.countBegun_now (s : State) (t : Trunk) : (s.countBegun t).now = s.now := rfl
@[simp] theorem State.countBegun_clock (s : State) (t : Trunk) : (s.countBegun t).clock = s.clock := rfl
@[simp] theorem State.countBegun_buckets (s : State) (t : Trunk) : (s.countBegun t).buckets = s.buckets := rfl
@[simp] theorem State.countBegun_journal (s : State) (t : Trunk) : (s.countBegun t).journal = s.journal := rfl
@[simp] theorem State.countBegun_map (s : State) (t : Trunk) : (s.countBegun t).map = s.map := rfl
@[simp] theorem State.countBegun_body (s : State) (t : Trunk) : (s.countBegun t).body = s.body := rfl
@[simp] theorem State.countBegun_sups (s : State) (t : Trunk) : (s.countBegun t).sups = s.sups := rfl
@[simp] theorem State.countBegun_apply (s : State) (t : Trunk) : (s.countBegun t).apply = s.apply := rfl
@[simp] theorem State.countBegun_sli (s : State) (t : Trunk) : (s.countBegun t).sli = s.sli := rfl
@[simp] theorem State.countBegun_freeCount (s : State) (t : Trunk) : (s.countBegun t).freeCount = s.freeCount := rfl
@[simp] theorem State.countBegun_pending (s : State) (t : Trunk) : (s.countBegun t).pending = s.pending := rfl

@[simp] theorem State.startStall_now (s : State) (t : Trunk) : (s.startStall t).now = s.now := rfl
@[simp] theorem State.startStall_clock (s : State) (t : Trunk) : (s.startStall t).clock = s.clock := rfl
@[simp] theorem State.startStall_buckets (s : State) (t : Trunk) : (s.startStall t).buckets = s.buckets := rfl
@[simp] theorem State.startStall_journal (s : State) (t : Trunk) : (s.startStall t).journal = s.journal := rfl
@[simp] theorem State.startStall_map (s : State) (t : Trunk) : (s.startStall t).map = s.map := rfl
@[simp] theorem State.startStall_body (s : State) (t : Trunk) : (s.startStall t).body = s.body := rfl
@[simp] theorem State.startStall_ports (s : State) (t : Trunk) : (s.startStall t).ports = s.ports := rfl
@[simp] theorem State.startStall_apply (s : State) (t : Trunk) : (s.startStall t).apply = s.apply := rfl
@[simp] theorem State.startStall_sli (s : State) (t : Trunk) : (s.startStall t).sli = s.sli := rfl
@[simp] theorem State.startStall_freeCount (s : State) (t : Trunk) : (s.startStall t).freeCount = s.freeCount := rfl
@[simp] theorem State.startStall_pending (s : State) (t : Trunk) : (s.startStall t).pending = s.pending := rfl

@[simp] theorem State.sendPiece_now (s : State) (t : Trunk) (m : Nat) (b : List Byte) (e : JEntry) : (s.sendPiece t m b e).now = s.now := by unfold State.sendPiece; dsimp only; split <;> simp
@[simp] theorem State.sendPiece_clock (s : State) (t : Trunk) (m : Nat) (b : List Byte) (e : JEntry) : (s.sendPiece t m b e).clock = s.clock := by unfold State.sendPiece; dsimp only; split <;> simp
@[simp] theorem State.sendPiece_buckets (s : State) (t : Trunk) (m : Nat) (b : List Byte) (e : JEntry) : (s.sendPiece t m b e).buckets = s.buckets := by unfold State.sendPiece; dsimp only; split <;> simp
@[simp] theorem State.sendPiece_map (s : State) (t : Trunk) (m : Nat) (b : List Byte) (e : JEntry) : (s.sendPiece t m b e).map = s.map := by unfold State.sendPiece; dsimp only; split <;> simp
@[simp] theorem State.sendPiece_body (s : State) (t : Trunk) (m : Nat) (b : List Byte) (e : JEntry) : (s.sendPiece t m b e).body = s.body := by unfold State.sendPiece; dsimp only; split <;> simp
@[simp] theorem State.sendPiece_apply (s : State) (t : Trunk) (m : Nat) (b : List Byte) (e : JEntry) : (s.sendPiece t m b e).apply = s.apply := by unfold State.sendPiece; dsimp only; split <;> simp
@[simp] theorem State.sendPiece_sli (s : State) (t : Trunk) (m : Nat) (b : List Byte) (e : JEntry) : (s.sendPiece t m b e).sli = s.sli := by unfold State.sendPiece; dsimp only; split <;> simp
@[simp] theorem State.sendPiece_freeCount (s : State) (t : Trunk) (m : Nat) (b : List Byte) (e : JEntry) : (s.sendPiece t m b e).freeCount = s.freeCount := by unfold State.sendPiece; dsimp only; split <;> simp
@[simp] theorem State.sendPiece_pending (s : State) (t : Trunk) (m : Nat) (b : List Byte) (e : JEntry) : (s.sendPiece t m b e).pending = s.pending := by unfold State.sendPiece; dsimp only; split <;> simp

@[simp] theorem State.fillSlot_now (s : State) (t : Trunk) : (s.fillSlot t).now = s.now := by unfold State.fillSlot; split <;> simp
@[simp] theorem State.fillSlot_clock (s : State) (t : Trunk) : (s.fillSlot t).clock = s.clock := by unfold State.fillSlot; split <;> simp
@[simp] theorem State.fillSlot_buckets (s : State) (t : Trunk) : (s.fillSlot t).buckets = s.buckets := by unfold State.fillSlot; split <;> simp
@[simp] theorem State.fillSlot_journal (s : State) (t : Trunk) : (s.fillSlot t).journal = s.journal := by unfold State.fillSlot; split <;> simp
@[simp] theorem State.fillSlot_map (s : State) (t : Trunk) : (s.fillSlot t).map = s.map := by unfold State.fillSlot; split <;> simp
@[simp] theorem State.fillSlot_body (s : State) (t : Trunk) : (s.fillSlot t).body = s.body := by unfold State.fillSlot; split <;> simp
@[simp] theorem State.fillSlot_sups (s : State) (t : Trunk) : (s.fillSlot t).sups = s.sups := by unfold State.fillSlot; split <;> simp
@[simp] theorem State.fillSlot_apply (s : State) (t : Trunk) : (s.fillSlot t).apply = s.apply := by unfold State.fillSlot; split <;> simp
@[simp] theorem State.fillSlot_sli (s : State) (t : Trunk) : (s.fillSlot t).sli = s.sli := by unfold State.fillSlot; split <;> simp
@[simp] theorem State.fillSlot_freeCount (s : State) (t : Trunk) : (s.fillSlot t).freeCount = s.freeCount := by unfold State.fillSlot; split <;> simp
@[simp] theorem State.fillSlot_pending (s : State) (t : Trunk) : (s.fillSlot t).pending = s.pending := by unfold State.fillSlot; split <;> simp

@[simp] theorem State.resend_now (s : State) (t : Trunk) (m : Nat) (f : SentFrame) : (s.resend t m f).now = s.now := by simp [State.resend]
@[simp] theorem State.resend_clock (s : State) (t : Trunk) (m : Nat) (f : SentFrame) : (s.resend t m f).clock = s.clock := by simp [State.resend]
@[simp] theorem State.resend_buckets (s : State) (t : Trunk) (m : Nat) (f : SentFrame) : (s.resend t m f).buckets = s.buckets := by simp [State.resend]
@[simp] theorem State.resend_journal (s : State) (t : Trunk) (m : Nat) (f : SentFrame) : (s.resend t m f).journal = s.journal := by simp [State.resend]
@[simp] theorem State.resend_map (s : State) (t : Trunk) (m : Nat) (f : SentFrame) : (s.resend t m f).map = s.map := by simp [State.resend]
@[simp] theorem State.resend_body (s : State) (t : Trunk) (m : Nat) (f : SentFrame) : (s.resend t m f).body = s.body := by simp [State.resend]
@[simp] theorem State.resend_sups (s : State) (t : Trunk) (m : Nat) (f : SentFrame) : (s.resend t m f).sups = s.sups := by simp [State.resend]
@[simp] theorem State.resend_apply (s : State) (t : Trunk) (m : Nat) (f : SentFrame) : (s.resend t m f).apply = s.apply := by simp [State.resend]
@[simp] theorem State.resend_sli (s : State) (t : Trunk) (m : Nat) (f : SentFrame) : (s.resend t m f).sli = s.sli := by simp [State.resend]
@[simp] theorem State.resend_freeCount (s : State) (t : Trunk) (m : Nat) (f : SentFrame) : (s.resend t m f).freeCount = s.freeCount := by simp [State.resend]
@[simp] theorem State.resend_pending (s : State) (t : Trunk) (m : Nat) (f : SentFrame) : (s.resend t m f).pending = s.pending := by simp [State.resend]

@[simp] theorem State.takePiece_now (s : State) (t : Trunk) (e : JEntry) : (s.takePiece t e).2.2.now = s.now := by
  unfold State.takePiece; split
  · simp
  · dsimp only; split <;> simp
@[simp] theorem State.takePiece_clock (s : State) (t : Trunk) (e : JEntry) : (s.takePiece t e).2.2.clock = s.clock := by
  unfold State.takePiece; split
  · simp
  · dsimp only; split <;> simp
@[simp] theorem State.takePiece_body (s : State) (t : Trunk) (e : JEntry) : (s.takePiece t e).2.2.body = s.body := by
  unfold State.takePiece; split
  · simp
  · dsimp only; split <;> simp
@[simp] theorem State.takePiece_sups (s : State) (t : Trunk) (e : JEntry) : (s.takePiece t e).2.2.sups = s.sups := by
  unfold State.takePiece; split
  · simp
  · dsimp only; split <;> simp
@[simp] theorem State.takePiece_apply (s : State) (t : Trunk) (e : JEntry) : (s.takePiece t e).2.2.apply = s.apply := by
  unfold State.takePiece; split
  · simp
  · dsimp only; split <;> simp
@[simp] theorem State.takePiece_sli (s : State) (t : Trunk) (e : JEntry) : (s.takePiece t e).2.2.sli = s.sli := by
  unfold State.takePiece; split
  · simp
  · dsimp only; split <;> simp
@[simp] theorem State.takePiece_freeCount (s : State) (t : Trunk) (e : JEntry) : (s.takePiece t e).2.2.freeCount = s.freeCount := by
  unfold State.takePiece; split
  · simp
  · dsimp only; split <;> simp
@[simp] theorem State.takePiece_pending (s : State) (t : Trunk) (e : JEntry) : (s.takePiece t e).2.2.pending = s.pending := by
  unfold State.takePiece; split
  · simp
  · dsimp only; split <;> simp

@[simp] theorem State.dataSlot_now (s : State) (t : Trunk) (c : Band) (m : Nat) : (s.dataSlot t c m).now = s.now := by unfold State.dataSlot; dsimp only; (repeat' split) <;> simp
@[simp] theorem State.dataSlot_clock (s : State) (t : Trunk) (c : Band) (m : Nat) : (s.dataSlot t c m).clock = s.clock := by unfold State.dataSlot; dsimp only; (repeat' split) <;> simp
@[simp] theorem State.dataSlot_pending (s : State) (t : Trunk) (c : Band) (m : Nat) : (s.dataSlot t c m).pending = s.pending := by unfold State.dataSlot; dsimp only; (repeat' split) <;> simp

@[simp] theorem State.clearOwed_now (s : State) (t : Trunk) (bs : List Nat) : (s.clearOwed t bs).now = s.now := rfl
@[simp] theorem State.clearOwed_clock (s : State) (t : Trunk) (bs : List Nat) : (s.clearOwed t bs).clock = s.clock := rfl
@[simp] theorem State.clearOwed_buckets (s : State) (t : Trunk) (bs : List Nat) : (s.clearOwed t bs).buckets = s.buckets := rfl
@[simp] theorem State.clearOwed_journal (s : State) (t : Trunk) (bs : List Nat) : (s.clearOwed t bs).journal = s.journal := rfl
@[simp] theorem State.clearOwed_map (s : State) (t : Trunk) (bs : List Nat) : (s.clearOwed t bs).map = s.map := rfl
@[simp] theorem State.clearOwed_body (s : State) (t : Trunk) (bs : List Nat) : (s.clearOwed t bs).body = s.body := rfl
@[simp] theorem State.clearOwed_ports (s : State) (t : Trunk) (bs : List Nat) : (s.clearOwed t bs).ports = s.ports := rfl
@[simp] theorem State.clearOwed_sups (s : State) (t : Trunk) (bs : List Nat) : (s.clearOwed t bs).sups = s.sups := rfl
@[simp] theorem State.clearOwed_sli (s : State) (t : Trunk) (bs : List Nat) : (s.clearOwed t bs).sli = s.sli := rfl
@[simp] theorem State.clearOwed_freeCount (s : State) (t : Trunk) (bs : List Nat) : (s.clearOwed t bs).freeCount = s.freeCount := rfl
@[simp] theorem State.clearOwed_pending (s : State) (t : Trunk) (bs : List Nat) : (s.clearOwed t bs).pending = s.pending := rfl

@[simp] theorem State.sendService_now (s : State) (t : Trunk) : (s.sendService t).now = s.now := by simp [State.sendService]
@[simp] theorem State.sendService_clock (s : State) (t : Trunk) : (s.sendService t).clock = s.clock := by simp [State.sendService]
@[simp] theorem State.sendService_buckets (s : State) (t : Trunk) : (s.sendService t).buckets = s.buckets := by simp [State.sendService]
@[simp] theorem State.sendService_journal (s : State) (t : Trunk) : (s.sendService t).journal = s.journal := by simp [State.sendService]
@[simp] theorem State.sendService_map (s : State) (t : Trunk) : (s.sendService t).map = s.map := by simp [State.sendService]
@[simp] theorem State.sendService_body (s : State) (t : Trunk) : (s.sendService t).body = s.body := by simp [State.sendService]
@[simp] theorem State.sendService_sups (s : State) (t : Trunk) : (s.sendService t).sups = s.sups := by simp [State.sendService]
@[simp] theorem State.sendService_sli (s : State) (t : Trunk) : (s.sendService t).sli = s.sli := by simp [State.sendService]
@[simp] theorem State.sendService_freeCount (s : State) (t : Trunk) : (s.sendService t).freeCount = s.freeCount := by simp [State.sendService]
@[simp] theorem State.sendService_pending (s : State) (t : Trunk) : (s.sendService t).pending = s.pending := by simp [State.sendService]

@[simp] theorem State.acceptAck_now (s : State) (t : Trunk) (a : EntryAck) : (s.acceptAck t a).now = s.now := by unfold State.acceptAck; dsimp only; split <;> simp
@[simp] theorem State.acceptAck_clock (s : State) (t : Trunk) (a : EntryAck) : (s.acceptAck t a).clock = s.clock := by unfold State.acceptAck; dsimp only; split <;> simp
@[simp] theorem State.acceptAck_sups (s : State) (t : Trunk) (a : EntryAck) : (s.acceptAck t a).sups = s.sups := by unfold State.acceptAck; dsimp only; split <;> simp
@[simp] theorem State.acceptAck_apply (s : State) (t : Trunk) (a : EntryAck) : (s.acceptAck t a).apply = s.apply := by unfold State.acceptAck; dsimp only; split <;> simp
@[simp] theorem State.acceptAck_sli (s : State) (t : Trunk) (a : EntryAck) : (s.acceptAck t a).sli = s.sli := by unfold State.acceptAck; dsimp only; split <;> simp
@[simp] theorem State.acceptAck_pending (s : State) (t : Trunk) (a : EntryAck) : (s.acceptAck t a).pending = s.pending := by unfold State.acceptAck; dsimp only; split <;> simp

@[simp] theorem State.entryAck_now (s : State) (t : Trunk) (a : EntryAck) : (State.entryAck t s a).now = s.now := by
  unfold State.entryAck; split <;> simp
@[simp] theorem State.foldl_entryAck_now (s : State) (t : Trunk) (as : List EntryAck) :
    (as.foldl (State.entryAck t) s).now = s.now := by
  induction as generalizing s with
  | nil => rfl
  | cons a as ih => simp [ih]
@[simp] theorem State.entryAck_clock (s : State) (t : Trunk) (a : EntryAck) : (State.entryAck t s a).clock = s.clock := by
  unfold State.entryAck; split <;> simp
@[simp] theorem State.foldl_entryAck_clock (s : State) (t : Trunk) (as : List EntryAck) :
    (as.foldl (State.entryAck t) s).clock = s.clock := by
  induction as generalizing s with
  | nil => rfl
  | cons a as ih => simp [ih]
@[simp] theorem State.entryAck_sups (s : State) (t : Trunk) (a : EntryAck) : (State.entryAck t s a).sups = s.sups := by
  unfold State.entryAck; split <;> simp
@[simp] theorem State.foldl_entryAck_sups (s : State) (t : Trunk) (as : List EntryAck) :
    (as.foldl (State.entryAck t) s).sups = s.sups := by
  induction as generalizing s with
  | nil => rfl
  | cons a as ih => simp [ih]
@[simp] theorem State.entryAck_apply (s : State) (t : Trunk) (a : EntryAck) : (State.entryAck t s a).apply = s.apply := by
  unfold State.entryAck; split <;> simp
@[simp] theorem State.foldl_entryAck_apply (s : State) (t : Trunk) (as : List EntryAck) :
    (as.foldl (State.entryAck t) s).apply = s.apply := by
  induction as generalizing s with
  | nil => rfl
  | cons a as ih => simp [ih]
@[simp] theorem State.entryAck_pending (s : State) (t : Trunk) (a : EntryAck) : (State.entryAck t s a).pending = s.pending := by
  unfold State.entryAck; split <;> simp
@[simp] theorem State.foldl_entryAck_pending (s : State) (t : Trunk) (as : List EntryAck) :
    (as.foldl (State.entryAck t) s).pending = s.pending := by
  induction as generalizing s with
  | nil => rfl
  | cons a as ih => simp [ih]

@[simp] theorem State.serviceStore_now (s : State) (t : Trunk) (f : ServiceFrame) : (s.serviceStore t f).now = s.now := by unfold State.serviceStore; dsimp only; (repeat' split) <;> simp
@[simp] theorem State.serviceStore_clock (s : State) (t : Trunk) (f : ServiceFrame) : (s.serviceStore t f).clock = s.clock := by unfold State.serviceStore; dsimp only; (repeat' split) <;> simp
@[simp] theorem State.serviceStore_buckets (s : State) (t : Trunk) (f : ServiceFrame) : (s.serviceStore t f).buckets = s.buckets := by unfold State.serviceStore; dsimp only; (repeat' split) <;> simp
@[simp] theorem State.serviceStore_map (s : State) (t : Trunk) (f : ServiceFrame) : (s.serviceStore t f).map = s.map := by unfold State.serviceStore; dsimp only; (repeat' split) <;> simp
@[simp] theorem State.serviceStore_body (s : State) (t : Trunk) (f : ServiceFrame) : (s.serviceStore t f).body = s.body := by unfold State.serviceStore; dsimp only; (repeat' split) <;> simp
@[simp] theorem State.serviceStore_apply (s : State) (t : Trunk) (f : ServiceFrame) : (s.serviceStore t f).apply = s.apply := by unfold State.serviceStore; dsimp only; (repeat' split) <;> simp
@[simp] theorem State.serviceStore_freeCount (s : State) (t : Trunk) (f : ServiceFrame) : (s.serviceStore t f).freeCount = s.freeCount := by unfold State.serviceStore; dsimp only; (repeat' split) <;> simp
@[simp] theorem State.serviceStore_pending (s : State) (t : Trunk) (f : ServiceFrame) : (s.serviceStore t f).pending = s.pending := by unfold State.serviceStore; dsimp only; (repeat' split) <;> simp

@[simp] theorem State.serviceActs_now (s : State) (t : Trunk) (f : ServiceFrame) : (s.serviceActs t f).now = s.now := by simp [State.serviceActs]
@[simp] theorem State.serviceActs_clock (s : State) (t : Trunk) (f : ServiceFrame) : (s.serviceActs t f).clock = s.clock := by simp [State.serviceActs]
@[simp] theorem State.serviceActs_apply (s : State) (t : Trunk) (f : ServiceFrame) : (s.serviceActs t f).apply = s.apply := by simp [State.serviceActs]
@[simp] theorem State.serviceActs_pending (s : State) (t : Trunk) (f : ServiceFrame) : (s.serviceActs t f).pending = s.pending := by simp [State.serviceActs]

end Sys2Proof.Machine
end

