-- ==== Sys2Proof/Laws/Commands.lean ====
section
/-! SUPPORT. What the operations behind the commands leave. -/

set_option Elab.async false

namespace Sys2Proof.Machine

@[simp] theorem State.requestTaken_now (s : State) : (s.requestTaken).now = s.now := rfl
@[simp] theorem State.requestTaken_clock (s : State) : (s.requestTaken).clock = s.clock := rfl
@[simp] theorem State.requestTaken_buckets (s : State) : (s.requestTaken).buckets = s.buckets := rfl
@[simp] theorem State.requestTaken_journal (s : State) : (s.requestTaken).journal = s.journal := rfl
@[simp] theorem State.requestTaken_map (s : State) : (s.requestTaken).map = s.map := rfl
@[simp] theorem State.requestTaken_body (s : State) : (s.requestTaken).body = s.body := rfl
@[simp] theorem State.requestTaken_ports (s : State) : (s.requestTaken).ports = s.ports := rfl
@[simp] theorem State.requestTaken_sups (s : State) : (s.requestTaken).sups = s.sups := rfl
@[simp] theorem State.requestTaken_apply (s : State) : (s.requestTaken).apply = s.apply := rfl
@[simp] theorem State.requestTaken_freeCount (s : State) : (s.requestTaken).freeCount = s.freeCount := rfl
@[simp] theorem State.requestTaken_pending (s : State) : (s.requestTaken).pending = s.pending := rfl

@[simp] theorem State.recordTaken_now (s : State) : (s.recordTaken).now = s.now := rfl
@[simp] theorem State.recordTaken_clock (s : State) : (s.recordTaken).clock = s.clock := rfl
@[simp] theorem State.recordTaken_buckets (s : State) : (s.recordTaken).buckets = s.buckets := rfl
@[simp] theorem State.recordTaken_journal (s : State) : (s.recordTaken).journal = s.journal := rfl
@[simp] theorem State.recordTaken_map (s : State) : (s.recordTaken).map = s.map := rfl
@[simp] theorem State.recordTaken_body (s : State) : (s.recordTaken).body = s.body := rfl
@[simp] theorem State.recordTaken_ports (s : State) : (s.recordTaken).ports = s.ports := rfl
@[simp] theorem State.recordTaken_sups (s : State) : (s.recordTaken).sups = s.sups := rfl
@[simp] theorem State.recordTaken_apply (s : State) : (s.recordTaken).apply = s.apply := rfl
@[simp] theorem State.recordTaken_freeCount (s : State) : (s.recordTaken).freeCount = s.freeCount := rfl
@[simp] theorem State.recordTaken_pending (s : State) : (s.recordTaken).pending = s.pending := rfl

@[simp] theorem State.setAsm_now (s : State) (i : Bool) (b : List Byte) : (s.setAsm i b).now = s.now := rfl
@[simp] theorem State.setAsm_clock (s : State) (i : Bool) (b : List Byte) : (s.setAsm i b).clock = s.clock := rfl
@[simp] theorem State.setAsm_buckets (s : State) (i : Bool) (b : List Byte) : (s.setAsm i b).buckets = s.buckets := rfl
@[simp] theorem State.setAsm_journal (s : State) (i : Bool) (b : List Byte) : (s.setAsm i b).journal = s.journal := rfl
@[simp] theorem State.setAsm_map (s : State) (i : Bool) (b : List Byte) : (s.setAsm i b).map = s.map := rfl
@[simp] theorem State.setAsm_body (s : State) (i : Bool) (b : List Byte) : (s.setAsm i b).body = s.body := rfl
@[simp] theorem State.setAsm_ports (s : State) (i : Bool) (b : List Byte) : (s.setAsm i b).ports = s.ports := rfl
@[simp] theorem State.setAsm_sups (s : State) (i : Bool) (b : List Byte) : (s.setAsm i b).sups = s.sups := rfl
@[simp] theorem State.setAsm_apply (s : State) (i : Bool) (b : List Byte) : (s.setAsm i b).apply = s.apply := rfl
@[simp] theorem State.setAsm_freeCount (s : State) (i : Bool) (b : List Byte) : (s.setAsm i b).freeCount = s.freeCount := rfl
@[simp] theorem State.setAsm_pending (s : State) (i : Bool) (b : List Byte) : (s.setAsm i b).pending = s.pending := rfl
@[simp] theorem State.setAsm_asm (s : State) (i : Bool) (b : List Byte) : (s.setAsm i b).sli.asm = ⟨i, b⟩ := rfl

@[simp] theorem State.queueReply_now (s : State) (r : LinkRecord) : (s.queueReply r).now = s.now := rfl
@[simp] theorem State.queueReply_clock (s : State) (r : LinkRecord) : (s.queueReply r).clock = s.clock := rfl
@[simp] theorem State.queueReply_buckets (s : State) (r : LinkRecord) : (s.queueReply r).buckets = s.buckets := rfl
@[simp] theorem State.queueReply_journal (s : State) (r : LinkRecord) : (s.queueReply r).journal = s.journal := rfl
@[simp] theorem State.queueReply_map (s : State) (r : LinkRecord) : (s.queueReply r).map = s.map := rfl
@[simp] theorem State.queueReply_body (s : State) (r : LinkRecord) : (s.queueReply r).body = s.body := rfl
@[simp] theorem State.queueReply_ports (s : State) (r : LinkRecord) : (s.queueReply r).ports = s.ports := rfl
@[simp] theorem State.queueReply_sups (s : State) (r : LinkRecord) : (s.queueReply r).sups = s.sups := rfl
@[simp] theorem State.queueReply_apply (s : State) (r : LinkRecord) : (s.queueReply r).apply = s.apply := rfl
@[simp] theorem State.queueReply_freeCount (s : State) (r : LinkRecord) : (s.queueReply r).freeCount = s.freeCount := rfl
@[simp] theorem State.queueReply_pending (s : State) (r : LinkRecord) : (s.queueReply r).pending = s.pending := rfl

@[simp] theorem State.reply_now (s : State) (k : Byte) (w : Wire) (r : Result) (b : List Byte) : (s.reply k w r b).now = s.now := rfl
@[simp] theorem State.reply_clock (s : State) (k : Byte) (w : Wire) (r : Result) (b : List Byte) : (s.reply k w r b).clock = s.clock := rfl
@[simp] theorem State.reply_buckets (s : State) (k : Byte) (w : Wire) (r : Result) (b : List Byte) : (s.reply k w r b).buckets = s.buckets := rfl
@[simp] theorem State.reply_journal (s : State) (k : Byte) (w : Wire) (r : Result) (b : List Byte) : (s.reply k w r b).journal = s.journal := rfl
@[simp] theorem State.reply_map (s : State) (k : Byte) (w : Wire) (r : Result) (b : List Byte) : (s.reply k w r b).map = s.map := rfl
@[simp] theorem State.reply_body (s : State) (k : Byte) (w : Wire) (r : Result) (b : List Byte) : (s.reply k w r b).body = s.body := rfl
@[simp] theorem State.reply_ports (s : State) (k : Byte) (w : Wire) (r : Result) (b : List Byte) : (s.reply k w r b).ports = s.ports := rfl
@[simp] theorem State.reply_sups (s : State) (k : Byte) (w : Wire) (r : Result) (b : List Byte) : (s.reply k w r b).sups = s.sups := rfl
@[simp] theorem State.reply_apply (s : State) (k : Byte) (w : Wire) (r : Result) (b : List Byte) : (s.reply k w r b).apply = s.apply := rfl
@[simp] theorem State.reply_freeCount (s : State) (k : Byte) (w : Wire) (r : Result) (b : List Byte) : (s.reply k w r b).freeCount = s.freeCount := rfl
@[simp] theorem State.reply_pending (s : State) (k : Byte) (w : Wire) (r : Result) (b : List Byte) : (s.reply k w r b).pending = s.pending := rfl

@[simp] theorem State.linkFault_now (s : State) (e : LinkErrorType) : (s.linkFault e).now = s.now := rfl
@[simp] theorem State.linkFault_clock (s : State) (e : LinkErrorType) : (s.linkFault e).clock = s.clock := rfl
@[simp] theorem State.linkFault_buckets (s : State) (e : LinkErrorType) : (s.linkFault e).buckets = s.buckets := rfl
@[simp] theorem State.linkFault_journal (s : State) (e : LinkErrorType) : (s.linkFault e).journal = s.journal := rfl
@[simp] theorem State.linkFault_map (s : State) (e : LinkErrorType) : (s.linkFault e).map = s.map := rfl
@[simp] theorem State.linkFault_body (s : State) (e : LinkErrorType) : (s.linkFault e).body = s.body := rfl
@[simp] theorem State.linkFault_ports (s : State) (e : LinkErrorType) : (s.linkFault e).ports = s.ports := rfl
@[simp] theorem State.linkFault_sups (s : State) (e : LinkErrorType) : (s.linkFault e).sups = s.sups := rfl
@[simp] theorem State.linkFault_apply (s : State) (e : LinkErrorType) : (s.linkFault e).apply = s.apply := rfl
@[simp] theorem State.linkFault_freeCount (s : State) (e : LinkErrorType) : (s.linkFault e).freeCount = s.freeCount := rfl
@[simp] theorem State.linkFault_pending (s : State) (e : LinkErrorType) : (s.linkFault e).pending = s.pending := rfl

@[simp] theorem State.latchesRead_now (s : State) : (s.latchesRead).now = s.now := rfl
@[simp] theorem State.latchesRead_clock (s : State) : (s.latchesRead).clock = s.clock := rfl
@[simp] theorem State.latchesRead_buckets (s : State) : (s.latchesRead).buckets = s.buckets := rfl
@[simp] theorem State.latchesRead_journal (s : State) : (s.latchesRead).journal = s.journal := rfl
@[simp] theorem State.latchesRead_map (s : State) : (s.latchesRead).map = s.map := rfl
@[simp] theorem State.latchesRead_body (s : State) : (s.latchesRead).body = s.body := rfl
@[simp] theorem State.latchesRead_ports (s : State) : (s.latchesRead).ports = s.ports := rfl
@[simp] theorem State.latchesRead_sups (s : State) : (s.latchesRead).sups = s.sups := rfl
@[simp] theorem State.latchesRead_apply (s : State) : (s.latchesRead).apply = s.apply := rfl
@[simp] theorem State.latchesRead_freeCount (s : State) : (s.latchesRead).freeCount = s.freeCount := rfl
@[simp] theorem State.latchesRead_pending (s : State) : (s.latchesRead).pending = s.pending := rfl

@[simp] theorem State.clockGiven_now (s : State) (a b : Nat) : (s.clockGiven a b).now = s.now := rfl
@[simp] theorem State.clockGiven_buckets (s : State) (a b : Nat) : (s.clockGiven a b).buckets = s.buckets := rfl
@[simp] theorem State.clockGiven_journal (s : State) (a b : Nat) : (s.clockGiven a b).journal = s.journal := rfl
@[simp] theorem State.clockGiven_map (s : State) (a b : Nat) : (s.clockGiven a b).map = s.map := rfl
@[simp] theorem State.clockGiven_body (s : State) (a b : Nat) : (s.clockGiven a b).body = s.body := rfl
@[simp] theorem State.clockGiven_ports (s : State) (a b : Nat) : (s.clockGiven a b).ports = s.ports := rfl
@[simp] theorem State.clockGiven_sups (s : State) (a b : Nat) : (s.clockGiven a b).sups = s.sups := rfl
@[simp] theorem State.clockGiven_apply (s : State) (a b : Nat) : (s.clockGiven a b).apply = s.apply := rfl
@[simp] theorem State.clockGiven_sli (s : State) (a b : Nat) : (s.clockGiven a b).sli = s.sli := rfl
@[simp] theorem State.clockGiven_freeCount (s : State) (a b : Nat) : (s.clockGiven a b).freeCount = s.freeCount := rfl
@[simp] theorem State.clockGiven_pending (s : State) (a b : Nat) : (s.clockGiven a b).pending = s.pending := rfl

@[simp] theorem State.addTarget_now (s : State) (b : Nat) (t : Trunk) : (State.addTarget b s t).now = s.now := by
  simp [State.addTarget]
@[simp] theorem State.foldl_addTarget_now (s : State) (b : Nat) (ts : List Trunk) :
    (ts.foldl (State.addTarget b) s).now = s.now := by
  induction ts generalizing s with
  | nil => rfl
  | cons t ts ih => simp [ih]
@[simp] theorem State.removeTarget_now (s : State) (b : Nat) (t : Trunk) : (State.removeTarget b s t).now = s.now := by
  simp [State.removeTarget]
@[simp] theorem State.foldl_removeTarget_now (s : State) (b : Nat) (ts : List Trunk) :
    (ts.foldl (State.removeTarget b) s).now = s.now := by
  induction ts generalizing s with
  | nil => rfl
  | cons t ts ih => simp [ih]
@[simp] theorem State.addTarget_clock (s : State) (b : Nat) (t : Trunk) : (State.addTarget b s t).clock = s.clock := by
  simp [State.addTarget]
@[simp] theorem State.foldl_addTarget_clock (s : State) (b : Nat) (ts : List Trunk) :
    (ts.foldl (State.addTarget b) s).clock = s.clock := by
  induction ts generalizing s with
  | nil => rfl
  | cons t ts ih => simp [ih]
@[simp] theorem State.removeTarget_clock (s : State) (b : Nat) (t : Trunk) : (State.removeTarget b s t).clock = s.clock := by
  simp [State.removeTarget]
@[simp] theorem State.foldl_removeTarget_clock (s : State) (b : Nat) (ts : List Trunk) :
    (ts.foldl (State.removeTarget b) s).clock = s.clock := by
  induction ts generalizing s with
  | nil => rfl
  | cons t ts ih => simp [ih]
@[simp] theorem State.addTarget_map (s : State) (b : Nat) (t : Trunk) : (State.addTarget b s t).map = s.map := by
  simp [State.addTarget]
@[simp] theorem State.foldl_addTarget_map (s : State) (b : Nat) (ts : List Trunk) :
    (ts.foldl (State.addTarget b) s).map = s.map := by
  induction ts generalizing s with
  | nil => rfl
  | cons t ts ih => simp [ih]
@[simp] theorem State.removeTarget_map (s : State) (b : Nat) (t : Trunk) : (State.removeTarget b s t).map = s.map := by
  simp [State.removeTarget]
@[simp] theorem State.foldl_removeTarget_map (s : State) (b : Nat) (ts : List Trunk) :
    (ts.foldl (State.removeTarget b) s).map = s.map := by
  induction ts generalizing s with
  | nil => rfl
  | cons t ts ih => simp [ih]
@[simp] theorem State.addTarget_body (s : State) (b : Nat) (t : Trunk) : (State.addTarget b s t).body = s.body := by
  simp [State.addTarget]
@[simp] theorem State.foldl_addTarget_body (s : State) (b : Nat) (ts : List Trunk) :
    (ts.foldl (State.addTarget b) s).body = s.body := by
  induction ts generalizing s with
  | nil => rfl
  | cons t ts ih => simp [ih]
@[simp] theorem State.removeTarget_body (s : State) (b : Nat) (t : Trunk) : (State.removeTarget b s t).body = s.body := by
  simp [State.removeTarget]
@[simp] theorem State.foldl_removeTarget_body (s : State) (b : Nat) (ts : List Trunk) :
    (ts.foldl (State.removeTarget b) s).body = s.body := by
  induction ts generalizing s with
  | nil => rfl
  | cons t ts ih => simp [ih]
@[simp] theorem State.addTarget_ports (s : State) (b : Nat) (t : Trunk) : (State.addTarget b s t).ports = s.ports := by
  simp [State.addTarget]
@[simp] theorem State.foldl_addTarget_ports (s : State) (b : Nat) (ts : List Trunk) :
    (ts.foldl (State.addTarget b) s).ports = s.ports := by
  induction ts generalizing s with
  | nil => rfl
  | cons t ts ih => simp [ih]
@[simp] theorem State.removeTarget_ports (s : State) (b : Nat) (t : Trunk) : (State.removeTarget b s t).ports = s.ports := by
  simp [State.removeTarget]
@[simp] theorem State.foldl_removeTarget_ports (s : State) (b : Nat) (ts : List Trunk) :
    (ts.foldl (State.removeTarget b) s).ports = s.ports := by
  induction ts generalizing s with
  | nil => rfl
  | cons t ts ih => simp [ih]
@[simp] theorem State.addTarget_sups (s : State) (b : Nat) (t : Trunk) : (State.addTarget b s t).sups = s.sups := by
  simp [State.addTarget]
@[simp] theorem State.foldl_addTarget_sups (s : State) (b : Nat) (ts : List Trunk) :
    (ts.foldl (State.addTarget b) s).sups = s.sups := by
  induction ts generalizing s with
  | nil => rfl
  | cons t ts ih => simp [ih]
@[simp] theorem State.removeTarget_sups (s : State) (b : Nat) (t : Trunk) : (State.removeTarget b s t).sups = s.sups := by
  simp [State.removeTarget]
@[simp] theorem State.foldl_removeTarget_sups (s : State) (b : Nat) (ts : List Trunk) :
    (ts.foldl (State.removeTarget b) s).sups = s.sups := by
  induction ts generalizing s with
  | nil => rfl
  | cons t ts ih => simp [ih]
@[simp] theorem State.addTarget_apply (s : State) (b : Nat) (t : Trunk) : (State.addTarget b s t).apply = s.apply := by
  simp [State.addTarget]
@[simp] theorem State.foldl_addTarget_apply (s : State) (b : Nat) (ts : List Trunk) :
    (ts.foldl (State.addTarget b) s).apply = s.apply := by
  induction ts generalizing s with
  | nil => rfl
  | cons t ts ih => simp [ih]
@[simp] theorem State.removeTarget_apply (s : State) (b : Nat) (t : Trunk) : (State.removeTarget b s t).apply = s.apply := by
  simp [State.removeTarget]
@[simp] theorem State.foldl_removeTarget_apply (s : State) (b : Nat) (ts : List Trunk) :
    (ts.foldl (State.removeTarget b) s).apply = s.apply := by
  induction ts generalizing s with
  | nil => rfl
  | cons t ts ih => simp [ih]
@[simp] theorem State.addTarget_sli (s : State) (b : Nat) (t : Trunk) : (State.addTarget b s t).sli = s.sli := by
  simp [State.addTarget]
@[simp] theorem State.foldl_addTarget_sli (s : State) (b : Nat) (ts : List Trunk) :
    (ts.foldl (State.addTarget b) s).sli = s.sli := by
  induction ts generalizing s with
  | nil => rfl
  | cons t ts ih => simp [ih]
@[simp] theorem State.removeTarget_sli (s : State) (b : Nat) (t : Trunk) : (State.removeTarget b s t).sli = s.sli := by
  simp [State.removeTarget]
@[simp] theorem State.foldl_removeTarget_sli (s : State) (b : Nat) (ts : List Trunk) :
    (ts.foldl (State.removeTarget b) s).sli = s.sli := by
  induction ts generalizing s with
  | nil => rfl
  | cons t ts ih => simp [ih]
@[simp] theorem State.addTarget_freeCount (s : State) (b : Nat) (t : Trunk) : (State.addTarget b s t).freeCount = s.freeCount := by
  simp [State.addTarget]
@[simp] theorem State.foldl_addTarget_freeCount (s : State) (b : Nat) (ts : List Trunk) :
    (ts.foldl (State.addTarget b) s).freeCount = s.freeCount := by
  induction ts generalizing s with
  | nil => rfl
  | cons t ts ih => simp [ih]
@[simp] theorem State.removeTarget_freeCount (s : State) (b : Nat) (t : Trunk) : (State.removeTarget b s t).freeCount = s.freeCount := by
  simp [State.removeTarget]
@[simp] theorem State.foldl_removeTarget_freeCount (s : State) (b : Nat) (ts : List Trunk) :
    (ts.foldl (State.removeTarget b) s).freeCount = s.freeCount := by
  induction ts generalizing s with
  | nil => rfl
  | cons t ts ih => simp [ih]
@[simp] theorem State.addTarget_pending (s : State) (b : Nat) (t : Trunk) : (State.addTarget b s t).pending = s.pending := by
  simp [State.addTarget]
@[simp] theorem State.foldl_addTarget_pending (s : State) (b : Nat) (ts : List Trunk) :
    (ts.foldl (State.addTarget b) s).pending = s.pending := by
  induction ts generalizing s with
  | nil => rfl
  | cons t ts ih => simp [ih]
@[simp] theorem State.removeTarget_pending (s : State) (b : Nat) (t : Trunk) : (State.removeTarget b s t).pending = s.pending := by
  simp [State.removeTarget]
@[simp] theorem State.foldl_removeTarget_pending (s : State) (b : Nat) (ts : List Trunk) :
    (ts.foldl (State.removeTarget b) s).pending = s.pending := by
  induction ts generalizing s with
  | nil => rfl
  | cons t ts ih => simp [ih]

@[simp] theorem State.retarget_now (s : State) (b : Nat) (q : Quad Bool) : (s.retarget b q).now = s.now := by simp [State.retarget]
@[simp] theorem State.retarget_clock (s : State) (b : Nat) (q : Quad Bool) : (s.retarget b q).clock = s.clock := by simp [State.retarget]
@[simp] theorem State.retarget_ports (s : State) (b : Nat) (q : Quad Bool) : (s.retarget b q).ports = s.ports := by simp [State.retarget]
@[simp] theorem State.retarget_sups (s : State) (b : Nat) (q : Quad Bool) : (s.retarget b q).sups = s.sups := by simp [State.retarget]
@[simp] theorem State.retarget_apply (s : State) (b : Nat) (q : Quad Bool) : (s.retarget b q).apply = s.apply := by simp [State.retarget]
@[simp] theorem State.retarget_sli (s : State) (b : Nat) (q : Quad Bool) : (s.retarget b q).sli = s.sli := by simp [State.retarget]
@[simp] theorem State.retarget_freeCount (s : State) (b : Nat) (q : Quad Bool) : (s.retarget b q).freeCount = s.freeCount := by simp [State.retarget]
@[simp] theorem State.retarget_pending (s : State) (b : Nat) (q : Quad Bool) : (s.retarget b q).pending = s.pending := by simp [State.retarget]

@[simp] theorem State.setUpBucket_now (s : State) (b : Nat) (st : BucketState) (q : Quad Bool) (c : Band) : (s.setUpBucket b st q c).now = s.now := by unfold State.setUpBucket; dsimp only; split <;> simp
@[simp] theorem State.setUpBucket_clock (s : State) (b : Nat) (st : BucketState) (q : Quad Bool) (c : Band) : (s.setUpBucket b st q c).clock = s.clock := by unfold State.setUpBucket; dsimp only; split <;> simp
@[simp] theorem State.setUpBucket_ports (s : State) (b : Nat) (st : BucketState) (q : Quad Bool) (c : Band) : (s.setUpBucket b st q c).ports = s.ports := by unfold State.setUpBucket; dsimp only; split <;> simp
@[simp] theorem State.setUpBucket_sups (s : State) (b : Nat) (st : BucketState) (q : Quad Bool) (c : Band) : (s.setUpBucket b st q c).sups = s.sups := by unfold State.setUpBucket; dsimp only; split <;> simp
@[simp] theorem State.setUpBucket_apply (s : State) (b : Nat) (st : BucketState) (q : Quad Bool) (c : Band) : (s.setUpBucket b st q c).apply = s.apply := by unfold State.setUpBucket; dsimp only; split <;> simp
@[simp] theorem State.setUpBucket_sli (s : State) (b : Nat) (st : BucketState) (q : Quad Bool) (c : Band) : (s.setUpBucket b st q c).sli = s.sli := by unfold State.setUpBucket; dsimp only; split <;> simp
@[simp] theorem State.setUpBucket_pending (s : State) (b : Nat) (st : BucketState) (q : Quad Bool) (c : Band) : (s.setUpBucket b st q c).pending = s.pending := by unfold State.setUpBucket; dsimp only; split <;> simp

@[simp] theorem State.bumpGen_now (s : State) (i g : Nat) : (s.bumpGen i g).now = s.now := rfl
@[simp] theorem State.bumpGen_clock (s : State) (i g : Nat) : (s.bumpGen i g).clock = s.clock := rfl
@[simp] theorem State.bumpGen_buckets (s : State) (i g : Nat) : (s.bumpGen i g).buckets = s.buckets := rfl
@[simp] theorem State.bumpGen_map (s : State) (i g : Nat) : (s.bumpGen i g).map = s.map := rfl
@[simp] theorem State.bumpGen_body (s : State) (i g : Nat) : (s.bumpGen i g).body = s.body := rfl
@[simp] theorem State.bumpGen_ports (s : State) (i g : Nat) : (s.bumpGen i g).ports = s.ports := rfl
@[simp] theorem State.bumpGen_sups (s : State) (i g : Nat) : (s.bumpGen i g).sups = s.sups := rfl
@[simp] theorem State.bumpGen_apply (s : State) (i g : Nat) : (s.bumpGen i g).apply = s.apply := rfl
@[simp] theorem State.bumpGen_sli (s : State) (i g : Nat) : (s.bumpGen i g).sli = s.sli := rfl
@[simp] theorem State.bumpGen_freeCount (s : State) (i g : Nat) : (s.bumpGen i g).freeCount = s.freeCount := rfl
@[simp] theorem State.bumpGen_pending (s : State) (i g : Nat) : (s.bumpGen i g).pending = s.pending := rfl

@[simp] theorem State.stampObject_now (s : State) (q : SubmitReq) (x : Stamp) : (s.stampObject q x).now = s.now := by simp [State.stampObject]
@[simp] theorem State.stampObject_clock (s : State) (q : SubmitReq) (x : Stamp) : (s.stampObject q x).clock = s.clock := by simp [State.stampObject]
@[simp] theorem State.stampObject_buckets (s : State) (q : SubmitReq) (x : Stamp) : (s.stampObject q x).buckets = s.buckets := by simp [State.stampObject]
@[simp] theorem State.stampObject_journal (s : State) (q : SubmitReq) (x : Stamp) : (s.stampObject q x).journal = s.journal := by simp [State.stampObject]
@[simp] theorem State.stampObject_body (s : State) (q : SubmitReq) (x : Stamp) : (s.stampObject q x).body = s.body := by simp [State.stampObject]
@[simp] theorem State.stampObject_ports (s : State) (q : SubmitReq) (x : Stamp) : (s.stampObject q x).ports = s.ports := by simp [State.stampObject]
@[simp] theorem State.stampObject_sups (s : State) (q : SubmitReq) (x : Stamp) : (s.stampObject q x).sups = s.sups := by simp [State.stampObject]
@[simp] theorem State.stampObject_apply (s : State) (q : SubmitReq) (x : Stamp) : (s.stampObject q x).apply = s.apply := by simp [State.stampObject]
@[simp] theorem State.stampObject_sli (s : State) (q : SubmitReq) (x : Stamp) : (s.stampObject q x).sli = s.sli := by simp [State.stampObject]
@[simp] theorem State.stampObject_freeCount (s : State) (q : SubmitReq) (x : Stamp) : (s.stampObject q x).freeCount = s.freeCount := by simp [State.stampObject]
@[simp] theorem State.stampObject_pending (s : State) (q : SubmitReq) (x : Stamp) : (s.stampObject q x).pending = s.pending := by simp [State.stampObject]

@[simp] theorem State.countSubmit_now (s : State) : (s.countSubmit).now = s.now := rfl
@[simp] theorem State.countSubmit_clock (s : State) : (s.countSubmit).clock = s.clock := rfl
@[simp] theorem State.countSubmit_buckets (s : State) : (s.countSubmit).buckets = s.buckets := rfl
@[simp] theorem State.countSubmit_journal (s : State) : (s.countSubmit).journal = s.journal := rfl
@[simp] theorem State.countSubmit_map (s : State) : (s.countSubmit).map = s.map := rfl
@[simp] theorem State.countSubmit_body (s : State) : (s.countSubmit).body = s.body := rfl
@[simp] theorem State.countSubmit_ports (s : State) : (s.countSubmit).ports = s.ports := rfl
@[simp] theorem State.countSubmit_sups (s : State) : (s.countSubmit).sups = s.sups := rfl
@[simp] theorem State.countSubmit_apply (s : State) : (s.countSubmit).apply = s.apply := rfl
@[simp] theorem State.countSubmit_freeCount (s : State) : (s.countSubmit).freeCount = s.freeCount := rfl
@[simp] theorem State.countSubmit_pending (s : State) : (s.countSubmit).pending = s.pending := rfl

@[simp] theorem State.refuseSubmit_now (s : State) (r : Result) : (s.refuseSubmit r).now = s.now := by unfold State.refuseSubmit; split <;> simp
@[simp] theorem State.refuseSubmit_clock (s : State) (r : Result) : (s.refuseSubmit r).clock = s.clock := by unfold State.refuseSubmit; split <;> simp
@[simp] theorem State.refuseSubmit_buckets (s : State) (r : Result) : (s.refuseSubmit r).buckets = s.buckets := by unfold State.refuseSubmit; split <;> simp
@[simp] theorem State.refuseSubmit_journal (s : State) (r : Result) : (s.refuseSubmit r).journal = s.journal := by unfold State.refuseSubmit; split <;> simp
@[simp] theorem State.refuseSubmit_map (s : State) (r : Result) : (s.refuseSubmit r).map = s.map := by unfold State.refuseSubmit; split <;> simp
@[simp] theorem State.refuseSubmit_body (s : State) (r : Result) : (s.refuseSubmit r).body = s.body := by unfold State.refuseSubmit; split <;> simp
@[simp] theorem State.refuseSubmit_ports (s : State) (r : Result) : (s.refuseSubmit r).ports = s.ports := by unfold State.refuseSubmit; split <;> simp
@[simp] theorem State.refuseSubmit_sups (s : State) (r : Result) : (s.refuseSubmit r).sups = s.sups := by unfold State.refuseSubmit; split <;> simp
@[simp] theorem State.refuseSubmit_apply (s : State) (r : Result) : (s.refuseSubmit r).apply = s.apply := by unfold State.refuseSubmit; split <;> simp
@[simp] theorem State.refuseSubmit_freeCount (s : State) (r : Result) : (s.refuseSubmit r).freeCount = s.freeCount := by unfold State.refuseSubmit; split <;> simp
@[simp] theorem State.refuseSubmit_pending (s : State) (r : Result) : (s.refuseSubmit r).pending = s.pending := by unfold State.refuseSubmit; split <;> simp

@[simp] theorem State.wantBody_now (s : State) (e : JEntry) : (s.wantBody e).now = s.now := by simp [State.wantBody]
@[simp] theorem State.wantBody_clock (s : State) (e : JEntry) : (s.wantBody e).clock = s.clock := by simp [State.wantBody]
@[simp] theorem State.wantBody_buckets (s : State) (e : JEntry) : (s.wantBody e).buckets = s.buckets := by simp [State.wantBody]
@[simp] theorem State.wantBody_map (s : State) (e : JEntry) : (s.wantBody e).map = s.map := by simp [State.wantBody]
@[simp] theorem State.wantBody_ports (s : State) (e : JEntry) : (s.wantBody e).ports = s.ports := by simp [State.wantBody]
@[simp] theorem State.wantBody_sups (s : State) (e : JEntry) : (s.wantBody e).sups = s.sups := by simp [State.wantBody]
@[simp] theorem State.wantBody_apply (s : State) (e : JEntry) : (s.wantBody e).apply = s.apply := by simp [State.wantBody]
@[simp] theorem State.wantBody_pending (s : State) (e : JEntry) : (s.wantBody e).pending = s.pending := by simp [State.wantBody]

@[simp] theorem State.refillHead_now (s : State) : (s.refillHead).now = s.now := by unfold State.refillHead; (repeat' split) <;> simp
@[simp] theorem State.refillHead_clock (s : State) : (s.refillHead).clock = s.clock := by unfold State.refillHead; (repeat' split) <;> simp
@[simp] theorem State.refillHead_buckets (s : State) : (s.refillHead).buckets = s.buckets := by unfold State.refillHead; (repeat' split) <;> simp
@[simp] theorem State.refillHead_map (s : State) : (s.refillHead).map = s.map := by unfold State.refillHead; (repeat' split) <;> simp
@[simp] theorem State.refillHead_ports (s : State) : (s.refillHead).ports = s.ports := by unfold State.refillHead; (repeat' split) <;> simp
@[simp] theorem State.refillHead_sups (s : State) : (s.refillHead).sups = s.sups := by unfold State.refillHead; (repeat' split) <;> simp
@[simp] theorem State.refillHead_apply (s : State) : (s.refillHead).apply = s.apply := by unfold State.refillHead; (repeat' split) <;> simp
@[simp] theorem State.refillHead_pending (s : State) : (s.refillHead).pending = s.pending := by unfold State.refillHead; (repeat' split) <;> simp

@[simp] theorem State.park_now (s : State) (e : JEntry) : (s.park e).now = s.now := by simp [State.park]
@[simp] theorem State.park_clock (s : State) (e : JEntry) : (s.park e).clock = s.clock := by simp [State.park]
@[simp] theorem State.park_buckets (s : State) (e : JEntry) : (s.park e).buckets = s.buckets := by simp [State.park]
@[simp] theorem State.park_map (s : State) (e : JEntry) : (s.park e).map = s.map := by simp [State.park]
@[simp] theorem State.park_ports (s : State) (e : JEntry) : (s.park e).ports = s.ports := by simp [State.park]
@[simp] theorem State.park_sups (s : State) (e : JEntry) : (s.park e).sups = s.sups := by simp [State.park]
@[simp] theorem State.park_apply (s : State) (e : JEntry) : (s.park e).apply = s.apply := by simp [State.park]
@[simp] theorem State.park_freeCount (s : State) (e : JEntry) : (s.park e).freeCount = s.freeCount := by simp [State.park]
@[simp] theorem State.park_pending (s : State) (e : JEntry) : (s.park e).pending = s.pending := by simp [State.park]

@[simp] theorem State.parkNext_now (s : State) : (s.parkNext).now = s.now := by unfold State.parkNext; (repeat' split) <;> simp
@[simp] theorem State.parkNext_clock (s : State) : (s.parkNext).clock = s.clock := by unfold State.parkNext; (repeat' split) <;> simp
@[simp] theorem State.parkNext_buckets (s : State) : (s.parkNext).buckets = s.buckets := by unfold State.parkNext; (repeat' split) <;> simp
@[simp] theorem State.parkNext_map (s : State) : (s.parkNext).map = s.map := by unfold State.parkNext; (repeat' split) <;> simp
@[simp] theorem State.parkNext_ports (s : State) : (s.parkNext).ports = s.ports := by unfold State.parkNext; (repeat' split) <;> simp
@[simp] theorem State.parkNext_sups (s : State) : (s.parkNext).sups = s.sups := by unfold State.parkNext; (repeat' split) <;> simp
@[simp] theorem State.parkNext_apply (s : State) : (s.parkNext).apply = s.apply := by unfold State.parkNext; (repeat' split) <;> simp
@[simp] theorem State.parkNext_freeCount (s : State) : (s.parkNext).freeCount = s.freeCount := by unfold State.parkNext; (repeat' split) <;> simp
@[simp] theorem State.parkNext_pending (s : State) : (s.parkNext).pending = s.pending := by unfold State.parkNext; (repeat' split) <;> simp

@[simp] theorem State.fillFailed_now (s : State) (e : JEntry) : (s.fillFailed e).now = s.now := by unfold State.fillFailed; (repeat' split) <;> simp
@[simp] theorem State.fillFailed_clock (s : State) (e : JEntry) : (s.fillFailed e).clock = s.clock := by unfold State.fillFailed; (repeat' split) <;> simp
@[simp] theorem State.fillFailed_ports (s : State) (e : JEntry) : (s.fillFailed e).ports = s.ports := by unfold State.fillFailed; (repeat' split) <;> simp
@[simp] theorem State.fillFailed_sups (s : State) (e : JEntry) : (s.fillFailed e).sups = s.sups := by unfold State.fillFailed; (repeat' split) <;> simp
@[simp] theorem State.fillFailed_apply (s : State) (e : JEntry) : (s.fillFailed e).apply = s.apply := by unfold State.fillFailed; (repeat' split) <;> simp
@[simp] theorem State.fillFailed_freeCount (s : State) (e : JEntry) : (s.fillFailed e).freeCount = s.freeCount := by unfold State.fillFailed; (repeat' split) <;> simp
@[simp] theorem State.fillFailed_pending (s : State) (e : JEntry) : (s.fillFailed e).pending = s.pending := by unfold State.fillFailed; (repeat' split) <;> simp

@[simp] theorem State.bodyGone_now (s : State) (e : JEntry) : (s.bodyGone e).now = s.now := by unfold State.bodyGone; split <;> simp
@[simp] theorem State.bodyGone_clock (s : State) (e : JEntry) : (s.bodyGone e).clock = s.clock := by unfold State.bodyGone; split <;> simp
@[simp] theorem State.bodyGone_ports (s : State) (e : JEntry) : (s.bodyGone e).ports = s.ports := by unfold State.bodyGone; split <;> simp
@[simp] theorem State.bodyGone_sups (s : State) (e : JEntry) : (s.bodyGone e).sups = s.sups := by unfold State.bodyGone; split <;> simp
@[simp] theorem State.bodyGone_apply (s : State) (e : JEntry) : (s.bodyGone e).apply = s.apply := by unfold State.bodyGone; split <;> simp
@[simp] theorem State.bodyGone_freeCount (s : State) (e : JEntry) : (s.bodyGone e).freeCount = s.freeCount := by unfold State.bodyGone; split <;> simp
@[simp] theorem State.bodyGone_pending (s : State) (e : JEntry) : (s.bodyGone e).pending = s.pending := by unfold State.bodyGone; split <;> simp

@[simp] theorem State.bodyAnswer_now (s : State) (tag : Nat) (ok : Bool) : (s.bodyAnswer tag ok).now = s.now := by unfold State.bodyAnswer; dsimp only; (repeat' split) <;> simp
@[simp] theorem State.bodyAnswer_clock (s : State) (tag : Nat) (ok : Bool) : (s.bodyAnswer tag ok).clock = s.clock := by unfold State.bodyAnswer; dsimp only; (repeat' split) <;> simp
@[simp] theorem State.bodyAnswer_ports (s : State) (tag : Nat) (ok : Bool) : (s.bodyAnswer tag ok).ports = s.ports := by unfold State.bodyAnswer; dsimp only; (repeat' split) <;> simp
@[simp] theorem State.bodyAnswer_sups (s : State) (tag : Nat) (ok : Bool) : (s.bodyAnswer tag ok).sups = s.sups := by unfold State.bodyAnswer; dsimp only; (repeat' split) <;> simp
@[simp] theorem State.bodyAnswer_apply (s : State) (tag : Nat) (ok : Bool) : (s.bodyAnswer tag ok).apply = s.apply := by unfold State.bodyAnswer; dsimp only; (repeat' split) <;> simp
@[simp] theorem State.bodyAnswer_pending (s : State) (tag : Nat) (ok : Bool) : (s.bodyAnswer tag ok).pending = s.pending := by unfold State.bodyAnswer; dsimp only; (repeat' split) <;> simp

@[simp] theorem State.policyChange_now (s : State) (t : Trunk) (a b : Bool) : (s.policyChange t a b).now = s.now := by unfold State.policyChange; split <;> simp
@[simp] theorem State.policyChange_clock (s : State) (t : Trunk) (a b : Bool) : (s.policyChange t a b).clock = s.clock := by unfold State.policyChange; split <;> simp
@[simp] theorem State.policyChange_buckets (s : State) (t : Trunk) (a b : Bool) : (s.policyChange t a b).buckets = s.buckets := by unfold State.policyChange; split <;> simp
@[simp] theorem State.policyChange_journal (s : State) (t : Trunk) (a b : Bool) : (s.policyChange t a b).journal = s.journal := by unfold State.policyChange; split <;> simp
@[simp] theorem State.policyChange_map (s : State) (t : Trunk) (a b : Bool) : (s.policyChange t a b).map = s.map := by unfold State.policyChange; split <;> simp
@[simp] theorem State.policyChange_body (s : State) (t : Trunk) (a b : Bool) : (s.policyChange t a b).body = s.body := by unfold State.policyChange; split <;> simp
@[simp] theorem State.policyChange_ports (s : State) (t : Trunk) (a b : Bool) : (s.policyChange t a b).ports = s.ports := by unfold State.policyChange; split <;> simp
@[simp] theorem State.policyChange_sups (s : State) (t : Trunk) (a b : Bool) : (s.policyChange t a b).sups = s.sups := by unfold State.policyChange; split <;> simp
@[simp] theorem State.policyChange_apply (s : State) (t : Trunk) (a b : Bool) : (s.policyChange t a b).apply = s.apply := by unfold State.policyChange; split <;> simp
@[simp] theorem State.policyChange_freeCount (s : State) (t : Trunk) (a b : Bool) : (s.policyChange t a b).freeCount = s.freeCount := by unfold State.policyChange; split <;> simp
@[simp] theorem State.policyChange_pending (s : State) (t : Trunk) (a b : Bool) : (s.policyChange t a b).pending = s.pending := by unfold State.policyChange; split <;> simp

@[simp] theorem State.configure_now (s : State) (t : Trunk) (q : ConfigReq) : (s.configure t q).now = s.now := by unfold State.configure; dsimp only; split <;> simp
@[simp] theorem State.configure_clock (s : State) (t : Trunk) (q : ConfigReq) : (s.configure t q).clock = s.clock := by unfold State.configure; dsimp only; split <;> simp
@[simp] theorem State.configure_sups (s : State) (t : Trunk) (q : ConfigReq) : (s.configure t q).sups = s.sups := by unfold State.configure; dsimp only; split <;> simp
@[simp] theorem State.configure_pending (s : State) (t : Trunk) (q : ConfigReq) : (s.configure t q).pending = s.pending := by unfold State.configure; dsimp only; split <;> simp

@[simp] theorem State.enable_now (s : State) (t : Trunk) : (s.enable t).now = s.now := rfl
@[simp] theorem State.enable_clock (s : State) (t : Trunk) : (s.enable t).clock = s.clock := rfl
@[simp] theorem State.enable_buckets (s : State) (t : Trunk) : (s.enable t).buckets = s.buckets := rfl
@[simp] theorem State.enable_journal (s : State) (t : Trunk) : (s.enable t).journal = s.journal := rfl
@[simp] theorem State.enable_map (s : State) (t : Trunk) : (s.enable t).map = s.map := rfl
@[simp] theorem State.enable_body (s : State) (t : Trunk) : (s.enable t).body = s.body := rfl
@[simp] theorem State.enable_apply (s : State) (t : Trunk) : (s.enable t).apply = s.apply := rfl
@[simp] theorem State.enable_sli (s : State) (t : Trunk) : (s.enable t).sli = s.sli := rfl
@[simp] theorem State.enable_freeCount (s : State) (t : Trunk) : (s.enable t).freeCount = s.freeCount := rfl
@[simp] theorem State.enable_pending (s : State) (t : Trunk) : (s.enable t).pending = s.pending := rfl

@[simp] theorem State.clearFault_now (s : State) (t : Trunk) : (s.clearFault t).now = s.now := by simp [State.clearFault]
@[simp] theorem State.clearFault_clock (s : State) (t : Trunk) : (s.clearFault t).clock = s.clock := by simp [State.clearFault]
@[simp] theorem State.clearFault_buckets (s : State) (t : Trunk) : (s.clearFault t).buckets = s.buckets := by simp [State.clearFault]
@[simp] theorem State.clearFault_sli (s : State) (t : Trunk) : (s.clearFault t).sli = s.sli := by simp [State.clearFault]
@[simp] theorem State.clearFault_pending (s : State) (t : Trunk) : (s.clearFault t).pending = s.pending := by simp [State.clearFault]

@[simp] theorem State.closePeriod_now (s : State) (t : Trunk) : (s.closePeriod t).now = s.now := by unfold State.closePeriod; dsimp only; (repeat' split) <;> simp
@[simp] theorem State.closePeriod_clock (s : State) (t : Trunk) : (s.closePeriod t).clock = s.clock := by unfold State.closePeriod; dsimp only; (repeat' split) <;> simp
@[simp] theorem State.closePeriod_buckets (s : State) (t : Trunk) : (s.closePeriod t).buckets = s.buckets := by unfold State.closePeriod; dsimp only; (repeat' split) <;> simp
@[simp] theorem State.closePeriod_journal (s : State) (t : Trunk) : (s.closePeriod t).journal = s.journal := by unfold State.closePeriod; dsimp only; (repeat' split) <;> simp
@[simp] theorem State.closePeriod_map (s : State) (t : Trunk) : (s.closePeriod t).map = s.map := by unfold State.closePeriod; dsimp only; (repeat' split) <;> simp
@[simp] theorem State.closePeriod_body (s : State) (t : Trunk) : (s.closePeriod t).body = s.body := by unfold State.closePeriod; dsimp only; (repeat' split) <;> simp
@[simp] theorem State.closePeriod_ports (s : State) (t : Trunk) : (s.closePeriod t).ports = s.ports := by unfold State.closePeriod; dsimp only; (repeat' split) <;> simp
@[simp] theorem State.closePeriod_apply (s : State) (t : Trunk) : (s.closePeriod t).apply = s.apply := by unfold State.closePeriod; dsimp only; (repeat' split) <;> simp
@[simp] theorem State.closePeriod_freeCount (s : State) (t : Trunk) : (s.closePeriod t).freeCount = s.freeCount := by unfold State.closePeriod; dsimp only; (repeat' split) <;> simp
@[simp] theorem State.closePeriod_pending (s : State) (t : Trunk) : (s.closePeriod t).pending = s.pending := by unfold State.closePeriod; dsimp only; (repeat' split) <;> simp

@[simp] theorem State.countCycle_now (s : State) (t : Trunk) : (s.countCycle t).now = s.now := by unfold State.countCycle; dsimp only; (repeat' split) <;> simp
@[simp] theorem State.countCycle_clock (s : State) (t : Trunk) : (s.countCycle t).clock = s.clock := by unfold State.countCycle; dsimp only; (repeat' split) <;> simp
@[simp] theorem State.countCycle_buckets (s : State) (t : Trunk) : (s.countCycle t).buckets = s.buckets := by unfold State.countCycle; dsimp only; (repeat' split) <;> simp
@[simp] theorem State.countCycle_journal (s : State) (t : Trunk) : (s.countCycle t).journal = s.journal := by unfold State.countCycle; dsimp only; (repeat' split) <;> simp
@[simp] theorem State.countCycle_map (s : State) (t : Trunk) : (s.countCycle t).map = s.map := by unfold State.countCycle; dsimp only; (repeat' split) <;> simp
@[simp] theorem State.countCycle_apply (s : State) (t : Trunk) : (s.countCycle t).apply = s.apply := by unfold State.countCycle; dsimp only; (repeat' split) <;> simp
@[simp] theorem State.countCycle_sli (s : State) (t : Trunk) : (s.countCycle t).sli = s.sli := by unfold State.countCycle; dsimp only; (repeat' split) <;> simp
@[simp] theorem State.countCycle_pending (s : State) (t : Trunk) : (s.countCycle t).pending = s.pending := by unfold State.countCycle; dsimp only; (repeat' split) <;> simp

@[simp] theorem State.stagedStart_now (s : State) (t : Trunk) : (s.stagedStart t).now = s.now := by simp [State.stagedStart]
@[simp] theorem State.stagedStart_clock (s : State) (t : Trunk) : (s.stagedStart t).clock = s.clock := by simp [State.stagedStart]
@[simp] theorem State.stagedStart_buckets (s : State) (t : Trunk) : (s.stagedStart t).buckets = s.buckets := by simp [State.stagedStart]
@[simp] theorem State.stagedStart_journal (s : State) (t : Trunk) : (s.stagedStart t).journal = s.journal := by simp [State.stagedStart]
@[simp] theorem State.stagedStart_map (s : State) (t : Trunk) : (s.stagedStart t).map = s.map := by simp [State.stagedStart]
@[simp] theorem State.stagedStart_body (s : State) (t : Trunk) : (s.stagedStart t).body = s.body := by simp [State.stagedStart]
@[simp] theorem State.stagedStart_apply (s : State) (t : Trunk) : (s.stagedStart t).apply = s.apply := by simp [State.stagedStart]
@[simp] theorem State.stagedStart_freeCount (s : State) (t : Trunk) : (s.stagedStart t).freeCount = s.freeCount := by simp [State.stagedStart]
@[simp] theorem State.stagedStart_pending (s : State) (t : Trunk) : (s.stagedStart t).pending = s.pending := by simp [State.stagedStart]

@[simp] theorem State.beginCycle_clock (s : State) (t : Trunk) : (s.beginCycle t).clock = s.clock := rfl
@[simp] theorem State.beginCycle_buckets (s : State) (t : Trunk) : (s.beginCycle t).buckets = s.buckets := rfl
@[simp] theorem State.beginCycle_journal (s : State) (t : Trunk) : (s.beginCycle t).journal = s.journal := rfl
@[simp] theorem State.beginCycle_map (s : State) (t : Trunk) : (s.beginCycle t).map = s.map := rfl
@[simp] theorem State.beginCycle_body (s : State) (t : Trunk) : (s.beginCycle t).body = s.body := rfl
@[simp] theorem State.beginCycle_sups (s : State) (t : Trunk) : (s.beginCycle t).sups = s.sups := rfl
@[simp] theorem State.beginCycle_apply (s : State) (t : Trunk) : (s.beginCycle t).apply = s.apply := rfl
@[simp] theorem State.beginCycle_sli (s : State) (t : Trunk) : (s.beginCycle t).sli = s.sli := rfl
@[simp] theorem State.beginCycle_pending (s : State) (t : Trunk) : (s.beginCycle t).pending = s.pending := rfl

@[simp] theorem State.consequence_now (s : State) (t : Trunk) (g : Signature) : (s.consequence t g).now = s.now := by unfold State.consequence; dsimp only; (repeat' split) <;> simp
@[simp] theorem State.consequence_clock (s : State) (t : Trunk) (g : Signature) : (s.consequence t g).clock = s.clock := by unfold State.consequence; dsimp only; (repeat' split) <;> simp
@[simp] theorem State.consequence_buckets (s : State) (t : Trunk) (g : Signature) : (s.consequence t g).buckets = s.buckets := by unfold State.consequence; dsimp only; (repeat' split) <;> simp
@[simp] theorem State.consequence_pending (s : State) (t : Trunk) (g : Signature) : (s.consequence t g).pending = s.pending := by unfold State.consequence; dsimp only; (repeat' split) <;> simp

@[simp] theorem State.takeRequest_now (s : State) (t : Trunk) : (s.takeRequest t).now = s.now := by unfold State.takeRequest; split <;> simp
@[simp] theorem State.takeRequest_clock (s : State) (t : Trunk) : (s.takeRequest t).clock = s.clock := by unfold State.takeRequest; split <;> simp
@[simp] theorem State.takeRequest_buckets (s : State) (t : Trunk) : (s.takeRequest t).buckets = s.buckets := by unfold State.takeRequest; split <;> simp
@[simp] theorem State.takeRequest_pending (s : State) (t : Trunk) : (s.takeRequest t).pending = s.pending := by unfold State.takeRequest; split <;> simp

/-- What taking one request keeps, taking all of them keeps. -/
theorem State.takeRequests_keeps {P : State → Prop} (t : Trunk) (take : ∀ s, P s → P (s.takeRequest t)) {s : State} (h : P s) :
    P (s.takeRequests t) := by
  have step : ∀ n, P (Nat.repeat (fun u => State.takeRequest u t) n s) := fun n => by
    induction n with
    | zero => exact h
    | succ n ih => exact take _ ih
  exact step _

@[simp] theorem State.takeRequests_now (s : State) (t : Trunk) : (s.takeRequests t).now = s.now :=
  State.takeRequests_keeps (P := fun u => u.now = s.now) t (fun u h => by simpa using h) rfl
@[simp] theorem State.takeRequests_clock (s : State) (t : Trunk) : (s.takeRequests t).clock = s.clock :=
  State.takeRequests_keeps (P := fun u => u.clock = s.clock) t (fun u h => by simpa using h) rfl
@[simp] theorem State.takeRequests_buckets (s : State) (t : Trunk) : (s.takeRequests t).buckets = s.buckets :=
  State.takeRequests_keeps (P := fun u => u.buckets = s.buckets) t (fun u h => by simpa using h) rfl
@[simp] theorem State.takeRequests_pending (s : State) (t : Trunk) : (s.takeRequests t).pending = s.pending :=
  State.takeRequests_keeps (P := fun u => u.pending = s.pending) t (fun u h => by simpa using h) rfl

/-- What each event of a cycle start keeps, every order of them keeps (R168). -/
theorem State.cycleEvents_keeps {P : State → Prop} (t : Trunk) (staged : ∀ s, P s → P (s.stagedStart t))
    (close : ∀ s, P s → P (s.closePeriod t)) (count : ∀ s, P s → P (s.countCycle t))
    (take : ∀ s, P s → P (s.takeRequest t)) (o : Config.CycleOrder) {s : State} (h : P s) : P (s.cycleEvents t o) := by
  have act : ∀ s, P s → P (s.actAtOnce t) := fun s h => by
    unfold State.actAtOnce; split
    · exact State.takeRequests_keeps t take h
    · exact h
  cases o with
  | closeLast => exact close _ (count _ (staged _ h))
  | closeMiddle => exact count _ (close _ (staged _ h))
  | closeFirst => exact count _ (staged _ (close _ h))
  | closeMiddleActed => exact count _ (act _ (close _ (staged _ h)))
  | closeFirstActed => exact count _ (act _ (staged _ (close _ h)))
  | identificationFirst => exact count _ (staged _ (act _ (close _ h)))

@[simp] theorem State.cycleEvents_now (s : State) (t : Trunk) (o : Config.CycleOrder) : (s.cycleEvents t o).now = s.now :=
  State.cycleEvents_keeps (P := fun u => u.now = s.now) t (fun u h => by simpa using h) (fun u h => by simpa using h)
    (fun u h => by simpa using h) (fun u h => by simpa using h) o rfl
@[simp] theorem State.cycleEvents_clock (s : State) (t : Trunk) (o : Config.CycleOrder) : (s.cycleEvents t o).clock = s.clock :=
  State.cycleEvents_keeps (P := fun u => u.clock = s.clock) t (fun u h => by simpa using h) (fun u h => by simpa using h)
    (fun u h => by simpa using h) (fun u h => by simpa using h) o rfl
@[simp] theorem State.cycleEvents_buckets (s : State) (t : Trunk) (o : Config.CycleOrder) : (s.cycleEvents t o).buckets = s.buckets :=
  State.cycleEvents_keeps (P := fun u => u.buckets = s.buckets) t (fun u h => by simpa using h) (fun u h => by simpa using h)
    (fun u h => by simpa using h) (fun u h => by simpa using h) o rfl
@[simp] theorem State.cycleEvents_pending (s : State) (t : Trunk) (o : Config.CycleOrder) : (s.cycleEvents t o).pending = s.pending :=
  State.cycleEvents_keeps (P := fun u => u.pending = s.pending) t (fun u h => by simpa using h) (fun u h => by simpa using h)
    (fun u h => by simpa using h) (fun u h => by simpa using h) o rfl

@[simp] theorem State.startCycle_clock (s : State) (t : Trunk) : (s.startCycle t).clock = s.clock := by simp [State.startCycle]
@[simp] theorem State.startCycle_buckets (s : State) (t : Trunk) : (s.startCycle t).buckets = s.buckets := by simp [State.startCycle]
@[simp] theorem State.startCycle_pending (s : State) (t : Trunk) : (s.startCycle t).pending = s.pending := by simp [State.startCycle]

@[simp] theorem State.sendTest_now (s : State) (t : Trunk) : (s.sendTest t).now = s.now := by simp [State.sendTest]
@[simp] theorem State.sendTest_clock (s : State) (t : Trunk) : (s.sendTest t).clock = s.clock := by simp [State.sendTest]
@[simp] theorem State.sendTest_buckets (s : State) (t : Trunk) : (s.sendTest t).buckets = s.buckets := by simp [State.sendTest]
@[simp] theorem State.sendTest_journal (s : State) (t : Trunk) : (s.sendTest t).journal = s.journal := by simp [State.sendTest]
@[simp] theorem State.sendTest_map (s : State) (t : Trunk) : (s.sendTest t).map = s.map := by simp [State.sendTest]
@[simp] theorem State.sendTest_body (s : State) (t : Trunk) : (s.sendTest t).body = s.body := by simp [State.sendTest]
@[simp] theorem State.sendTest_sups (s : State) (t : Trunk) : (s.sendTest t).sups = s.sups := by simp [State.sendTest]
@[simp] theorem State.sendTest_apply (s : State) (t : Trunk) : (s.sendTest t).apply = s.apply := by simp [State.sendTest]
@[simp] theorem State.sendTest_sli (s : State) (t : Trunk) : (s.sendTest t).sli = s.sli := by simp [State.sendTest]
@[simp] theorem State.sendTest_freeCount (s : State) (t : Trunk) : (s.sendTest t).freeCount = s.freeCount := by simp [State.sendTest]
@[simp] theorem State.sendTest_pending (s : State) (t : Trunk) : (s.sendTest t).pending = s.pending := by simp [State.sendTest]

@[simp] theorem State.sendAlign_now (s : State) (t : Trunk) (n : Nat) : (s.sendAlign t n).now = s.now := by unfold State.sendAlign; dsimp only; split <;> simp
@[simp] theorem State.sendAlign_clock (s : State) (t : Trunk) (n : Nat) : (s.sendAlign t n).clock = s.clock := by unfold State.sendAlign; dsimp only; split <;> simp
@[simp] theorem State.sendAlign_buckets (s : State) (t : Trunk) (n : Nat) : (s.sendAlign t n).buckets = s.buckets := by unfold State.sendAlign; dsimp only; split <;> simp
@[simp] theorem State.sendAlign_journal (s : State) (t : Trunk) (n : Nat) : (s.sendAlign t n).journal = s.journal := by unfold State.sendAlign; dsimp only; split <;> simp
@[simp] theorem State.sendAlign_map (s : State) (t : Trunk) (n : Nat) : (s.sendAlign t n).map = s.map := by unfold State.sendAlign; dsimp only; split <;> simp
@[simp] theorem State.sendAlign_body (s : State) (t : Trunk) (n : Nat) : (s.sendAlign t n).body = s.body := by unfold State.sendAlign; dsimp only; split <;> simp
@[simp] theorem State.sendAlign_sups (s : State) (t : Trunk) (n : Nat) : (s.sendAlign t n).sups = s.sups := by unfold State.sendAlign; dsimp only; split <;> simp
@[simp] theorem State.sendAlign_apply (s : State) (t : Trunk) (n : Nat) : (s.sendAlign t n).apply = s.apply := by unfold State.sendAlign; dsimp only; split <;> simp
@[simp] theorem State.sendAlign_sli (s : State) (t : Trunk) (n : Nat) : (s.sendAlign t n).sli = s.sli := by unfold State.sendAlign; dsimp only; split <;> simp
@[simp] theorem State.sendAlign_freeCount (s : State) (t : Trunk) (n : Nat) : (s.sendAlign t n).freeCount = s.freeCount := by unfold State.sendAlign; dsimp only; split <;> simp
@[simp] theorem State.sendAlign_pending (s : State) (t : Trunk) (n : Nat) : (s.sendAlign t n).pending = s.pending := by unfold State.sendAlign; dsimp only; split <;> simp

@[simp] theorem State.sendUp_now (s : State) (t : Trunk) (n m : Nat) : (s.sendUp t n m).now = s.now := by unfold State.sendUp; (repeat' split) <;> simp
@[simp] theorem State.sendUp_clock (s : State) (t : Trunk) (n m : Nat) : (s.sendUp t n m).clock = s.clock := by unfold State.sendUp; (repeat' split) <;> simp
@[simp] theorem State.sendUp_pending (s : State) (t : Trunk) (n m : Nat) : (s.sendUp t n m).pending = s.pending := by unfold State.sendUp; (repeat' split) <;> simp

@[simp] theorem State.sendPosition_clock (s : State) (t : Trunk) : (s.sendPosition t).clock = s.clock := by unfold State.sendPosition; dsimp only; (repeat' split) <;> simp
@[simp] theorem State.sendPosition_pending (s : State) (t : Trunk) : (s.sendPosition t).pending = s.pending := by unfold State.sendPosition; dsimp only; (repeat' split) <;> simp

@[simp] theorem State.sendProbe_now (s : State) (t : Trunk) : (s.sendProbe t).now = s.now := by simp [State.sendProbe]
@[simp] theorem State.sendProbe_clock (s : State) (t : Trunk) : (s.sendProbe t).clock = s.clock := by simp [State.sendProbe]
@[simp] theorem State.sendProbe_buckets (s : State) (t : Trunk) : (s.sendProbe t).buckets = s.buckets := by simp [State.sendProbe]
@[simp] theorem State.sendProbe_journal (s : State) (t : Trunk) : (s.sendProbe t).journal = s.journal := by simp [State.sendProbe]
@[simp] theorem State.sendProbe_map (s : State) (t : Trunk) : (s.sendProbe t).map = s.map := by simp [State.sendProbe]
@[simp] theorem State.sendProbe_body (s : State) (t : Trunk) : (s.sendProbe t).body = s.body := by simp [State.sendProbe]
@[simp] theorem State.sendProbe_sups (s : State) (t : Trunk) : (s.sendProbe t).sups = s.sups := by simp [State.sendProbe]
@[simp] theorem State.sendProbe_apply (s : State) (t : Trunk) : (s.sendProbe t).apply = s.apply := by simp [State.sendProbe]
@[simp] theorem State.sendProbe_sli (s : State) (t : Trunk) : (s.sendProbe t).sli = s.sli := by simp [State.sendProbe]
@[simp] theorem State.sendProbe_freeCount (s : State) (t : Trunk) : (s.sendProbe t).freeCount = s.freeCount := by simp [State.sendProbe]
@[simp] theorem State.sendProbe_pending (s : State) (t : Trunk) : (s.sendProbe t).pending = s.pending := by simp [State.sendProbe]

@[simp] theorem State.joinResend_now (s : State) (t : Trunk) (n : Nat) : (s.joinResend t n).now = s.now := by simp [State.joinResend]
@[simp] theorem State.joinResend_clock (s : State) (t : Trunk) (n : Nat) : (s.joinResend t n).clock = s.clock := by simp [State.joinResend]
@[simp] theorem State.joinResend_buckets (s : State) (t : Trunk) (n : Nat) : (s.joinResend t n).buckets = s.buckets := by simp [State.joinResend]
@[simp] theorem State.joinResend_journal (s : State) (t : Trunk) (n : Nat) : (s.joinResend t n).journal = s.journal := by simp [State.joinResend]
@[simp] theorem State.joinResend_map (s : State) (t : Trunk) (n : Nat) : (s.joinResend t n).map = s.map := by simp [State.joinResend]
@[simp] theorem State.joinResend_body (s : State) (t : Trunk) (n : Nat) : (s.joinResend t n).body = s.body := by simp [State.joinResend]
@[simp] theorem State.joinResend_apply (s : State) (t : Trunk) (n : Nat) : (s.joinResend t n).apply = s.apply := by simp [State.joinResend]
@[simp] theorem State.joinResend_freeCount (s : State) (t : Trunk) (n : Nat) : (s.joinResend t n).freeCount = s.freeCount := by simp [State.joinResend]
@[simp] theorem State.joinResend_pending (s : State) (t : Trunk) (n : Nat) : (s.joinResend t n).pending = s.pending := by simp [State.joinResend]

@[simp] theorem State.identifyStalled_now (s : State) (t : Trunk) : (s.identifyStalled t).now = s.now := by simp [State.identifyStalled]
@[simp] theorem State.identifyStalled_clock (s : State) (t : Trunk) : (s.identifyStalled t).clock = s.clock := by simp [State.identifyStalled]
@[simp] theorem State.identifyStalled_buckets (s : State) (t : Trunk) : (s.identifyStalled t).buckets = s.buckets := by simp [State.identifyStalled]
@[simp] theorem State.identifyStalled_journal (s : State) (t : Trunk) : (s.identifyStalled t).journal = s.journal := by simp [State.identifyStalled]
@[simp] theorem State.identifyStalled_map (s : State) (t : Trunk) : (s.identifyStalled t).map = s.map := by simp [State.identifyStalled]
@[simp] theorem State.identifyStalled_body (s : State) (t : Trunk) : (s.identifyStalled t).body = s.body := by simp [State.identifyStalled]
@[simp] theorem State.identifyStalled_ports (s : State) (t : Trunk) : (s.identifyStalled t).ports = s.ports := by simp [State.identifyStalled]
@[simp] theorem State.identifyStalled_apply (s : State) (t : Trunk) : (s.identifyStalled t).apply = s.apply := by simp [State.identifyStalled]
@[simp] theorem State.identifyStalled_freeCount (s : State) (t : Trunk) : (s.identifyStalled t).freeCount = s.freeCount := by simp [State.identifyStalled]
@[simp] theorem State.identifyStalled_pending (s : State) (t : Trunk) : (s.identifyStalled t).pending = s.pending := by simp [State.identifyStalled]

@[simp] theorem State.otherArrival_now (s : State) (t : Trunk) : (s.otherArrival t).now = s.now := by simp [State.otherArrival]
@[simp] theorem State.otherArrival_clock (s : State) (t : Trunk) : (s.otherArrival t).clock = s.clock := by simp [State.otherArrival]
@[simp] theorem State.otherArrival_buckets (s : State) (t : Trunk) : (s.otherArrival t).buckets = s.buckets := by simp [State.otherArrival]
@[simp] theorem State.otherArrival_journal (s : State) (t : Trunk) : (s.otherArrival t).journal = s.journal := by simp [State.otherArrival]
@[simp] theorem State.otherArrival_map (s : State) (t : Trunk) : (s.otherArrival t).map = s.map := by simp [State.otherArrival]
@[simp] theorem State.otherArrival_body (s : State) (t : Trunk) : (s.otherArrival t).body = s.body := by simp [State.otherArrival]
@[simp] theorem State.otherArrival_apply (s : State) (t : Trunk) : (s.otherArrival t).apply = s.apply := by simp [State.otherArrival]
@[simp] theorem State.otherArrival_freeCount (s : State) (t : Trunk) : (s.otherArrival t).freeCount = s.freeCount := by simp [State.otherArrival]
@[simp] theorem State.otherArrival_pending (s : State) (t : Trunk) : (s.otherArrival t).pending = s.pending := by simp [State.otherArrival]

@[simp] theorem State.reported_now (s : State) (t : Trunk) (v : Bool) (m : Marks) : (s.reported t v m).now = s.now := by simp [State.reported]
@[simp] theorem State.reported_clock (s : State) (t : Trunk) (v : Bool) (m : Marks) : (s.reported t v m).clock = s.clock := by simp [State.reported]
@[simp] theorem State.reported_buckets (s : State) (t : Trunk) (v : Bool) (m : Marks) : (s.reported t v m).buckets = s.buckets := by simp [State.reported]
@[simp] theorem State.reported_journal (s : State) (t : Trunk) (v : Bool) (m : Marks) : (s.reported t v m).journal = s.journal := by simp [State.reported]
@[simp] theorem State.reported_map (s : State) (t : Trunk) (v : Bool) (m : Marks) : (s.reported t v m).map = s.map := by simp [State.reported]
@[simp] theorem State.reported_body (s : State) (t : Trunk) (v : Bool) (m : Marks) : (s.reported t v m).body = s.body := by simp [State.reported]
@[simp] theorem State.reported_apply (s : State) (t : Trunk) (v : Bool) (m : Marks) : (s.reported t v m).apply = s.apply := by simp [State.reported]
@[simp] theorem State.reported_freeCount (s : State) (t : Trunk) (v : Bool) (m : Marks) : (s.reported t v m).freeCount = s.freeCount := by simp [State.reported]
@[simp] theorem State.reported_pending (s : State) (t : Trunk) (v : Bool) (m : Marks) : (s.reported t v m).pending = s.pending := by simp [State.reported]

@[simp] theorem State.headMoves_now (s : State) (t : Trunk) (f : HeadFrame) : (s.headMoves t f).now = s.now := by unfold State.headMoves; (repeat' split) <;> simp
@[simp] theorem State.headMoves_clock (s : State) (t : Trunk) (f : HeadFrame) : (s.headMoves t f).clock = s.clock := by unfold State.headMoves; (repeat' split) <;> simp
@[simp] theorem State.headMoves_buckets (s : State) (t : Trunk) (f : HeadFrame) : (s.headMoves t f).buckets = s.buckets := by unfold State.headMoves; (repeat' split) <;> simp
@[simp] theorem State.headMoves_journal (s : State) (t : Trunk) (f : HeadFrame) : (s.headMoves t f).journal = s.journal := by unfold State.headMoves; (repeat' split) <;> simp
@[simp] theorem State.headMoves_map (s : State) (t : Trunk) (f : HeadFrame) : (s.headMoves t f).map = s.map := by unfold State.headMoves; (repeat' split) <;> simp
@[simp] theorem State.headMoves_body (s : State) (t : Trunk) (f : HeadFrame) : (s.headMoves t f).body = s.body := by unfold State.headMoves; (repeat' split) <;> simp
@[simp] theorem State.headMoves_apply (s : State) (t : Trunk) (f : HeadFrame) : (s.headMoves t f).apply = s.apply := by unfold State.headMoves; (repeat' split) <;> simp
@[simp] theorem State.headMoves_sli (s : State) (t : Trunk) (f : HeadFrame) : (s.headMoves t f).sli = s.sli := by unfold State.headMoves; (repeat' split) <;> simp
@[simp] theorem State.headMoves_freeCount (s : State) (t : Trunk) (f : HeadFrame) : (s.headMoves t f).freeCount = s.freeCount := by unfold State.headMoves; (repeat' split) <;> simp
@[simp] theorem State.headMoves_pending (s : State) (t : Trunk) (f : HeadFrame) : (s.headMoves t f).pending = s.pending := by unfold State.headMoves; (repeat' split) <;> simp

@[simp] theorem State.headLocks_now (s : State) (t : Trunk) (f : HeadFrame) : (s.headLocks t f).now = s.now := by unfold State.headLocks; dsimp only; split <;> simp
@[simp] theorem State.headLocks_clock (s : State) (t : Trunk) (f : HeadFrame) : (s.headLocks t f).clock = s.clock := by unfold State.headLocks; dsimp only; split <;> simp
@[simp] theorem State.headLocks_buckets (s : State) (t : Trunk) (f : HeadFrame) : (s.headLocks t f).buckets = s.buckets := by unfold State.headLocks; dsimp only; split <;> simp
@[simp] theorem State.headLocks_journal (s : State) (t : Trunk) (f : HeadFrame) : (s.headLocks t f).journal = s.journal := by unfold State.headLocks; dsimp only; split <;> simp
@[simp] theorem State.headLocks_map (s : State) (t : Trunk) (f : HeadFrame) : (s.headLocks t f).map = s.map := by unfold State.headLocks; dsimp only; split <;> simp
@[simp] theorem State.headLocks_body (s : State) (t : Trunk) (f : HeadFrame) : (s.headLocks t f).body = s.body := by unfold State.headLocks; dsimp only; split <;> simp
@[simp] theorem State.headLocks_apply (s : State) (t : Trunk) (f : HeadFrame) : (s.headLocks t f).apply = s.apply := by unfold State.headLocks; dsimp only; split <;> simp
@[simp] theorem State.headLocks_freeCount (s : State) (t : Trunk) (f : HeadFrame) : (s.headLocks t f).freeCount = s.freeCount := by unfold State.headLocks; dsimp only; split <;> simp
@[simp] theorem State.headLocks_pending (s : State) (t : Trunk) (f : HeadFrame) : (s.headLocks t f).pending = s.pending := by unfold State.headLocks; dsimp only; split <;> simp

@[simp] theorem State.peerHead_now (s : State) (t : Trunk) (f : HeadFrame) : (s.peerHead t f).now = s.now := by unfold State.peerHead; dsimp only; split <;> simp
@[simp] theorem State.peerHead_clock (s : State) (t : Trunk) (f : HeadFrame) : (s.peerHead t f).clock = s.clock := by unfold State.peerHead; dsimp only; split <;> simp
@[simp] theorem State.peerHead_buckets (s : State) (t : Trunk) (f : HeadFrame) : (s.peerHead t f).buckets = s.buckets := by unfold State.peerHead; dsimp only; split <;> simp
@[simp] theorem State.peerHead_pending (s : State) (t : Trunk) (f : HeadFrame) : (s.peerHead t f).pending = s.pending := by unfold State.peerHead; dsimp only; split <;> simp

@[simp] theorem State.fillMoves_now (s : State) (t : Trunk) (f : FillFrame) (b : Bool) : (s.fillMoves t f b).now = s.now := by unfold State.fillMoves; (repeat' split) <;> simp
@[simp] theorem State.fillMoves_clock (s : State) (t : Trunk) (f : FillFrame) (b : Bool) : (s.fillMoves t f b).clock = s.clock := by unfold State.fillMoves; (repeat' split) <;> simp
@[simp] theorem State.fillMoves_buckets (s : State) (t : Trunk) (f : FillFrame) (b : Bool) : (s.fillMoves t f b).buckets = s.buckets := by unfold State.fillMoves; (repeat' split) <;> simp
@[simp] theorem State.fillMoves_sli (s : State) (t : Trunk) (f : FillFrame) (b : Bool) : (s.fillMoves t f b).sli = s.sli := by unfold State.fillMoves; (repeat' split) <;> simp
@[simp] theorem State.fillMoves_pending (s : State) (t : Trunk) (f : FillFrame) (b : Bool) : (s.fillMoves t f b).pending = s.pending := by unfold State.fillMoves; (repeat' split) <;> simp

@[simp] theorem State.peerFill_now (s : State) (t : Trunk) (f : FillFrame) : (s.peerFill t f).now = s.now := by unfold State.peerFill; dsimp only; split <;> simp
@[simp] theorem State.peerFill_clock (s : State) (t : Trunk) (f : FillFrame) : (s.peerFill t f).clock = s.clock := by unfold State.peerFill; dsimp only; split <;> simp
@[simp] theorem State.peerFill_buckets (s : State) (t : Trunk) (f : FillFrame) : (s.peerFill t f).buckets = s.buckets := by unfold State.peerFill; dsimp only; split <;> simp
@[simp] theorem State.peerFill_pending (s : State) (t : Trunk) (f : FillFrame) : (s.peerFill t f).pending = s.pending := by unfold State.peerFill; dsimp only; split <;> simp

@[simp] theorem State.probeMoves_now (s : State) (t : Trunk) : (s.probeMoves t).now = s.now := by unfold State.probeMoves; split <;> simp
@[simp] theorem State.probeMoves_clock (s : State) (t : Trunk) : (s.probeMoves t).clock = s.clock := by unfold State.probeMoves; split <;> simp
@[simp] theorem State.probeMoves_buckets (s : State) (t : Trunk) : (s.probeMoves t).buckets = s.buckets := by unfold State.probeMoves; split <;> simp
@[simp] theorem State.probeMoves_journal (s : State) (t : Trunk) : (s.probeMoves t).journal = s.journal := by unfold State.probeMoves; split <;> simp
@[simp] theorem State.probeMoves_map (s : State) (t : Trunk) : (s.probeMoves t).map = s.map := by unfold State.probeMoves; split <;> simp
@[simp] theorem State.probeMoves_body (s : State) (t : Trunk) : (s.probeMoves t).body = s.body := by unfold State.probeMoves; split <;> simp
@[simp] theorem State.probeMoves_sups (s : State) (t : Trunk) : (s.probeMoves t).sups = s.sups := by unfold State.probeMoves; split <;> simp
@[simp] theorem State.probeMoves_apply (s : State) (t : Trunk) : (s.probeMoves t).apply = s.apply := by unfold State.probeMoves; split <;> simp
@[simp] theorem State.probeMoves_sli (s : State) (t : Trunk) : (s.probeMoves t).sli = s.sli := by unfold State.probeMoves; split <;> simp
@[simp] theorem State.probeMoves_freeCount (s : State) (t : Trunk) : (s.probeMoves t).freeCount = s.freeCount := by unfold State.probeMoves; split <;> simp
@[simp] theorem State.probeMoves_pending (s : State) (t : Trunk) : (s.probeMoves t).pending = s.pending := by unfold State.probeMoves; split <;> simp

@[simp] theorem State.peerProbe_now (s : State) (t : Trunk) (f : ProbeFrame) : (s.peerProbe t f).now = s.now := by unfold State.peerProbe; dsimp only; split <;> simp
@[simp] theorem State.peerProbe_clock (s : State) (t : Trunk) (f : ProbeFrame) : (s.peerProbe t f).clock = s.clock := by unfold State.peerProbe; dsimp only; split <;> simp
@[simp] theorem State.peerProbe_buckets (s : State) (t : Trunk) (f : ProbeFrame) : (s.peerProbe t f).buckets = s.buckets := by unfold State.peerProbe; dsimp only; split <;> simp
@[simp] theorem State.peerProbe_pending (s : State) (t : Trunk) (f : ProbeFrame) : (s.peerProbe t f).pending = s.pending := by unfold State.peerProbe; dsimp only; split <;> simp

@[simp] theorem State.testVerdict_now (s : State) (t : Trunk) (g : Bool) : (s.testVerdict t g).now = s.now := rfl
@[simp] theorem State.testVerdict_clock (s : State) (t : Trunk) (g : Bool) : (s.testVerdict t g).clock = s.clock := rfl
@[simp] theorem State.testVerdict_buckets (s : State) (t : Trunk) (g : Bool) : (s.testVerdict t g).buckets = s.buckets := rfl
@[simp] theorem State.testVerdict_journal (s : State) (t : Trunk) (g : Bool) : (s.testVerdict t g).journal = s.journal := rfl
@[simp] theorem State.testVerdict_map (s : State) (t : Trunk) (g : Bool) : (s.testVerdict t g).map = s.map := rfl
@[simp] theorem State.testVerdict_body (s : State) (t : Trunk) (g : Bool) : (s.testVerdict t g).body = s.body := rfl
@[simp] theorem State.testVerdict_sups (s : State) (t : Trunk) (g : Bool) : (s.testVerdict t g).sups = s.sups := rfl
@[simp] theorem State.testVerdict_apply (s : State) (t : Trunk) (g : Bool) : (s.testVerdict t g).apply = s.apply := rfl
@[simp] theorem State.testVerdict_sli (s : State) (t : Trunk) (g : Bool) : (s.testVerdict t g).sli = s.sli := rfl
@[simp] theorem State.testVerdict_freeCount (s : State) (t : Trunk) (g : Bool) : (s.testVerdict t g).freeCount = s.freeCount := rfl
@[simp] theorem State.testVerdict_pending (s : State) (t : Trunk) (g : Bool) : (s.testVerdict t g).pending = s.pending := rfl

@[simp] theorem State.testArrival_now (s : State) (t : Trunk) (g : Bool) : (s.testArrival t g).now = s.now := rfl
@[simp] theorem State.testArrival_clock (s : State) (t : Trunk) (g : Bool) : (s.testArrival t g).clock = s.clock := rfl
@[simp] theorem State.testArrival_buckets (s : State) (t : Trunk) (g : Bool) : (s.testArrival t g).buckets = s.buckets := rfl
@[simp] theorem State.testArrival_journal (s : State) (t : Trunk) (g : Bool) : (s.testArrival t g).journal = s.journal := rfl
@[simp] theorem State.testArrival_map (s : State) (t : Trunk) (g : Bool) : (s.testArrival t g).map = s.map := rfl
@[simp] theorem State.testArrival_body (s : State) (t : Trunk) (g : Bool) : (s.testArrival t g).body = s.body := rfl
@[simp] theorem State.testArrival_sups (s : State) (t : Trunk) (g : Bool) : (s.testArrival t g).sups = s.sups := rfl
@[simp] theorem State.testArrival_apply (s : State) (t : Trunk) (g : Bool) : (s.testArrival t g).apply = s.apply := rfl
@[simp] theorem State.testArrival_sli (s : State) (t : Trunk) (g : Bool) : (s.testArrival t g).sli = s.sli := rfl
@[simp] theorem State.testArrival_freeCount (s : State) (t : Trunk) (g : Bool) : (s.testArrival t g).freeCount = s.freeCount := rfl
@[simp] theorem State.testArrival_pending (s : State) (t : Trunk) (g : Bool) : (s.testArrival t g).pending = s.pending := rfl

@[simp] theorem State.plainArrival_now (s : State) (t : Trunk) : (s.plainArrival t).now = s.now := by simp [State.plainArrival]
@[simp] theorem State.plainArrival_clock (s : State) (t : Trunk) : (s.plainArrival t).clock = s.clock := by simp [State.plainArrival]
@[simp] theorem State.plainArrival_buckets (s : State) (t : Trunk) : (s.plainArrival t).buckets = s.buckets := by simp [State.plainArrival]
@[simp] theorem State.plainArrival_journal (s : State) (t : Trunk) : (s.plainArrival t).journal = s.journal := by simp [State.plainArrival]
@[simp] theorem State.plainArrival_map (s : State) (t : Trunk) : (s.plainArrival t).map = s.map := by simp [State.plainArrival]
@[simp] theorem State.plainArrival_body (s : State) (t : Trunk) : (s.plainArrival t).body = s.body := by simp [State.plainArrival]
@[simp] theorem State.plainArrival_apply (s : State) (t : Trunk) : (s.plainArrival t).apply = s.apply := by simp [State.plainArrival]
@[simp] theorem State.plainArrival_freeCount (s : State) (t : Trunk) : (s.plainArrival t).freeCount = s.freeCount := by simp [State.plainArrival]
@[simp] theorem State.plainArrival_pending (s : State) (t : Trunk) : (s.plainArrival t).pending = s.pending := by simp [State.plainArrival]

@[simp] theorem State.holdFrame_now (s : State) (t : Trunk) (n : Nat) (b : List Byte) : (s.holdFrame t n b).now = s.now := rfl
@[simp] theorem State.holdFrame_clock (s : State) (t : Trunk) (n : Nat) (b : List Byte) : (s.holdFrame t n b).clock = s.clock := rfl
@[simp] theorem State.holdFrame_buckets (s : State) (t : Trunk) (n : Nat) (b : List Byte) : (s.holdFrame t n b).buckets = s.buckets := rfl
@[simp] theorem State.holdFrame_journal (s : State) (t : Trunk) (n : Nat) (b : List Byte) : (s.holdFrame t n b).journal = s.journal := rfl
@[simp] theorem State.holdFrame_map (s : State) (t : Trunk) (n : Nat) (b : List Byte) : (s.holdFrame t n b).map = s.map := rfl
@[simp] theorem State.holdFrame_body (s : State) (t : Trunk) (n : Nat) (b : List Byte) : (s.holdFrame t n b).body = s.body := rfl
@[simp] theorem State.holdFrame_sups (s : State) (t : Trunk) (n : Nat) (b : List Byte) : (s.holdFrame t n b).sups = s.sups := rfl
@[simp] theorem State.holdFrame_apply (s : State) (t : Trunk) (n : Nat) (b : List Byte) : (s.holdFrame t n b).apply = s.apply := rfl
@[simp] theorem State.holdFrame_sli (s : State) (t : Trunk) (n : Nat) (b : List Byte) : (s.holdFrame t n b).sli = s.sli := rfl
@[simp] theorem State.holdFrame_freeCount (s : State) (t : Trunk) (n : Nat) (b : List Byte) : (s.holdFrame t n b).freeCount = s.freeCount := rfl
@[simp] theorem State.holdFrame_pending (s : State) (t : Trunk) (n : Nat) (b : List Byte) : (s.holdFrame t n b).pending = s.pending := rfl

@[simp] theorem State.finishHead_now (s : State) (k : Nat) (e : InEntry) : (s.finishHead k e).now = s.now := by simp [State.finishHead]
@[simp] theorem State.finishHead_clock (s : State) (k : Nat) (e : InEntry) : (s.finishHead k e).clock = s.clock := by simp [State.finishHead]
@[simp] theorem State.finishHead_buckets (s : State) (k : Nat) (e : InEntry) : (s.finishHead k e).buckets = s.buckets := by simp [State.finishHead]
@[simp] theorem State.finishHead_journal (s : State) (k : Nat) (e : InEntry) : (s.finishHead k e).journal = s.journal := by simp [State.finishHead]
@[simp] theorem State.finishHead_ports (s : State) (k : Nat) (e : InEntry) : (s.finishHead k e).ports = s.ports := by simp [State.finishHead]
@[simp] theorem State.finishHead_sups (s : State) (k : Nat) (e : InEntry) : (s.finishHead k e).sups = s.sups := by simp [State.finishHead]
@[simp] theorem State.finishHead_sli (s : State) (k : Nat) (e : InEntry) : (s.finishHead k e).sli = s.sli := by simp [State.finishHead]
@[simp] theorem State.finishHead_pending (s : State) (k : Nat) (e : InEntry) : (s.finishHead k e).pending = s.pending := by simp [State.finishHead]

@[simp] theorem State.touch_now (s : State) (e : InEntry) : (s.touch e).now = s.now := by unfold State.touch; split <;> simp
@[simp] theorem State.touch_clock (s : State) (e : InEntry) : (s.touch e).clock = s.clock := by unfold State.touch; split <;> simp
@[simp] theorem State.touch_buckets (s : State) (e : InEntry) : (s.touch e).buckets = s.buckets := by unfold State.touch; split <;> simp
@[simp] theorem State.touch_journal (s : State) (e : InEntry) : (s.touch e).journal = s.journal := by unfold State.touch; split <;> simp
@[simp] theorem State.touch_body (s : State) (e : InEntry) : (s.touch e).body = s.body := by unfold State.touch; split <;> simp
@[simp] theorem State.touch_ports (s : State) (e : InEntry) : (s.touch e).ports = s.ports := by unfold State.touch; split <;> simp
@[simp] theorem State.touch_sups (s : State) (e : InEntry) : (s.touch e).sups = s.sups := by unfold State.touch; split <;> simp
@[simp] theorem State.touch_apply (s : State) (e : InEntry) : (s.touch e).apply = s.apply := by unfold State.touch; split <;> simp
@[simp] theorem State.touch_sli (s : State) (e : InEntry) : (s.touch e).sli = s.sli := by unfold State.touch; split <;> simp
@[simp] theorem State.touch_freeCount (s : State) (e : InEntry) : (s.touch e).freeCount = s.freeCount := by unfold State.touch; split <;> simp
@[simp] theorem State.touch_pending (s : State) (e : InEntry) : (s.touch e).pending = s.pending := by unfold State.touch; split <;> simp

@[simp] theorem State.adoptStamp_now (s : State) (e : InEntry) : (s.adoptStamp e).now = s.now := by unfold State.adoptStamp; split <;> simp
@[simp] theorem State.adoptStamp_clock (s : State) (e : InEntry) : (s.adoptStamp e).clock = s.clock := by unfold State.adoptStamp; split <;> simp
@[simp] theorem State.adoptStamp_buckets (s : State) (e : InEntry) : (s.adoptStamp e).buckets = s.buckets := by unfold State.adoptStamp; split <;> simp
@[simp] theorem State.adoptStamp_journal (s : State) (e : InEntry) : (s.adoptStamp e).journal = s.journal := by unfold State.adoptStamp; split <;> simp
@[simp] theorem State.adoptStamp_body (s : State) (e : InEntry) : (s.adoptStamp e).body = s.body := by unfold State.adoptStamp; split <;> simp
@[simp] theorem State.adoptStamp_ports (s : State) (e : InEntry) : (s.adoptStamp e).ports = s.ports := by unfold State.adoptStamp; split <;> simp
@[simp] theorem State.adoptStamp_sups (s : State) (e : InEntry) : (s.adoptStamp e).sups = s.sups := by unfold State.adoptStamp; split <;> simp
@[simp] theorem State.adoptStamp_apply (s : State) (e : InEntry) : (s.adoptStamp e).apply = s.apply := by unfold State.adoptStamp; split <;> simp
@[simp] theorem State.adoptStamp_sli (s : State) (e : InEntry) : (s.adoptStamp e).sli = s.sli := by unfold State.adoptStamp; split <;> simp
@[simp] theorem State.adoptStamp_freeCount (s : State) (e : InEntry) : (s.adoptStamp e).freeCount = s.freeCount := by unfold State.adoptStamp; split <;> simp
@[simp] theorem State.adoptStamp_pending (s : State) (e : InEntry) : (s.adoptStamp e).pending = s.pending := by unfold State.adoptStamp; split <;> simp

@[simp] theorem State.sendApply_now (s : State) (t : Trunk) (b : Nat) (e : InEntry) (u : Bool) : (s.sendApply t b e u).now = s.now := by simp [State.sendApply]
@[simp] theorem State.sendApply_clock (s : State) (t : Trunk) (b : Nat) (e : InEntry) (u : Bool) : (s.sendApply t b e u).clock = s.clock := by simp [State.sendApply]
@[simp] theorem State.sendApply_buckets (s : State) (t : Trunk) (b : Nat) (e : InEntry) (u : Bool) : (s.sendApply t b e u).buckets = s.buckets := by simp [State.sendApply]
@[simp] theorem State.sendApply_journal (s : State) (t : Trunk) (b : Nat) (e : InEntry) (u : Bool) : (s.sendApply t b e u).journal = s.journal := by simp [State.sendApply]
@[simp] theorem State.sendApply_body (s : State) (t : Trunk) (b : Nat) (e : InEntry) (u : Bool) : (s.sendApply t b e u).body = s.body := by simp [State.sendApply]
@[simp] theorem State.sendApply_ports (s : State) (t : Trunk) (b : Nat) (e : InEntry) (u : Bool) : (s.sendApply t b e u).ports = s.ports := by simp [State.sendApply]
@[simp] theorem State.sendApply_sups (s : State) (t : Trunk) (b : Nat) (e : InEntry) (u : Bool) : (s.sendApply t b e u).sups = s.sups := by simp [State.sendApply]
@[simp] theorem State.sendApply_freeCount (s : State) (t : Trunk) (b : Nat) (e : InEntry) (u : Bool) : (s.sendApply t b e u).freeCount = s.freeCount := by simp [State.sendApply]
@[simp] theorem State.sendApply_pending (s : State) (t : Trunk) (b : Nat) (e : InEntry) (u : Bool) : (s.sendApply t b e u).pending = s.pending := by simp [State.sendApply]

@[simp] theorem State.discardStale_now (s : State) (k : Nat) (e : InEntry) : (s.discardStale k e).now = s.now := by simp [State.discardStale]
@[simp] theorem State.discardStale_clock (s : State) (k : Nat) (e : InEntry) : (s.discardStale k e).clock = s.clock := by simp [State.discardStale]
@[simp] theorem State.discardStale_buckets (s : State) (k : Nat) (e : InEntry) : (s.discardStale k e).buckets = s.buckets := by simp [State.discardStale]
@[simp] theorem State.discardStale_journal (s : State) (k : Nat) (e : InEntry) : (s.discardStale k e).journal = s.journal := by simp [State.discardStale]
@[simp] theorem State.discardStale_ports (s : State) (k : Nat) (e : InEntry) : (s.discardStale k e).ports = s.ports := by simp [State.discardStale]
@[simp] theorem State.discardStale_sups (s : State) (k : Nat) (e : InEntry) : (s.discardStale k e).sups = s.sups := by simp [State.discardStale]
@[simp] theorem State.discardStale_pending (s : State) (k : Nat) (e : InEntry) : (s.discardStale k e).pending = s.pending := by simp [State.discardStale]

@[simp] theorem State.forwardEntry_now (s : State) (t : Trunk) (b : Nat) (e : InEntry) : (s.forwardEntry t b e).now = s.now := by unfold State.forwardEntry; split <;> simp
@[simp] theorem State.forwardEntry_clock (s : State) (t : Trunk) (b : Nat) (e : InEntry) : (s.forwardEntry t b e).clock = s.clock := by unfold State.forwardEntry; split <;> simp
@[simp] theorem State.forwardEntry_buckets (s : State) (t : Trunk) (b : Nat) (e : InEntry) : (s.forwardEntry t b e).buckets = s.buckets := by unfold State.forwardEntry; split <;> simp
@[simp] theorem State.forwardEntry_journal (s : State) (t : Trunk) (b : Nat) (e : InEntry) : (s.forwardEntry t b e).journal = s.journal := by unfold State.forwardEntry; split <;> simp
@[simp] theorem State.forwardEntry_ports (s : State) (t : Trunk) (b : Nat) (e : InEntry) : (s.forwardEntry t b e).ports = s.ports := by unfold State.forwardEntry; split <;> simp
@[simp] theorem State.forwardEntry_sups (s : State) (t : Trunk) (b : Nat) (e : InEntry) : (s.forwardEntry t b e).sups = s.sups := by unfold State.forwardEntry; split <;> simp
@[simp] theorem State.forwardEntry_pending (s : State) (t : Trunk) (b : Nat) (e : InEntry) : (s.forwardEntry t b e).pending = s.pending := by unfold State.forwardEntry; split <;> simp

@[simp] theorem State.forward_now (s : State) (t : Trunk) (b : Nat) : (s.forward t b).now = s.now := by unfold State.forward; dsimp only; (repeat' split) <;> simp
@[simp] theorem State.forward_clock (s : State) (t : Trunk) (b : Nat) : (s.forward t b).clock = s.clock := by unfold State.forward; dsimp only; (repeat' split) <;> simp
@[simp] theorem State.forward_buckets (s : State) (t : Trunk) (b : Nat) : (s.forward t b).buckets = s.buckets := by unfold State.forward; dsimp only; (repeat' split) <;> simp
@[simp] theorem State.forward_journal (s : State) (t : Trunk) (b : Nat) : (s.forward t b).journal = s.journal := by unfold State.forward; dsimp only; (repeat' split) <;> simp
@[simp] theorem State.forward_ports (s : State) (t : Trunk) (b : Nat) : (s.forward t b).ports = s.ports := by unfold State.forward; dsimp only; (repeat' split) <;> simp
@[simp] theorem State.forward_sups (s : State) (t : Trunk) (b : Nat) : (s.forward t b).sups = s.sups := by unfold State.forward; dsimp only; (repeat' split) <;> simp
@[simp] theorem State.forward_pending (s : State) (t : Trunk) (b : Nat) : (s.forward t b).pending = s.pending := by unfold State.forward; dsimp only; (repeat' split) <;> simp

@[simp] theorem State.resume_now (s : State) (k : Nat) : (s.resume k).now = s.now := by unfold State.resume; dsimp only; split <;> simp
@[simp] theorem State.resume_clock (s : State) (k : Nat) : (s.resume k).clock = s.clock := by unfold State.resume; dsimp only; split <;> simp
@[simp] theorem State.resume_buckets (s : State) (k : Nat) : (s.resume k).buckets = s.buckets := by unfold State.resume; dsimp only; split <;> simp
@[simp] theorem State.resume_journal (s : State) (k : Nat) : (s.resume k).journal = s.journal := by unfold State.resume; dsimp only; split <;> simp
@[simp] theorem State.resume_map (s : State) (k : Nat) : (s.resume k).map = s.map := by unfold State.resume; dsimp only; split <;> simp
@[simp] theorem State.resume_body (s : State) (k : Nat) : (s.resume k).body = s.body := by unfold State.resume; dsimp only; split <;> simp
@[simp] theorem State.resume_ports (s : State) (k : Nat) : (s.resume k).ports = s.ports := by unfold State.resume; dsimp only; split <;> simp
@[simp] theorem State.resume_sups (s : State) (k : Nat) : (s.resume k).sups = s.sups := by unfold State.resume; dsimp only; split <;> simp
@[simp] theorem State.resume_sli (s : State) (k : Nat) : (s.resume k).sli = s.sli := by unfold State.resume; dsimp only; split <;> simp
@[simp] theorem State.resume_pending (s : State) (k : Nat) : (s.resume k).pending = s.pending := by unfold State.resume; dsimp only; split <;> simp

@[simp] theorem State.headAnswer_now (s : State) (k : Nat) (ok : Bool) : (s.headAnswer k ok).now = s.now := by unfold State.headAnswer; dsimp only; split <;> simp
@[simp] theorem State.headAnswer_clock (s : State) (k : Nat) (ok : Bool) : (s.headAnswer k ok).clock = s.clock := by unfold State.headAnswer; dsimp only; split <;> simp
@[simp] theorem State.headAnswer_buckets (s : State) (k : Nat) (ok : Bool) : (s.headAnswer k ok).buckets = s.buckets := by unfold State.headAnswer; dsimp only; split <;> simp
@[simp] theorem State.headAnswer_journal (s : State) (k : Nat) (ok : Bool) : (s.headAnswer k ok).journal = s.journal := by unfold State.headAnswer; dsimp only; split <;> simp
@[simp] theorem State.headAnswer_ports (s : State) (k : Nat) (ok : Bool) : (s.headAnswer k ok).ports = s.ports := by unfold State.headAnswer; dsimp only; split <;> simp
@[simp] theorem State.headAnswer_sups (s : State) (k : Nat) (ok : Bool) : (s.headAnswer k ok).sups = s.sups := by unfold State.headAnswer; dsimp only; split <;> simp
@[simp] theorem State.headAnswer_pending (s : State) (k : Nat) (ok : Bool) : (s.headAnswer k ok).pending = s.pending := by unfold State.headAnswer; dsimp only; split <;> simp

@[simp] theorem State.applyAnswer_now (s : State) (tag : Nat) (ok : Bool) : (s.applyAnswer tag ok).now = s.now := by unfold State.applyAnswer; dsimp only; (repeat' split) <;> simp
@[simp] theorem State.applyAnswer_clock (s : State) (tag : Nat) (ok : Bool) : (s.applyAnswer tag ok).clock = s.clock := by unfold State.applyAnswer; dsimp only; (repeat' split) <;> simp
@[simp] theorem State.applyAnswer_buckets (s : State) (tag : Nat) (ok : Bool) : (s.applyAnswer tag ok).buckets = s.buckets := by unfold State.applyAnswer; dsimp only; (repeat' split) <;> simp
@[simp] theorem State.applyAnswer_journal (s : State) (tag : Nat) (ok : Bool) : (s.applyAnswer tag ok).journal = s.journal := by unfold State.applyAnswer; dsimp only; (repeat' split) <;> simp
@[simp] theorem State.applyAnswer_ports (s : State) (tag : Nat) (ok : Bool) : (s.applyAnswer tag ok).ports = s.ports := by unfold State.applyAnswer; dsimp only; (repeat' split) <;> simp
@[simp] theorem State.applyAnswer_sups (s : State) (tag : Nat) (ok : Bool) : (s.applyAnswer tag ok).sups = s.sups := by unfold State.applyAnswer; dsimp only; (repeat' split) <;> simp
@[simp] theorem State.applyAnswer_pending (s : State) (tag : Nat) (ok : Bool) : (s.applyAnswer tag ok).pending = s.pending := by unfold State.applyAnswer; dsimp only; (repeat' split) <;> simp

@[simp] theorem State.dropTag_now (s : State) (tag : Nat) : (s.dropTag tag).now = s.now := rfl
@[simp] theorem State.dropTag_clock (s : State) (tag : Nat) : (s.dropTag tag).clock = s.clock := rfl
@[simp] theorem State.dropTag_buckets (s : State) (tag : Nat) : (s.dropTag tag).buckets = s.buckets := rfl
@[simp] theorem State.dropTag_journal (s : State) (tag : Nat) : (s.dropTag tag).journal = s.journal := rfl
@[simp] theorem State.dropTag_map (s : State) (tag : Nat) : (s.dropTag tag).map = s.map := rfl
@[simp] theorem State.dropTag_body (s : State) (tag : Nat) : (s.dropTag tag).body = s.body := rfl
@[simp] theorem State.dropTag_ports (s : State) (tag : Nat) : (s.dropTag tag).ports = s.ports := rfl
@[simp] theorem State.dropTag_sups (s : State) (tag : Nat) : (s.dropTag tag).sups = s.sups := rfl
@[simp] theorem State.dropTag_apply (s : State) (tag : Nat) : (s.dropTag tag).apply = s.apply := rfl
@[simp] theorem State.dropTag_freeCount (s : State) (tag : Nat) : (s.dropTag tag).freeCount = s.freeCount := rfl
@[simp] theorem State.dropTag_pending (s : State) (tag : Nat) : (s.dropTag tag).pending = s.pending := rfl

@[simp] theorem State.ownerAnswer_now (s : State) (k : PartKind) (tag : Nat) (ok : Bool) : (s.ownerAnswer k tag ok).now = s.now := by unfold State.ownerAnswer; split <;> simp
@[simp] theorem State.ownerAnswer_clock (s : State) (k : PartKind) (tag : Nat) (ok : Bool) : (s.ownerAnswer k tag ok).clock = s.clock := by unfold State.ownerAnswer; split <;> simp
@[simp] theorem State.ownerAnswer_ports (s : State) (k : PartKind) (tag : Nat) (ok : Bool) : (s.ownerAnswer k tag ok).ports = s.ports := by unfold State.ownerAnswer; split <;> simp
@[simp] theorem State.ownerAnswer_sups (s : State) (k : PartKind) (tag : Nat) (ok : Bool) : (s.ownerAnswer k tag ok).sups = s.sups := by unfold State.ownerAnswer; split <;> simp
@[simp] theorem State.ownerAnswer_pending (s : State) (k : PartKind) (tag : Nat) (ok : Bool) : (s.ownerAnswer k tag ok).pending = s.pending := by unfold State.ownerAnswer; split <;> simp

@[simp] theorem State.hostReply_now (s : State) (k : Byte) (r : BitVec 16) (w : Wire) : (s.hostReply k r w).now = s.now := by unfold State.hostReply; dsimp only; (repeat' split) <;> simp
@[simp] theorem State.hostReply_clock (s : State) (k : Byte) (r : BitVec 16) (w : Wire) : (s.hostReply k r w).clock = s.clock := by unfold State.hostReply; dsimp only; (repeat' split) <;> simp
@[simp] theorem State.hostReply_ports (s : State) (k : Byte) (r : BitVec 16) (w : Wire) : (s.hostReply k r w).ports = s.ports := by unfold State.hostReply; dsimp only; (repeat' split) <;> simp
@[simp] theorem State.hostReply_sups (s : State) (k : Byte) (r : BitVec 16) (w : Wire) : (s.hostReply k r w).sups = s.sups := by unfold State.hostReply; dsimp only; (repeat' split) <;> simp
@[simp] theorem State.hostReply_pending (s : State) (k : Byte) (r : BitVec 16) (w : Wire) : (s.hostReply k r w).pending = s.pending := by unfold State.hostReply; dsimp only; (repeat' split) <;> simp

end Sys2Proof.Machine
end

