-- ==== Sys2Proof/Laws/Capacity.lean ====
section
/-! SUPPORT. Every operation keeps the capacities. -/

set_option Elab.async false

namespace Sys2Proof.Machine

/-! ## The updates of the state -/

theorem Capacities.setPort {s : State} (h : Capacities s) (t : Trunk) (p : Port) (hp : p.store.length ≤ 32768) :
    Capacities (s.setPort t p) where
  journal := h.journal
  map := h.map
  body := h.body
  apply := h.apply
  store u := by
    by_cases hu : u = t
    · subst hu; simpa using hp
    · rw [State.port_setPort_ne s p hu]; exact h.store u
  reports := h.reports

/-- A port whose store is no longer than it was. -/
theorem Capacities.keepPort {s : State} (h : Capacities s) (t : Trunk) (p : Port)
    (hp : p.store.length ≤ (s.port t).store.length) : Capacities (s.setPort t p) :=
  h.setPort t p (Nat.le_trans hp (h.store t))

theorem Capacities.setSup {s : State} (h : Capacities s) (t : Trunk) (x : Supervisor) : Capacities (s.setSup t x) :=
  ⟨h.journal, h.map, h.body, h.apply, h.store, h.reports⟩

theorem Capacities.setSli {s : State} (h : Capacities s) (x : Sli) (hx : x.reports.length ≤ 256) :
    Capacities (s.setSli x) := ⟨h.journal, h.map, h.body, h.apply, h.store, hx⟩

theorem Capacities.setClock {s : State} (h : Capacities s) (x : StampClock) : Capacities (s.setClock x) :=
  ⟨h.journal, h.map, h.body, h.apply, h.store, h.reports⟩

theorem Capacities.setBuckets {s : State} (h : Capacities s) (x : Table Bucket) : Capacities (s.setBuckets x) :=
  ⟨h.journal, h.map, h.body, h.apply, h.store, h.reports⟩

theorem Capacities.setJournal {s : State} (h : Capacities s) (x : Journal) (hx : x.entries.length ≤ 65536) :
    Capacities (s.setJournal x) := ⟨hx, h.map, h.body, h.apply, h.store, h.reports⟩

theorem Capacities.setMap {s : State} (h : Capacities s) (x : List ObjRec) (hx : x.length ≤ 65536) :
    Capacities (s.setMap x) := ⟨h.journal, hx, h.body, h.apply, h.store, h.reports⟩

theorem Capacities.setBody {s : State} (h : Capacities s) (x : BodyStore) (hx : BodyCap x) : Capacities (s.setBody x) :=
  ⟨h.journal, h.map, hx, h.apply, h.store, h.reports⟩

theorem Capacities.setApply {s : State} (h : Capacities s) (x : ApplyUnit) (hx : ApplyCap x) : Capacities (s.setApply x) :=
  ⟨h.journal, h.map, h.body, hx, h.store, h.reports⟩

theorem Capacities.advanceTo {s : State} (h : Capacities s) (m : Nat) : Capacities (s.advanceTo m) :=
  ⟨h.journal, h.map, h.body, h.apply, h.store, h.reports⟩

theorem Capacities.setStats {s : State} (h : Capacities s) (x : PartStats) : Capacities (s.setStats x) :=
  ⟨h.journal, h.map, h.body, h.apply, h.store, h.reports⟩

theorem Capacities.setEntries {s : State} (h : Capacities s) (es : List JEntry) (hx : es.length ≤ 65536) :
    Capacities (s.setEntries es) := h.setJournal _ hx

theorem Capacities.putEntry {s : State} (h : Capacities s) (e : JEntry) : Capacities (s.putEntry e) :=
  h.setJournal _ (by simpa using h.journal)

theorem Capacities.setBucket {s : State} (h : Capacities s) (b : Nat) (r : Bucket) : Capacities (s.setBucket b r) :=
  h.setBuckets _

/-! ## Reports -/

theorem Sli.report_length (x : Sli) (r : Report) (h : x.reports.length ≤ 256) : (x.report r).reports.length ≤ 256 := by
  unfold Sli.report
  split
  · rename_i hl
    simp only [Config.reportLimit] at hl
    simp only [List.length_append, List.length_singleton]
    omega
  · exact h

theorem Sli.reportIf_length (x : Sli) (c : Bool) (r : Report) (h : x.reports.length ≤ 256) :
    (x.reportIf c r).reports.length ≤ 256 := by
  unfold Sli.reportIf
  split
  · exact Sli.report_length x r h
  · exact h

theorem Sli.latch_length (x : Sli) (l : PartLatch) (h : x.reports.length ≤ 256) : (x.latch l).reports.length ≤ 256 := by
  unfold Sli.latch
  split
  · exact h
  · exact Sli.reportIf_length _ _ _ h

theorem Sli.latchTrunk_length (x : Sli) (t : Trunk) (l : TrunkLatch) (ok : Bool) (h : x.reports.length ≤ 256) :
    (x.latchTrunk t l ok).reports.length ≤ 256 := by
  unfold Sli.latchTrunk
  split
  · exact h
  · exact Sli.reportIf_length _ _ _ h

theorem Sli.linkFault_length (x : Sli) (e : LinkErrorType) (h : x.reports.length ≤ 256) :
    (x.linkFault e).reports.length ≤ 256 := Sli.reportIf_length _ _ _ h

theorem Capacities.latch {s : State} (h : Capacities s) (l : PartLatch) : Capacities (s.latch l) :=
  h.setSli _ (Sli.latch_length _ _ h.reports)

theorem Capacities.latchTrunk {s : State} (h : Capacities s) (t : Trunk) (l : TrunkLatch) :
    Capacities (s.latchTrunk t l) := h.setSli _ (Sli.latchTrunk_length _ _ _ _ h.reports)

theorem Capacities.latchUnidentified {s : State} (h : Capacities s) (t : Trunk) : Capacities (s.latchUnidentified t) :=
  h.setSli _ (Sli.latchTrunk_length _ _ _ _ h.reports)

theorem Capacities.countEvent {s : State} (h : Capacities s) (t : Trunk) (c : CounterName) :
    Capacities (s.countEvent t c) := by
  unfold State.countEvent
  dsimp only
  split
  · exact h.setSup _ _
  · exact h.setSli _ (Sli.reportIf_length _ _ _ (Sli.latchTrunk_length _ _ _ _ h.reports))

theorem Capacities.countEvents {s : State} (h : Capacities s) (t : Trunk) (c : CounterName) (n : Nat) :
    Capacities (s.countEvents t c n) := by
  induction n generalizing s with
  | zero => exact h
  | succ n ih => exact ih (h.countEvent t c)

/-! ## Stamp Clock and Object Map -/

theorem Capacities.borrowed {s : State} (h : Capacities s) : Capacities s.borrowed := (h.setStats _).latch _

theorem Capacities.skewClamped {s : State} (h : Capacities s) : Capacities s.skewClamped := (h.setStats _).latch _

theorem Capacities.issue {s s1 : State} (h : Capacities s) {site : Nat} {x : Stamp} (hi : s.issue site = some (x, s1)) :
    Capacities s1 := by
  unfold State.issue at hi
  split at hi
  · cases hi
  · cases hi
    split
    · exact (h.setClock _).borrowed
    · exact h.setClock _

theorem Capacities.merge {s : State} (h : Capacities s) (x : Stamp) : Capacities (s.merge x) := by
  unfold State.merge
  dsimp only
  have h1 : ∀ b : Bool, Capacities (if b = true then s.skewClamped else s) := by
    intro b; cases b
    · exact h
    · exact h.skewClamped
  split
  · exact ((h1 _).setClock _).borrowed
  · exact (h1 _).setClock _

theorem touchObj_length (m : List ObjRec) (b : Nat) (d : Digest) (g : ObjRec → ObjRec) :
    (touchObj m b d g).length = m.length := by
  unfold touchObj
  rw [List.length_append, List.length_map]
  have h := List.length_eq_length_filter_add (l := m) (fun r : ObjRec => r.names b d)
  have e : (fun r : ObjRec => !(fun r : ObjRec => r.names b d) r) = fun r => !r.names b d := rfl
  rw [e] at h
  omega

theorem evictOne_length (m : List ObjRec) (h : m.any (fun r => r.pins == 0) = true) :
    (evictOne m).length + 1 = m.length := by
  induction m with
  | nil => simp at h
  | cons r rest ih =>
    unfold evictOne
    split
    · rfl
    · rename_i hp
      have : rest.any (fun r => r.pins == 0) = true := by simpa [hp] using h
      simp [ih this]

theorem Capacities.changeObj {s : State} (h : Capacities s) (b : Nat) (d : Digest) (g : ObjRec → ObjRec) :
    Capacities (s.changeObj b d g) := h.setMap _ (by simpa using h.map)

theorem Capacities.unpin {s : State} (h : Capacities s) (b : Nat) (d : Digest) : Capacities (s.unpin b d) :=
  h.changeObj _ _ _

theorem Capacities.findOrInsert {s : State} (h : Capacities s) (b : Nat) (d : Digest) (g : ObjRec → ObjRec)
    (hr : (s.findObj b d).isSome = true ∨ s.mapHasRoom = true) : Capacities (s.findOrInsert b d g) := by
  unfold State.findOrInsert
  split
  · exact h.setMap _ (by rw [touchObj_length]; exact h.map)
  · rename_i hn
    have hm : s.mapHasRoom = true := by
      rcases hr with hr | hr
      · rw [hn] at hr; cases hr
      · exact hr
    refine h.setMap _ ?_
    rw [List.length_append, List.length_singleton]
    unfold makeRoom
    unfold State.mapHasRoom at hm
    have hmap := h.map
    have hsize : Config.mapSize = 65536 := rfl
    by_cases hl : s.map.length < Config.mapSize
    · rw [if_pos hl]
      omega
    · rw [if_neg hl]
      have ha : s.map.any (fun r => r.pins == 0) = true := by simpa [hl] using hm
      have := evictOne_length s.map ha
      omega

theorem Capacities.pinForNotice {s : State} (h : Capacities s) (b : Nat) (d : Digest) :
    Capacities (s.pinForNotice b d).2 := by
  unfold State.pinForNotice
  split
  · rename_i hc
    exact h.findOrInsert _ _ _ (by simpa using hc)
  · exact h.latch _

/-! ## Body Store and Journal -/

theorem Capacities.refillRefresh {s : State} (h : Capacities s) : Capacities s.refillRefresh :=
  ⟨h.journal, h.map, ⟨h.body.outbound, h.body.inbound, h.body.table⟩, h.apply, h.store, h.reports⟩

theorem parkStop_cap {b : BodyStore} (h : BodyCap b) : BodyCap (parkStop b) := by
  unfold parkStop
  split
  · exact ⟨h.outbound, h.inbound, h.table⟩
  · exact h

theorem Capacities.releaseSlots {s : State} (h : Capacities s) (e : JEntry) : Capacities (s.releaseSlots e) := by
  unfold State.releaseSlots
  split
  · exact h
  · exact (h.putEntry _).setBody _ (parkStop_cap ⟨Nat.le_trans (Nat.sub_le _ _) h.body.outbound, h.body.inbound, h.body.table⟩)

theorem Capacities.parkStart {s : State} (h : Capacities s) : Capacities s.parkStart := by
  unfold State.parkStart
  split
  · refine Capacities.latch (h.setBody _ ?_) _
    exact ⟨h.body.outbound, h.body.inbound, h.body.table⟩
  · exact h

theorem Capacities.reserveSlots {s : State} (h : Capacities s) (e : JEntry)
    (hr : e.change.length ≠ 0 → s.body.outUse + slotsFor e.change.length ≤ 589824) : Capacities (s.reserveSlots e) := by
  unfold State.reserveSlots
  split
  · exact h
  · rename_i hl
    refine Capacities.parkStart (Capacities.setBody (h.putEntry _) _ ?_)
    exact ⟨hr hl, h.body.inbound, h.body.table⟩

theorem Capacities.drainTest {s : State} (h : Capacities s) (b : Nat) : Capacities (s.drainTest b) := by
  unfold State.drainTest
  dsimp only
  split
  · exact h.setBucket _ _
  · exact h

theorem Capacities.filterEntries {s : State} (h : Capacities s) (p : JEntry → Bool) :
    Capacities (s.setEntries (s.journal.entries.filter p)) :=
  h.setEntries _ (Nat.le_trans (List.length_filter_le _ _) h.journal)

theorem Capacities.takeOut {s : State} (h : Capacities s) (e : JEntry) : Capacities (s.takeOut e) := by
  unfold State.takeOut
  dsimp only
  split
  · exact ((((h.releaseSlots e).changeObj _ _ _).unpin _ _).filterEntries _)
  · exact (((h.releaseSlots e).unpin _ _).filterEntries _)

theorem Capacities.removeEntry {s : State} (h : Capacities s) (e : JEntry) : Capacities (s.removeEntry e) :=
  (h.takeOut e).drainTest _

theorem Capacities.convertVoid {s : State} (h : Capacities s) (e : JEntry) : Capacities (s.convertVoid e) :=
  ((h.releaseSlots e).putEntry _).setStats _

theorem Capacities.loseEntry {s : State} (h : Capacities s) (e : JEntry) : Capacities (s.loseEntry e) :=
  (h.removeEntry e).setStats _

theorem Capacities.mapEntries {s : State} (h : Capacities s) (g : JEntry → JEntry) :
    Capacities (s.setEntries (s.journal.entries.map g)) := h.setEntries _ (by simpa using h.journal)

theorem Capacities.framesLeave {s : State} (h : Capacities s) (gone : List SentFrame) : Capacities (s.framesLeave gone) :=
  h.mapEntries _

/-- A fold of an operation that keeps the capacities. -/
theorem Capacities.foldl {β : Type} {op : State → β → State} (hop : ∀ s b, Capacities s → Capacities (op s b))
    (bs : List β) {s : State} (h : Capacities s) : Capacities (bs.foldl op s) := by
  induction bs generalizing s with
  | nil => exact h
  | cons b bs ih => exact ih (hop s b h)

/-! ## The Apply Unit -/

theorem ApplyCap.handSlots {a : ApplyUnit} (h : ApplyCap a) : ApplyCap a.handSlots := by
  refine ⟨h.backlog, ?_⟩
  have hs := h.slots
  unfold ApplyUnit.handSlots ApplyUnit.spare
  simp only [List.length_append, List.length_take, Config.applySlots]
  omega

theorem ApplyCap.dropGranted {a : ApplyUnit} (h : ApplyCap a) (p : Nat → Bool) :
    ApplyCap { a with granted := a.granted.filter p } :=
  ⟨h.backlog, Nat.le_trans (Nat.add_le_add_left (List.length_filter_le _ _) _) h.slots⟩

theorem Capacities.offerSlots {s : State} (h : Capacities s) : Capacities s.offerSlots :=
  have ha : ApplyCap s.offerSlots.apply := ApplyCap.handSlots ⟨h.apply.backlog, h.apply.slots⟩
  ⟨h.journal, h.map, h.body, ha, h.store, h.reports⟩

theorem Capacities.returnSlots {s : State} (h : Capacities s) (g : Nat → Bool) : Capacities (s.returnSlots g) := by
  unfold State.returnSlots
  split
  · exact (h.setApply _ (h.apply.dropGranted _)).offerSlots
  · exact h

theorem Capacities.freeSlot {s : State} (h : Capacities s) (tag : Nat) : Capacities (s.freeSlot tag) := by
  refine Capacities.offerSlots (h.setApply _ ⟨h.apply.backlog, ?_⟩)
  exact Nat.le_trans (Nat.add_le_add_right (List.length_filter_le _ _) _) h.apply.slots

theorem Capacities.setInRec {s : State} (h : Capacities s) (k : Nat) (r : InRec) : Capacities (s.setInRec k r) :=
  h.setApply _ ⟨h.apply.backlog, h.apply.slots⟩

theorem Capacities.mapInRecs {s : State} (h : Capacities s) (t : Trunk) (g : InRec → InRec) :
    Capacities (s.mapInRecs t g) := h.setApply _ ⟨h.apply.backlog, h.apply.slots⟩

theorem Capacities.discardInbound {s : State} (h : Capacities s) (e : InEntry) : Capacities (s.discardInbound e) := by
  unfold State.discardInbound
  dsimp only
  have h1 : Capacities (s.setBody { s.body with inUse := s.body.inUse - e.slots }) :=
    h.setBody _ ⟨h.body.outbound, Nat.le_trans (Nat.sub_le _ _) h.body.inbound, h.body.table⟩
  split
  · have h2 := h1.unpin e.notice.bucket e.notice.digest
    exact h2.setApply _ ⟨Nat.le_trans (Nat.sub_le _ _) h2.apply.backlog, h2.apply.slots⟩
  · exact h1.setApply _ ⟨Nat.le_trans (Nat.sub_le _ _) h1.apply.backlog, h1.apply.slots⟩

theorem Capacities.discardAll {s : State} (h : Capacities s) (es : List InEntry) : Capacities (s.discardAll es) :=
  Capacities.foldl (fun _ e h => h.discardInbound e) es h

theorem Capacities.forwardTest {s : State} (h : Capacities s) (k : Nat) : Capacities (s.forwardTest k) := by
  unfold State.forwardTest
  dsimp only
  split
  · split
    · exact h.setApply _ ⟨h.apply.backlog, h.apply.slots⟩
    · exact h
  · exact h.returnSlots _

theorem Capacities.restartInbound {s : State} (h : Capacities s) (t : Trunk) : Capacities (s.restartInbound t) :=
  (h.discardAll _).mapInRecs _ _

theorem Capacities.leaveList {s : State} (h : Capacities s) (g : Nat → Bool) : Capacities (s.leaveList g) :=
  h.setApply _ ⟨h.apply.backlog, h.apply.slots⟩

theorem Capacities.incarnationInbound {s : State} (h : Capacities s) (t : Trunk) : Capacities (s.incarnationInbound t) :=
  ((h.discardAll _).mapInRecs _ _).leaveList _

theorem Capacities.peerChangeInbound {s : State} (h : Capacities s) (t : Trunk) : Capacities (s.peerChangeInbound t) := by
  unfold State.peerChangeInbound
  dsimp only
  have h1 := h.discardAll ((s.inRecsOf t).flatMap InRec.discarded)
  refine Capacities.returnSlots (h1.setApply _ ?_) _
  refine ⟨h1.apply.backlog, ?_⟩
  have hs := h1.apply.slots
  have hl : (s.apply.slots.map (s.orphaned t)).length = (s.discardAll ((s.inRecsOf t).flatMap InRec.discarded)).apply.slots.length := by
    rw [List.length_map]
    have : ∀ (es : List InEntry) (s : State), (s.discardAll es).apply.slots.length = s.apply.slots.length := by
      intro es
      induction es with
      | nil => intro s; rfl
      | cons e es ih =>
        intro s
        show ((s.discardInbound e).discardAll es).apply.slots.length = _
        rw [ih]
        unfold State.discardInbound
        dsimp only
        split <;> rfl
    rw [this]
  dsimp only
  rw [hl]
  exact hs

/-! ## Restarts -/

theorem Capacities.trunkRestart {s : State} (h : Capacities s) (t : Trunk) (goal : TrunkState)
    (cause : Option Signature) : Capacities (s.trunkRestart t goal cause) := by
  unfold State.trunkRestart
  dsimp only
  have h2 := (h.framesLeave (s.port t).store).mapEntries (JEntry.requeue t)
  exact (((h2.setPort t _ (Nat.zero_le _)).setSup t _).restartInbound t).refillRefresh

theorem Capacities.moveDown {s : State} (h : Capacities s) (t : Trunk) : Capacities (s.moveDown t) :=
  (h.trunkRestart t _ _).latchTrunk _ _

theorem Capacities.moveFaulted {s : State} (h : Capacities s) (t : Trunk) (c : Signature) :
    Capacities (s.moveFaulted t c) := (h.trunkRestart t _ _).latchTrunk _ _

theorem Capacities.protocolRestart {s : State} (h : Capacities s) (t : Trunk) : Capacities (s.protocolRestart t) := by
  have h1 := h.keepPort t { s.port t with stats := { (s.port t).stats with protocolRestarts := (s.port t).stats.protocolRestarts + 1 } } (by exact Nat.le_refl _)
  exact h1.trunkRestart t _ _

theorem Capacities.enterAlign {s : State} (h : Capacities s) (t : Trunk) : Capacities (s.enterAlign t) := by
  unfold State.enterAlign
  dsimp only
  exact (h.keepPort t _ (by exact Nat.le_refl _)).setSup _ _

theorem Capacities.enterRunning {s : State} (h : Capacities s) (t : Trunk) : Capacities (s.enterRunning t) := by
  unfold State.enterRunning
  dsimp only
  exact ((h.keepPort t _ (by exact Nat.le_refl _)).setSup _ _).refillRefresh

theorem Capacities.enterResync {s : State} (h : Capacities s) (t : Trunk) : Capacities (s.enterResync t) := by
  unfold State.enterResync
  dsimp only
  exact ((h.keepPort t _ (by exact Nat.le_refl _)).setSup _ _).latchTrunk _ _

theorem Capacities.regainRunning {s : State} (h : Capacities s) (t : Trunk) : Capacities (s.regainRunning t) := by
  unfold State.regainRunning
  dsimp only
  exact (h.keepPort t _ (by exact Nat.le_refl _)).setSup _ _

theorem Capacities.drainAll {s : State} (h : Capacities s) : Capacities s.drainAll :=
  Capacities.foldl (fun _ b h => h.drainTest b) _ h

theorem Capacities.dropSlotFrom {s : State} (h : Capacities s) (t : Trunk) (g : Nat → Bool) :
    Capacities (s.dropSlotFrom t g) := h.mapEntries _

theorem Capacities.peerChange {s : State} (h : Capacities s) (t : Trunk) : Capacities (s.peerChange t) := by
  unfold State.peerChange
  dsimp only
  have h2 := (h.setBuckets (s.buckets.mapOn .reset (fun _ => true) (Bucket.dropTarget t))).dropSlotFrom t fun _ => true
  have h3 := Capacities.foldl (fun _ e h => h.removeEntry e) (State.emptied
    ((s.setBuckets (s.buckets.mapOn .reset (fun _ => true) (Bucket.dropTarget t))).dropSlotFrom t fun _ => true)) h2
  refine Capacities.refillRefresh (Capacities.keepPort (h3.drainAll.peerChangeInbound t) t _ ?_)
  exact Nat.le_refl _

/-! ## The receive side -/

theorem Capacities.countArrival {s : State} (h : Capacities s) (t : Trunk) : Capacities (s.countArrival t) :=
  h.keepPort t _ (by exact Nat.le_refl _)

theorem Capacities.reportArrival {s : State} (h : Capacities s) (t : Trunk) (v : Bool) (m : Marks) :
    Capacities (s.reportArrival t v m) := by
  unfold State.reportArrival
  dsimp only
  split
  · exact h.setSup _ _
  · exact (h.setSup _ _).countEvent _ _

theorem Capacities.incarnationCheck {s : State} (h : Capacities s) (t : Trunk) (i : Stamp) :
    Capacities (s.incarnationCheck t i).1 := by
  unfold State.incarnationCheck
  split
  · exact h.keepPort t _ (by exact Nat.le_refl _)
  · split
    · exact h
    · have h2 := (h.incarnationInbound t).keepPort t { (s.incarnationInbound t).port t with recorded := some i } (by exact Nat.le_refl _)
      dsimp only
      split
      · exact h2.protocolRestart t
      · exact h2

theorem Capacities.headError {s : State} (h : Capacities s) (t : Trunk) : Capacities (s.headError t) := by
  unfold State.headError
  dsimp only
  have h1 : ∀ c : Prop, ∀ [Decidable c], Capacities (if c then s.countEvent t .headError else s) := by
    intro c _
    split
    · exact h.countEvent _ _
    · exact h
  split
  · exact (h1 _).setPort t _ (h.store t)
  · have h2 := (h1 ((s.port t).state = .align ∨ (s.port t).state = .running)).setPort t
      { s.port t with lock := (s.port t).lock.lost } (h.store t)
    split
    · exact h2.enterResync t
    · exact h2

theorem Capacities.lockArrival {s : State} (h : Capacities s) (t : Trunk) (k : Option Nat) :
    Capacities (s.lockArrival t k) := by
  have hp : ∀ x : Lock, Capacities (s.setPort t { s.port t with lock := x }) := fun x => h.keepPort t _ (by exact Nat.le_refl _)
  unfold State.lockArrival
  dsimp only
  repeat' split
  all_goals first
    | exact h
    | exact h.headError t
    | exact (hp _).regainRunning t
    | exact hp _

theorem Capacities.lockStep {s : State} (h : Capacities s) (t : Trunk) (k : Option Nat) : Capacities (s.lockStep t k) := by
  unfold State.lockStep
  split
  · exact h.lockArrival t k
  · exact h

theorem Capacities.headFlags {s : State} (h : Capacities s) (t : Trunk) (f : HeadFrame) : Capacities (s.headFlags t f) := by
  unfold State.headFlags
  dsimp only
  split
  · exact (h.keepPort t _ (by exact Nat.le_refl _)).latchTrunk _ _
  · exact h.keepPort t _ (by exact Nat.le_refl _)

theorem Capacities.completeEntry {s : State} (h : Capacities s) (k : Nat) (e : InEntry) :
    Capacities (s.completeEntry k e).state := by
  unfold State.completeEntry
  dsimp only
  split
  · exact (h.setInRec _ _).forwardTest _
  · exact (h.setInRec _ _).discardInbound _

theorem Capacities.adopt {s : State} (h : Capacities s) (k : Nat) (n : Notice) : Capacities (s.adopt k n) :=
  (h.discardAll _).setInRec _ _

theorem Capacities.takeRoom {s : State} (h : Capacities s) (n : Notice) (hr : s.roomFor n = true) :
    Capacities (s.takeRoom n) := by
  unfold State.roomFor at hr
  simp only [Bool.and_eq_true, decide_eq_true_eq] at hr
  have h1 : Capacities (s.setApply { s.apply with backlog := s.apply.backlog + 1 }) := h.setApply _ ⟨hr.1, h.apply.slots⟩
  exact h1.setBody _ ⟨h.body.outbound, hr.2, h.body.table⟩

theorem Capacities.acceptNotice {s : State} (h : Capacities s) (k : Nat) (n : Notice) :
    Capacities (s.acceptNotice k n).state := by
  unfold State.acceptNotice
  split
  · rename_i hr
    have h2 := ((h.takeRoom n hr).merge n.stamp).pinForNotice n.bucket n.digest
    dsimp only
    split
    · exact h2.setInRec _ _
    · exact (h2.setInRec _ _).completeEntry _ _
  · exact h

theorem Capacities.countDuplicate {s : State} (h : Capacities s) (t : Trunk) : Capacities (s.countDuplicate t) :=
  h.keepPort t _ (by exact Nat.le_refl _)

theorem Capacities.dispatchNotice {s : State} (h : Capacities s) (t : Trunk) (n : Notice) :
    Capacities (s.dispatchNotice t n).state := by
  unfold State.dispatchNotice
  dsimp only
  repeat' split
  all_goals first
    | exact h
    | exact (h.adopt _ _).acceptNotice _ _
    | exact h.acceptNotice _ _
    | exact (h.countDuplicate t).setInRec _ _

theorem Capacities.dispatchSegment {s : State} (h : Capacities s) (t : Trunk) (g : Segment) :
    Capacities (s.dispatchSegment t g).state := by
  unfold State.dispatchSegment
  dsimp only
  repeat' split
  all_goals first
    | exact h
    | exact h.setInRec _ _
    | exact h.completeEntry _ _
    | exact (h.countDuplicate t).setInRec _ _

theorem Capacities.dispatch {s : State} (h : Capacities s) (t : Trunk) (b : List Byte) :
    Capacities (s.dispatch t b).state := by
  unfold State.dispatch
  split
  · exact h.dispatchNotice _ _
  · exact h.dispatchSegment _ _
  · exact h

theorem Capacities.releaseFrames {s : State} (h : Capacities s) (t : Trunk) (fuel : Nat) :
    Capacities (s.releaseFrames t fuel) := by
  induction fuel generalizing s with
  | zero => exact h
  | succ n ih =>
    unfold State.releaseFrames
    split
    · exact h
    · rename_i payload _
      have hd := h.dispatch t payload
      split <;> rename_i s1 h1 <;> rw [h1] at hd
      · exact ih (Capacities.keepPort hd t _ (by exact Nat.le_refl _))
      · exact hd
      · exact Capacities.protocolRestart hd t

theorem Capacities.release {s : State} (h : Capacities s) (t : Trunk) : Capacities (s.release t) := h.releaseFrames t _

/-! ## The send side -/

theorem Capacities.emit {s : State} (h : Capacities s) (t : Trunk) (f : Frame) : Capacities (s.emit t f) :=
  h.keepPort t _ (by exact Nat.le_refl _)

theorem Capacities.seal {s : State} (h : Capacities s) (e : JEntry) : Capacities (s.seal e) :=
  ((h.setBucket _ _).putEntry _).changeObj _ _ _

theorem Capacities.countBegun {s : State} (h : Capacities s) (t : Trunk) : Capacities (s.countBegun t) :=
  h.keepPort t _ (by exact Nat.le_refl _)

theorem Capacities.takePiece {s : State} (h : Capacities s) (t : Trunk) (e : JEntry) :
    Capacities (s.takePiece t e).2.2 := by
  unfold State.takePiece
  split
  · exact h.putEntry _
  · dsimp only
    split
    · exact ((h.seal e).putEntry _).countBegun t
    · exact (h.putEntry _).countBegun t

theorem Capacities.startStall {s : State} (h : Capacities s) (t : Trunk) : Capacities (s.startStall t) := h.setSup _ _

theorem Capacities.sendPiece {s : State} (h : Capacities s) (t : Trunk) (m : Nat) (b : List Byte) (e : JEntry)
    (hl : (s.port t).store.length < 32768) : Capacities (s.sendPiece t m b e) := by
  unfold State.sendPiece
  dsimp only
  have h2 := (h.putEntry { e with framesOut := e.framesOut + 1 }).setPort t
    { s.port t with
      nextFrame := (s.port t).nextFrame + 1
      store := (s.port t).store ++ [⟨(s.port t).nextFrame, carryFrame (s.port t).nextFrame b, e.handle, m, m, false⟩] }
    (by simp only [List.length_append, List.length_singleton]; omega)
  split
  · exact (h2.startStall t).emit t _
  · exact h2.emit t _

theorem Capacities.fillSlot {s : State} (h : Capacities s) (t : Trunk) : Capacities (s.fillSlot t) := by
  unfold State.fillSlot
  split
  · exact h.emit _ _
  · exact h.emit _ _

theorem Capacities.resend {s : State} (h : Capacities s) (t : Trunk) (m : Nat) (f : SentFrame) :
    Capacities (s.resend t m f) := by
  unfold State.resend
  exact (h.keepPort t _ (by simp)).emit _ _

theorem Port.window_le (p : Port) : p.window ≤ 32768 := by
  unfold Port.window Paced.window windowOf
  simp only [Config.storeFrames]
  omega

theorem State.takePiece_store (s : State) (t : Trunk) (e : JEntry) :
    ((s.takePiece t e).2.2.port t).store = (s.port t).store := by
  have hp : ∀ x : JEntry, (s.putEntry x).port t = s.port t := fun _ => rfl
  unfold State.takePiece
  split
  · rfl
  · dsimp only
    unfold State.countBegun
    dsimp only
    rw [State.port_setPort_self]
    split <;> rfl

theorem Capacities.dataSlot {s : State} (h : Capacities s) (t : Trunk) (c : Band) (m : Nat) :
    Capacities (s.dataSlot t c m) := by
  unfold State.dataSlot
  dsimp only
  split
  · exact h.resend _ _ _
  · split
    · rename_i hw
      split
      · exact h.fillSlot t
      · rename_i c b _
        split
        · exact h.fillSlot t
        · rename_i e _
          split
          · exact (h.fillSlot t).protocolRestart t
          · have h1 : Capacities (s.setPort t ((s.port t).served c b)) := by
              refine h.keepPort t _ ?_
              cases c <;> exact Nat.le_refl _
            refine Capacities.refillRefresh (Capacities.sendPiece (h1.takePiece t e) t m _ _ ?_)
            rw [State.takePiece_store, State.port_setPort_self]
            have hl : ((s.port t).served c b).store = (s.port t).store := by cases c <;> rfl
            rw [hl]
            have := (s.port t).window_le
            unfold Port.inFlight at hw
            omega
    · split
      · exact (h.fillSlot t).latchTrunk _ _
      · exact h.fillSlot t

theorem Capacities.clearOwed {s : State} (h : Capacities s) (t : Trunk) (bs : List Nat) : Capacities (s.clearOwed t bs) :=
  h.setApply _ ⟨h.apply.backlog, h.apply.slots⟩

theorem Capacities.sendService {s : State} (h : Capacities s) (t : Trunk) : Capacities (s.sendService t) := by
  unfold State.sendService
  exact ((h.clearOwed t _).keepPort t _ (by exact Nat.le_refl _)).emit _ _

theorem Capacities.acceptAck {s : State} (h : Capacities s) (t : Trunk) (a : EntryAck) : Capacities (s.acceptAck t a) := by
  unfold State.acceptAck
  dsimp only
  split
  · exact h
  · refine Capacities.refillRefresh (Capacities.foldl (fun _ e h => h.removeEntry e) _ ?_)
    exact (Capacities.setBucket (h.keepPort t _ (by exact Nat.le_refl _)) _ _).mapEntries _

theorem Capacities.entryAck {s : State} (h : Capacities s) (t : Trunk) (a : EntryAck) : Capacities (State.entryAck t s a) := by
  unfold State.entryAck
  split
  · exact h.setStats _
  · exact h.acceptAck _ _

theorem Port.gapJoin_length (p : Port) (f : ServiceFrame) : (p.gapJoin f).1.length = p.store.length := by
  unfold Port.gapJoin
  split <;> simp

theorem Capacities.serviceStore {s : State} (h : Capacities s) (t : Trunk) (f : ServiceFrame) :
    Capacities (s.serviceStore t f) := by
  unfold State.serviceStore
  dsimp only
  have h1 : ∀ p : Port, p.store = ((s.port t).gapJoin f).1.filter (fun x => !serviceCovers f x.number) →
      Capacities (((s.setPort t p).countEvents t .resend ((s.port t).gapJoin f).2).framesLeave
        ((s.port t).store.filter fun x => serviceCovers f x.number)) := by
    intro p hp
    refine Capacities.framesLeave (Capacities.countEvents (h.keepPort t p ?_) t _ _) _
    rw [hp, ← Port.gapJoin_length (s.port t) f]
    exact List.length_filter_le _ _
  split
  · exact (h1 _ rfl).setSup _ _
  · split
    · exact (h1 _ rfl).startStall t
    · exact h1 _ rfl

theorem Capacities.serviceActs {s : State} (h : Capacities s) (t : Trunk) (f : ServiceFrame) :
    Capacities (s.serviceActs t f) := Capacities.foldl (fun _ a h => h.entryAck t a) _ (h.serviceStore t f)

end Sys2Proof.Machine
end

