-- ==== Sys2Proof/Laws/Tables.lean ====
section
/-! SUPPORT. What reading and writing a sparse table does, and that every write keeps its canonical form. -/

set_option Elab.async false

namespace Sys2Proof.Machine

variable {α : Type}

/-! ## Lookups -/

@[simp] theorem Table.lookup_del_self (k : Nat) (t : Table α) : (Table.del k t).lookup k = none := by
  rw [List.lookup_eq_none_iff]
  intro e he
  have h := (List.mem_filter.mp he).2
  simpa using Ne.symm (by simpa using h)

theorem Table.lookup_del_ne {k j : Nat} (t : Table α) (h : j ≠ k) : (Table.del k t).lookup j = t.lookup j := by
  induction t with
  | nil => rfl
  | cons e r ih =>
    obtain ⟨k', v⟩ := e
    unfold Table.del at ih ⊢
    by_cases hk : k' = k
    · have hj : (j == k') = false := by simpa [hk] using h
      rw [List.filter_cons_of_neg (by simp [hk]), ih, List.lookup_cons, hj]
    · rw [List.filter_cons_of_pos (by simpa using hk), List.lookup_cons, List.lookup_cons, ih]

@[simp] theorem Table.lookup_put_self (k : Nat) (v : α) (t : Table α) : (Table.put k v t).lookup k = some v := by
  induction t with
  | nil => simp [Table.put]
  | cons e r ih =>
    obtain ⟨k', v'⟩ := e
    unfold Table.put
    split
    · simp
    · split
      · simp
      · rename_i h
        have h' : (k == k') = false := by simpa using h
        simp [List.lookup_cons, h', ih]

theorem Table.lookup_put_ne {k j : Nat} (v : α) (t : Table α) (h : j ≠ k) : (Table.put k v t).lookup j = t.lookup j := by
  have hjk : (j == k) = false := by simpa using h
  induction t with
  | nil => simp [Table.put, List.lookup_cons, hjk]
  | cons e r ih =>
    obtain ⟨k', v'⟩ := e
    unfold Table.put
    split
    · simp [List.lookup_cons, hjk]
    · split
      · rename_i h2
        subst h2
        simp [List.lookup_cons, hjk]
      · simp [List.lookup_cons, ih]

/-! ## Reads after writes -/

@[simp] theorem Table.get_set_self [DecidableEq α] (d : α) (k : Nat) (v : α) (t : Table α) :
    (Table.set d k v t).get d k = v := by
  unfold Table.set Table.get
  split
  · rename_i h
    simp [h]
  · simp

theorem Table.get_set_ne [DecidableEq α] (d : α) {k j : Nat} (v : α) (t : Table α) (h : j ≠ k) :
    (Table.set d k v t).get d j = t.get d j := by
  unfold Table.set Table.get
  split
  · rw [Table.lookup_del_ne t h]
  · rw [Table.lookup_put_ne v t h]

theorem Table.get_set [DecidableEq α] (d : α) (k j : Nat) (v : α) (t : Table α) :
    (Table.set d k v t).get d j = if j = k then v else t.get d j := by
  split
  · rename_i h
    simp [h]
  · rename_i h
    exact Table.get_set_ne d v t h

@[simp] theorem Table.get_nil (d : α) (k : Nat) : Table.get d k ([] : Table α) = d := rfl

/-! ## The canonical form -/

theorem Table.sorted_filter (p : Nat × α → Bool) (t : Table α) (h : Table.sorted t = true) :
    Table.sorted (t.filter p) = true := by
  induction t with
  | nil => rfl
  | cons e r ih =>
    simp only [Table.sorted, Bool.and_eq_true, List.all_eq_true] at h
    rw [List.filter_cons]
    split
    · simp only [Table.sorted, Bool.and_eq_true, List.all_eq_true]
      exact ⟨fun x hx => h.1 x (List.mem_filter.mp hx).1, ih h.2⟩
    · exact ih h.2

theorem Table.mem_put {k : Nat} {v : α} {t : Table α} {e : Nat × α} (h : e ∈ Table.put k v t) : e = (k, v) ∨ e ∈ t := by
  induction t with
  | nil => simpa [Table.put] using h
  | cons x r ih =>
    obtain ⟨k', v'⟩ := x
    unfold Table.put at h
    split at h
    · simpa using h
    · split at h
      · rcases List.mem_cons.mp h with h | h
        · exact Or.inl h
        · exact Or.inr (List.mem_cons_of_mem _ h)
      · rcases List.mem_cons.mp h with h | h
        · exact Or.inr (h ▸ List.mem_cons_self)
        · rcases ih h with h | h
          · exact Or.inl h
          · exact Or.inr (List.mem_cons_of_mem _ h)

theorem Table.sorted_put (k : Nat) (v : α) (t : Table α) (h : Table.sorted t = true) :
    Table.sorted (Table.put k v t) = true := by
  induction t with
  | nil => simp [Table.put, Table.sorted]
  | cons x r ih =>
    obtain ⟨k', v'⟩ := x
    simp only [Table.sorted, Bool.and_eq_true, List.all_eq_true, decide_eq_true_eq] at h
    unfold Table.put
    split
    · rename_i hk
      simp only [Table.sorted, Bool.and_eq_true, List.all_eq_true, decide_eq_true_eq]
      refine ⟨fun e he => ?_, h⟩
      rcases List.mem_cons.mp he with rfl | he
      · exact hk
      · exact Nat.lt_trans hk (h.1 e he)
    · split
      · rename_i hk
        subst hk
        simp only [Table.sorted, Bool.and_eq_true, List.all_eq_true, decide_eq_true_eq]
        exact h
      · rename_i h1 h2
        simp only [Table.sorted, Bool.and_eq_true, List.all_eq_true, decide_eq_true_eq]
        refine ⟨fun e he => ?_, ih h.2⟩
        rcases Table.mem_put he with rfl | he
        · show k' < k
          omega
        · exact h.1 e he

@[simp] theorem Table.wf_nil [DecidableEq α] (d : α) : Table.wf d ([] : Table α) = true := rfl

theorem Table.wf_filter [DecidableEq α] (d : α) (p : Nat × α → Bool) (t : Table α) (h : Table.wf d t = true) :
    Table.wf d (t.filter p) = true := by
  simp only [Table.wf, Bool.and_eq_true, List.all_eq_true] at h ⊢
  exact ⟨Table.sorted_filter p t h.1, fun e he => h.2 e (List.mem_filter.mp he).1⟩

theorem Table.wf_del [DecidableEq α] (d : α) (k : Nat) (t : Table α) (h : Table.wf d t = true) :
    Table.wf d (Table.del k t) = true := Table.wf_filter d _ t h

theorem Table.wf_put [DecidableEq α] (d : α) (k : Nat) {v : α} (t : Table α) (hv : v ≠ d) (h : Table.wf d t = true) :
    Table.wf d (Table.put k v t) = true := by
  simp only [Table.wf, Bool.and_eq_true, List.all_eq_true] at h ⊢
  refine ⟨Table.sorted_put k v t h.1, fun e he => ?_⟩
  rcases Table.mem_put he with rfl | he
  · simpa using hv
  · exact h.2 e he

/-- A write keeps the canonical form. -/
theorem Table.wf_set [DecidableEq α] (d : α) (k : Nat) (v : α) (t : Table α) (h : Table.wf d t = true) :
    Table.wf d (Table.set d k v t) = true := by
  unfold Table.set
  split
  · exact Table.wf_del d k t h
  · rename_i hv
    exact Table.wf_put d k t hv h

theorem Table.sorted_map (g : Nat × α → Nat × α) (hg : ∀ e, (g e).1 = e.1) (t : Table α) (h : Table.sorted t = true) :
    Table.sorted (t.map g) = true := by
  induction t with
  | nil => rfl
  | cons x r ih =>
    simp only [Table.sorted, Bool.and_eq_true, List.all_eq_true, decide_eq_true_eq] at h
    simp only [List.map_cons, Table.sorted, Bool.and_eq_true, List.all_eq_true, decide_eq_true_eq]
    refine ⟨fun e he => ?_, ih h.2⟩
    obtain ⟨y, hy, rfl⟩ := List.mem_map.mp he
    rw [hg, hg]
    exact h.1 y hy

/-- A change of chosen entries keeps the canonical form. -/
theorem Table.wf_mapOn [DecidableEq α] (d : α) (p : Nat → Bool) (g : α → α) (t : Table α) (h : Table.wf d t = true) :
    Table.wf d (Table.mapOn d p g t) = true := by
  simp only [Table.wf, Bool.and_eq_true, List.all_eq_true] at h ⊢
  unfold Table.mapOn
  refine ⟨Table.sorted_filter _ _ (Table.sorted_map _ (fun e => by split <;> rfl) t h.1), fun e he => ?_⟩
  exact (List.mem_filter.mp he).2

/-! ## Bytes -/

@[simp] theorem beBytes_length (n v : Nat) : (beBytes n v).length = n := by
  induction n with
  | zero => rfl
  | succ n ih => simp [beBytes, ih]

@[simp] theorem slice_length (bs : List Byte) (off n : Nat) : (slice bs off n).length = n := by
  simp [slice]

end Sys2Proof.Machine
end

