-- ==== Sys2Proof/Laws/Effects.lean ====
section
/-! SUPPORT. What the shared operations make of the state, in the words of Safety.lean: discards,
removals, the refill queue, counted events, arrivals. -/

set_option Elab.async false

namespace Sys2Proof.Machine

/-! ## Discards (R79, R54, R144) -/

theorem mapReleased_nil (m : List ObjRec) : mapReleased m [] = m := by simp [mapReleased]

theorem mapReleased_cons (m : List ObjRec) (e : InEntry) (l : List InEntry) :
    mapReleased m (e :: l) = mapReleased
      (if e.mapped then mapChanged m e.notice.bucket e.notice.digest fun x => { x with pins := x.pins - 1 } else m) l := by
  cases h : e.mapped with
  | false => simp [mapReleased, h]
  | true =>
    simp only [mapReleased, mapChanged, if_true, List.map_map, List.countP_cons, h, Bool.true_and]
    congr 1; funext x
    simp only [Function.comp]
    split
    · have same : ∀ b d, isObj b d { x with pins := x.pins - 1 } = isObj b d x := fun _ _ => rfl
      simp only [same]; congr 1; omega
    · rfl

theorem State.discardInbound_eq (s : State) (e : InEntry) : s.discardInbound e = { s with
    body := { s.body with inUse := s.body.inUse - e.slots }
    map := if e.mapped then mapChanged s.map e.notice.bucket e.notice.digest fun x => { x with pins := x.pins - 1 }
      else s.map
    apply := { s.apply with backlog := s.apply.backlog - 1 } } := by
  simp only [State.discardInbound]; cases e.mapped <;> rfl

/-- What several discards leave: slots, pins and backlog places given up, and nothing else changed. -/
theorem State.discardAll_eq (l : List InEntry) : ∀ s : State, s.discardAll l = { s with
    body := { s.body with inUse := s.body.inUse - (l.map fun e => e.slots).sum }
    map := mapReleased s.map l
    apply := { s.apply with backlog := s.apply.backlog - l.length } } := by
  induction l with
  | nil => intro s; simp [State.discardAll, mapReleased_nil]
  | cons e l ih =>
    intro s
    show (s.discardInbound e).discardAll l = _
    rw [ih, State.discardInbound_eq, mapReleased_cons]
    simp only [List.map_cons, List.sum_cons, List.length_cons]
    congr 1
    · congr 1; omega
    · congr 1; omega

theorem State.reassembling_eq (s : State) (t : Trunk) : (s.inRecsOf t).filterMap (·.reassembly) = s.reassembling t := by
  simp only [State.inRecsOf, State.reassembling, List.filterMap_map]; rfl

/-! ## Entries that leave the journal (R6, R29, R55, R65, R69, R75) -/

theorem mapAfter_nil (m : List ObjRec) : mapAfter m [] = m := by simp [mapAfter]

theorem mapAfter_cons (m : List ObjRec) (e : JEntry) (l : List JEntry) :
    mapAfter m (e :: l) = mapAfter (mapAfter m [e]) l := by
  have twice : ∀ (a b : Bool) (x : Option Handle),
      (if (a || b) = true then none else x) = if b = true then none else if a = true then none else x := by
    intro a b x; cases a <;> cases b <;> rfl
  simp only [mapAfter, List.map_map]
  congr 1; funext x
  simp only [Function.comp, List.countP_cons, List.countP_nil, List.any_cons, List.any_nil, Bool.or_false, isObj]
  congr 1
  · exact twice _ _ _
  · omega

/-- Entries that differ only in their peers leave the same map. -/
theorem mapAfter_congr (m : List ObjRec) (l : List JEntry) (g : JEntry → JEntry)
    (h : ∀ e, (g e).bucket = e.bucket ∧ (g e).digest = e.digest ∧ (g e).seq = e.seq) :
    mapAfter m (l.map g) = mapAfter m l := by
  simp only [mapAfter, List.countP_map, List.any_map]
  congr 1; funext x
  have named : ((fun e => isObj e.bucket e.digest x) ∘ g) = fun e => isObj e.bucket e.digest x := by funext e; simp [h e]
  have unsealed : ((fun e => isObj e.bucket e.digest x && e.seq.isNone) ∘ g)
      = fun e => isObj e.bucket e.digest x && e.seq.isNone := by funext e; simp [h e]
  rw [named, unsealed]

theorem bodyAfter_nil (b : BodyStore) : bodyAfter b [] = b := by simp [bodyAfter]

theorem bodyAfter_cons (b : BodyStore) (e : JEntry) (l : List JEntry) :
    bodyAfter b (e :: l) = bodyAfter (bodyAfter b [e]) l := by
  simp only [bodyAfter, List.map_cons, List.map_nil, List.sum_cons, List.sum_nil, Nat.add_zero, List.any_cons,
    List.any_nil, Bool.or_false, List.filter_filter]
  rw [show b.outUse - (e.slotsHeld + (l.map fun e => e.slotsHeld).sum)
    = b.outUse - e.slotsHeld - (l.map fun e => e.slotsHeld).sum by omega]
  congr 1
  · congr 1; funext i; cases (e.fill.isSome && e.index == i) <;> simp
  · cases e.fill.isSome
    · simp
    · cases none : l.any fun e => e.fill.isSome
      · have zero : (l.map fun e => e.slotsHeld).sum = 0 := by
          rw [List.sum_eq_zero_iff]; intro x hx
          obtain ⟨y, hy, rfl⟩ := List.mem_map.1 hx
          have := List.any_eq_false.1 none y hy
          simp only [JEntry.slotsHeld]; cases hf : y.fill <;> simp_all
        simp [zero]
      · cases b.parkOn
        · simp
        · by_cases low : b.outUse - e.slotsHeld ≤ 458752
          · have : b.outUse - e.slotsHeld - (l.map fun e => e.slotsHeld).sum ≤ 458752 := by omega
            simp [low, this]
          · simp [low]

/-- Entries that differ only in their peers leave the same Body Store. -/
theorem bodyAfter_congr (b : BodyStore) (l : List JEntry) (g : JEntry → JEntry)
    (h : ∀ e, (g e).index = e.index ∧ (g e).fill = e.fill) : bodyAfter b (l.map g) = bodyAfter b l := by
  simp only [bodyAfter, List.map_map, List.any_map]
  have held : ((fun e => e.slotsHeld) ∘ g) = fun e => e.slotsHeld := by funext e; simp [JEntry.slotsHeld, h e]
  have listed : ∀ i, ((fun e => e.fill.isSome && e.index == i) ∘ g) = fun e => e.fill.isSome && e.index == i := by
    intro i; funext e; simp [h e]
  have filled : ((fun e => e.fill.isSome) ∘ g) = fun (e : JEntry) => e.fill.isSome := by funext e; simp [h e]
  simp only [held, listed, filled]

/-- What the release of an entry's slots leaves in the Body Store. -/
theorem State.releaseSlots_body (s : State) (e : JEntry) : (s.releaseSlots e).body = bodyAfter s.body [e] := by
  simp only [State.releaseSlots, bodyAfter, JEntry.slotsHeld, List.any_cons, List.any_nil, Bool.or_false, List.map_cons,
    List.map_nil, List.sum_cons, List.sum_nil, Nat.add_zero]
  cases e.fill with
  | none => simp
  | some f =>
    have same : (s.body.reservation.filter fun i => i != e.index) = s.body.reservation.filter fun i => !(e.index == i) := by
      congr 1; funext i; simp only [bne, Bool.beq_comm]
    simp only [State.setBody, parkStop, Option.isSome_some, Bool.true_and, same]
    cases s.body.parkOn
    · simp
    · by_cases low : s.body.outUse - f.slots ≤ 458752
      · rw [if_pos ⟨rfl, low⟩]; simp [low]
      · rw [if_neg (fun h => low h.2)]; simp [low]

/-- Release touches the journal and the Body Store alone. -/
theorem State.releaseSlots_eq (s : State) (e : JEntry) : s.releaseSlots e = { s with
    journal := { s.journal with entries := (s.releaseSlots e).journal.entries }, body := bodyAfter s.body [e] } := by
  rw [← State.releaseSlots_body]; simp only [State.releaseSlots]; split <;> rfl

theorem State.releaseSlots_rest (s : State) (e : JEntry) :
    ((s.releaseSlots e).journal.entries.filter fun y => y.index != e.index)
      = s.journal.entries.filter fun y => y.index != e.index := by
  simp only [State.releaseSlots]; split
  · rfl
  · show List.filter _ (List.map _ _) = _
    rw [List.filter_map]
    induction s.journal.entries with
    | nil => rfl
    | cons a l ih => by_cases ha : a.index = e.index <;> simp [ha] at ih ⊢ <;> exact ih

theorem State.takeOut_map (s : State) (e : JEntry) : (s.takeOut e).map = mapAfter s.map [e] := by
  have both : ∀ u : State, ((u.changeObj e.bucket e.digest fun r => { r with unsealed := none }).unpin e.bucket e.digest).map
      = u.map.map fun r => if isObj e.bucket e.digest r then { r with unsealed := none, pins := r.pins - 1 } else r := by
    intro u
    have named : ∀ r, r.names e.bucket e.digest = isObj e.bucket e.digest r := fun _ => rfl
    simp only [State.unpin, State.changeObj, State.setMap, List.map_map, named]
    congr 1; funext r
    simp only [Function.comp]; split
    · simp_all [isObj]
    · simp_all
  have pin : ∀ u : State, (u.unpin e.bucket e.digest).map
      = u.map.map fun r => if isObj e.bucket e.digest r then { r with pins := r.pins - 1 } else r := fun _ => rfl
  simp only [State.takeOut, State.setEntries, State.setJournal]
  cases sealed : e.seq with
  | none =>
    simp only [Option.isNone_none, if_true]
    rw [both, State.releaseSlots_map]
    simp only [mapAfter, List.countP_cons, List.countP_nil, List.any_cons, List.any_nil, sealed]
    congr 1; funext r; split <;> simp_all
  | some n =>
    simp only [Option.isNone_some, Bool.false_eq_true, if_false]
    rw [pin, State.releaseSlots_map]
    simp only [mapAfter, List.countP_cons, List.countP_nil, List.any_cons, List.any_nil, sealed]
    congr 1; funext r; split <;> simp_all

/-- What an entry's removal leaves, less the drain test. -/
theorem State.takeOut_eq (s : State) (e : JEntry) : s.takeOut e = { s with
    journal := { s.journal with entries := s.journal.entries.filter fun y => y.index != e.index }
    body := bodyAfter s.body [e]
    map := mapAfter s.map [e] } := by
  rw [← State.takeOut_map, ← State.releaseSlots_rest]
  simp only [State.takeOut]; rw [State.releaseSlots_eq]; split <;> rfl

/-- The drain test touches the bucket table alone. -/
theorem State.drainTest_eq (s : State) (b : Nat) : s.drainTest b = { s with buckets := (s.drainTest b).buckets } := by
  simp only [State.drainTest]; split <;> rfl

theorem State.drainTest_drained (s : State) (b : Nat) : Drained s (s.drainTest b) b := by
  have entries : (s.drainTest b).journal.entries = s.journal.entries := by rw [State.drainTest_eq]
  constructor
  · intro draining empty
    have done : s.drainTest b = s.setBucket b { s.bucket b with
        state := .absent, targets := .all false, band := .express, rebase := .all false } := by
      simp only [State.drainTest]; rw [if_pos]
      refine ⟨draining, ?_⟩
      rw [entries] at empty
      simp only [State.entriesOf, List.isEmpty_iff, List.filter_eq_nil_iff]
      intro e he; simp [empty e he]
    rw [done]; simp [State.bucket, State.setBucket, State.setBuckets]
  · intro h
    simp only [State.drainTest]; rw [if_neg]
    rintro ⟨draining, empty⟩
    refine h ⟨draining, ?_⟩
    rw [entries]
    simp only [State.entriesOf, List.isEmpty_iff, List.filter_eq_nil_iff] at empty
    intro e he; simpa using empty e he
  · intro b' hb
    simp only [State.drainTest]; split
    · simp [State.bucket, State.setBucket, State.setBuckets, Table.get_set_ne _ _ _ hb]
    · rfl

/-- What an entry's removal leaves. -/
theorem State.removeEntry_eq (s : State) (e : JEntry) : s.removeEntry e = { s with
    journal := { s.journal with entries := s.journal.entries.filter fun y => y.index != e.index }
    body := bodyAfter s.body [e]
    map := mapAfter s.map [e]
    buckets := (s.removeEntry e).buckets } := by
  rw [State.removeEntry, State.takeOut_eq, State.drainTest_eq]

theorem State.removeEntry_drained (s : State) (e : JEntry) : Drained s (s.removeEntry e) e.bucket := by
  have h := State.drainTest_drained (s.takeOut e) e.bucket
  have same : ∀ b, (s.takeOut e).bucket b = s.bucket b := by intro b; rw [State.takeOut_eq]; rfl
  constructor
  · intro draining empty; rw [← same]; exact h.passed (by rw [same]; exact draining) empty
  · intro stays; rw [← same]; exact h.stays (by rw [same]; exact stays)
  · intro b' hb; rw [← same]; exact h.others b' hb

/-- What a conversion to VOID leaves. -/
theorem State.convertVoid_eq (s : State) (e : JEntry) : s.convertVoid e = { s with
    journal := { s.journal with entries := s.journal.entries.map fun y => if y.index = e.index then
      { e with change := .void, bodyState := .ready, fill := none, refillTag := none } else y }
    body := bodyAfter s.body [e]
    sli := { s.sli with stats := { s.sli.stats with voids := s.sli.stats.voids + 1 } } } := by
  have twice : ∀ (l : List JEntry) (a b : JEntry), b.index = e.index →
      (l.map ((fun x => if x.index = e.index then a else x) ∘ fun x => if x.index = e.index then b else x))
        = l.map fun x => if x.index = e.index then a else x := by
    intro l a b hb; congr 1; funext y; simp only [Function.comp]; by_cases hy : y.index = e.index <;> simp [hy, hb]
  rw [← State.releaseSlots_body]
  simp only [State.convertVoid, State.releaseSlots]; split
  · rfl
  · simp only [State.putEntry, State.setJournal, State.setBody, State.setStats, List.map_map]
    rw [twice _ _ { e with fill := none } rfl]; rfl

theorem State.foldTake_map (l : List JEntry) : ∀ s : State, (l.foldl State.takeOut s).map = mapAfter s.map l := by
  induction l with
  | nil => intro s; rw [mapAfter_nil]; rfl
  | cons e l ih => intro s; rw [List.foldl_cons, ih, State.takeOut_map, ← mapAfter_cons]

theorem State.foldTake_body (l : List JEntry) : ∀ s : State, (l.foldl State.takeOut s).body = bodyAfter s.body l := by
  induction l with
  | nil => intro s; rw [bodyAfter_nil]; rfl
  | cons e l ih => intro s; rw [List.foldl_cons, ih, State.takeOut_eq, ← bodyAfter_cons]

theorem State.foldRemove_map (l : List JEntry) : ∀ s : State, (l.foldl State.removeEntry s).map = mapAfter s.map l := by
  induction l with
  | nil => intro s; rw [mapAfter_nil]; rfl
  | cons e l ih => intro s; rw [List.foldl_cons, ih, State.removeEntry_eq, ← mapAfter_cons]

theorem State.foldRemove_body (l : List JEntry) : ∀ s : State, (l.foldl State.removeEntry s).body = bodyAfter s.body l := by
  induction l with
  | nil => intro s; rw [bodyAfter_nil]; rfl
  | cons e l ih => intro s; rw [List.foldl_cons, ih, State.removeEntry_eq, ← bodyAfter_cons]

/-! ## The refill queue (R72) -/

theorem State.refillDue_eq (s : State) (e : JEntry) : s.refillDue e = dueForRefill s e := by
  have parked : ∀ p : BodyState, decide (p = .parked) = (p == .parked) := by intro p; cases p <;> rfl
  have equal : ∀ a b : TrunkState, decide (a = b) = (a == b) := by intro a b; cases a <;> cases b <;> rfl
  simp only [State.refillDue, dueForRefill, State.available, State.cursor, State.entriesOf, List.find?_filter, parked,
    equal, Bool.decide_and, Bool.decide_eq_true]

theorem mem_rankInsert (rank : Nat → Nat) (x i : Nat) (l : List Nat) : i ∈ rankInsert rank x l ↔ i = x ∨ i ∈ l := by
  induction l with
  | nil => simp [rankInsert]
  | cons y r ih =>
    unfold rankInsert; split
    · simp
    · simp [ih]; tauto

theorem mem_rankSort (rank : Nat → Nat) (i : Nat) (l : List Nat) : i ∈ rankSort rank l ↔ i ∈ l := by
  induction l with
  | nil => simp [rankSort]
  | cons y r ih =>
    show i ∈ rankInsert rank y (rankSort rank r) ↔ _
    rw [mem_rankInsert, ih]; simp

/-- What bringing the refill queue up to date leaves. -/
theorem State.refillRefresh_eq (s : State) : ∃ joining n,
    s.refillRefresh = { s with
      body := { s.body with refillQueue := (s.body.refillQueue.filter fun i =>
        s.journal.entries.any fun e => e.index == i && dueForRefill s e) ++ joining }
      freeCount := n }
    ∧ ∀ i ∈ joining, i ∉ s.body.refillQueue := by
  refine ⟨rankSort (Config.refillRank s.freeCount) (((s.journal.entries.filter s.refillDue).map (·.index)).filter
    fun i => !s.body.refillQueue.contains i), s.refillRefresh.freeCount, ?_, ?_⟩
  · have kept : (s.body.refillQueue.filter fun i => s.journal.entries.any fun e => e.index == i && dueForRefill s e)
        = s.body.refillQueue.filter ((s.journal.entries.filter s.refillDue).map (·.index)).contains := by
      congr 1; funext i
      rw [Bool.eq_iff_iff]
      simp [State.refillDue_eq, and_comm, and_left_comm]
    rw [kept]; rfl
  · intro i hi; rw [mem_rankSort] at hi; simp at hi; exact hi.2

theorem dueForRefill_congr {s u : State} (entries : u.journal.entries = s.journal.entries) (ports : u.ports = s.ports)
    (e : JEntry) : dueForRefill u e = dueForRefill s e := by simp only [dueForRefill, State.port, entries, ports]

theorem RefillCurrent.congr {s u : State} (entries : u.journal.entries = s.journal.entries) (ports : u.ports = s.ports)
    (queue : u.body.refillQueue = s.body.refillQueue) (h : RefillCurrent s) : RefillCurrent u := by
  intro i; rw [queue, h i, entries]; simp only [dueForRefill_congr entries ports]

theorem State.refillRefresh_current (s : State) : RefillCurrent s.refillRefresh := by
  intro i
  show i ∈ (s.body.refillQueue.filter ((s.journal.entries.filter s.refillDue).map (·.index)).contains)
    ++ rankSort _ (((s.journal.entries.filter s.refillDue).map (·.index)).filter fun i => !s.body.refillQueue.contains i)
    ↔ _
  have due : (∃ e ∈ s.refillRefresh.journal.entries, e.index = i ∧ dueForRefill s.refillRefresh e = true)
      ↔ i ∈ (s.journal.entries.filter s.refillDue).map (·.index) := by
    simp only [List.mem_map, List.mem_filter, State.refillDue_eq]
    constructor
    · rintro ⟨e, h, rfl, hd⟩; exact ⟨e, ⟨h, hd⟩, rfl⟩
    · rintro ⟨e, ⟨h, hd⟩, rfl⟩; exact ⟨e, h, rfl, hd⟩
  rw [due, List.mem_append, mem_rankSort, List.mem_filter, List.mem_filter]
  by_cases hq : i ∈ s.body.refillQueue <;> simp [hq]

/-! ## The slot arbiter (R145) -/

theorem rankInsert_nodup (rank : Nat → Nat) (x : Nat) (l : List Nat) (hx : x ∉ l) (hl : l.Nodup) :
    (rankInsert rank x l).Nodup := by
  induction l with
  | nil => simp [rankInsert]
  | cons y r ih =>
    unfold rankInsert
    split
    · exact List.nodup_cons.2 ⟨hx, hl⟩
    · rw [List.mem_cons, not_or] at hx
      refine List.nodup_cons.2 ⟨?_, ih hx.2 (List.nodup_cons.1 hl).2⟩
      rw [mem_rankInsert, not_or]
      exact ⟨fun h => hx.1 h.symm, (List.nodup_cons.1 hl).1⟩

theorem rankSort_nodup (rank : Nat → Nat) (l : List Nat) (hl : l.Nodup) : (rankSort rank l).Nodup := by
  induction l with
  | nil => exact List.nodup_nil
  | cons x l ih =>
    rw [List.nodup_cons] at hl
    exact rankInsert_nodup rank x _ (fun h => hl.1 ((mem_rankSort rank x l).1 h)) (ih hl.2)

/-- A record that stands on no list and wants a slot is one of the table's: a record at reset wants none. -/
theorem ApplyUnit.mem_unlisted (a : ApplyUnit) (k : Nat) :
    k ∈ a.unlisted ↔ (a.records.get .reset k).wantsSlot = true ∧ k ∉ a.granted ∧ k ∉ a.waitList := by
  have listed : (a.records.get .reset k).wantsSlot = true → k ∈ a.records.map (·.1) := by
    intro h
    by_contra absent
    have hl : a.records.lookup k = none := by
      rw [List.lookup_eq_none_iff]
      intro e he
      rw [bne_iff_ne]
      rintro rfl
      exact absent (List.mem_map_of_mem he)
    rw [Table.get, hl] at h
    exact absurd h (by decide)
  simp only [ApplyUnit.unlisted, List.mem_filter, Bool.and_eq_true, Bool.not_eq_true', List.contains_eq_mem,
    decide_eq_false_iff_not]
  constructor
  · rintro ⟨_, ⟨h, g⟩, l⟩; exact ⟨h, g, l⟩
  · rintro ⟨h, g, l⟩; exact ⟨listed h, ⟨h, g⟩, l⟩

/-- What handing on a freed slot leaves. -/
theorem State.offerSlots_eq (s : State) : ∃ joining n,
    s.offerSlots = { s with
      apply := ApplyUnit.handSlots { s.apply with waitList := s.apply.waitList ++ joining }
      freeCount := n }
    ∧ (∀ k, k ∈ joining ↔ (s.inRec k).wantsSlot = true ∧ k ∉ s.apply.granted ∧ k ∉ s.apply.waitList)
    ∧ ((s.apply.records.map (·.1)).Nodup → joining.Nodup) :=
  ⟨rankSort (Config.waitRank s.freeCount) s.apply.unlisted, s.offerSlots.freeCount, rfl,
    fun k => (mem_rankSort _ k _).trans (s.apply.mem_unlisted k),
    fun h => rankSort_nodup _ _ (h.filter _)⟩

/-- Giving up slots changes nothing but the arbiter's lists. -/
theorem State.returnSlots_none (s : State) (gone : Nat → Bool) (h : ∀ k ∈ s.apply.granted, gone k = false) :
    s.returnSlots gone = s := by
  unfold State.returnSlots
  rw [if_neg]
  simpa using h

theorem State.returnSlots_some (s : State) (gone : Nat → Bool) (h : ∃ k ∈ s.apply.granted, gone k = true) :
    s.returnSlots gone = State.offerSlots { s with
      apply := { s.apply with granted := s.apply.granted.filter fun k => !gone k } } := by
  unfold State.returnSlots
  rw [if_pos]
  · rfl
  · simpa using h

/-! ## A new piece (R24, R25, R122, R170) -/

/-- What the take of a segment leaves: the entries move, and nothing else changes. -/
theorem State.takePiece_segment (s : State) (t : Trunk) (e : JEntry) (i : Nat) (h : e.peers.get t = some (.sending i)) :
    s.takePiece t e = (segmentPayload (segmentOf e i), e.afterSegment t i, s.putEntry (e.afterSegment t i)) := by
  unfold State.takePiece
  rw [h]

/-- What the take of a NOTICE leaves: the entries, and the count of entries begun; at a seal the bucket and the map record
too. -/
theorem State.takePiece_notice (s : State) (t : Trunk) (e : JEntry) (h : ∀ i, e.peers.get t ≠ some (.sending i)) :
    let x := s.takePiece t e
    x.2.2 = { s with
      journal := { s.journal with entries := x.2.2.journal.entries }
      buckets := x.2.2.buckets
      map := x.2.2.map
      ports := s.ports.set t { s.port t with stats := { (s.port t).stats with
        entriesBegun := (s.port t).stats.entriesBegun + 1 } } }
    ∧ x.2.1.handle = e.handle := by
  intro x
  simp only [x]
  unfold State.takePiece
  split
  · rename_i i hi; exact absurd hi (h i)
  · cases hs : e.seq
    · exact ⟨rfl, by simp only [State.sealedEntry, hs]; rfl⟩
    · exact ⟨rfl, by simp only [State.sealedEntry, hs]; rfl⟩

/-- What the leaving of a new CARRY frame leaves. -/
theorem State.sendPiece_eq (s : State) (t : Trunk) (moment : Nat) (payload : List Byte) (e : JEntry) :
    let p := s.port t
    let f := carryFrame p.nextFrame payload
    let u := s.sendPiece t moment payload e
    u = { s with
      journal := { s.journal with entries := u.journal.entries }
      ports := s.ports.set t { p with
        nextFrame := p.nextFrame + 1
        store := p.store ++ [⟨p.nextFrame, f, e.handle, moment, moment, false⟩]
        line := p.line ++ [f]
        stats := { p.stats with framesSent := p.stats.framesSent + 1 } }
      sups := if p.store = [] then s.sups.set t { s.sup t with
          stall := some ⟨s.now, p.config.stallTime * 1000000000⟩ }
        else s.sups } := by
  intro p f u
  simp only [u]
  unfold State.sendPiece
  dsimp only
  by_cases h : p.store = []
  · rw [if_pos (by rw [show (s.port t).store = [] from h]; rfl), if_pos h]
    simp only [State.emit, State.startStall, State.setSup, State.setPort, State.port, State.sup, Quad.set_set, Quad.get_set_self, Config.nsPerMs, Nat.mul_assoc]
    rfl
  · rw [if_neg (by simpa using h), if_neg h]
    simp only [State.emit, State.setPort, State.port, Quad.set_set, Quad.get_set_self]
    rfl

/-! ## Counted events (R156, R157) -/

theorem State.countEvent_atLimit (s : State) (t : Trunk) (c : CounterName) (h : 255 ≤ (s.sup t).counters.get c) :
    s.countEvent t c = { s with sli := s.sli.saturated t c 1 } := by
  simp only [State.countEvent, if_neg (Nat.not_lt.2 h), Sli.saturated, Sli.reportIf, Sli.report]
  show s.setSli _ = s.setSli _
  congr 1
  cases hm : (s.sli.mask.trunk.get t).counterSat
  · simp
  · simp [Config.reportLimit]; rfl

theorem Sli.saturated_next (x : Sli) (t : Trunk) (c : CounterName) (n : Nat) :
    x.saturated t c (n + 1) = (x.saturated t c 1).saturated t c n := rfl

/-- What n RESEND events leave. -/
theorem State.countResends_eq (t : Trunk) (n : Nat) : ∀ s : State, (s.sup t).counters.resend ≤ 255 →
    s.countEvents t .resend n = { s with
      sups := s.sups.set t { s.sup t with
        counters := { (s.sup t).counters with resend := min 255 ((s.sup t).counters.resend + n) } }
      sli := s.sli.saturated t .resend ((s.sup t).counters.resend + n - 255) } := by
  induction n with
  | zero =>
    intro s h
    have low : min 255 ((s.sup t).counters.resend + 0) = (s.sup t).counters.resend := by omega
    have none : (s.sup t).counters.resend + 0 - 255 = 0 := by omega
    rw [low, none]
    show s = { s with sups := s.sups.set t (s.sups.get t) }
    rw [Quad.set_get]
  | succ n ih =>
    intro s h
    show (s.countEvent t .resend).countEvents t .resend n = _
    by_cases below : (s.sups.get t).counters.resend < 255
    · have one : s.countEvent t .resend = { s with sups := s.sups.set t { s.sup t with
          counters := { (s.sup t).counters with resend := (s.sup t).counters.resend + 1 } } } := if_pos below
      rw [one, ih]
      · simp only [State.sup, Quad.get_set_self, Quad.set_set]
        rw [show (s.sups.get t).counters.resend + 1 + n = (s.sups.get t).counters.resend + (n + 1) by omega]
      · simp only [State.sup, Quad.get_set_self]; omega
    · have atLimit : 255 ≤ (s.sup t).counters.resend := Nat.not_lt.1 below
      rw [State.countEvent_atLimit s t .resend atLimit, ih ({ s with sli := s.sli.saturated t .resend 1 }) h]
      rw [show ({ s with sli := s.sli.saturated t .resend 1 } : State).sup t = s.sup t from rfl,
        show min 255 ((s.sup t).counters.resend + n) = min 255 ((s.sup t).counters.resend + (n + 1)) by omega,
        show (s.sup t).counters.resend + (n + 1) - 255 = ((s.sup t).counters.resend + n - 255) + 1 by omega,
        Sli.saturated_next s.sli t .resend ((s.sup t).counters.resend + n - 255)]

/-! ## Arrivals (R82, R95, R160) -/

theorem TrunkState.locking_eq (x : TrunkState) : x.locking = decide (x ∈ [TrunkState.hunt, .align, .running, .resync]) := by
  cases x <;> rfl

theorem State.reported_eq (s : State) (t : Trunk) (m : Marks) :
    s.reported t true m = s.arrivedWith t m.looped m.foreign m.peer := by
  simp only [State.reported, State.reportArrival, State.countArrival, State.arrivedWith, Tally.add]; rfl

theorem State.otherArrival_eq (s : State) (t : Trunk) : s.otherArrival t = s.passedLock t := by
  simp only [State.otherArrival, State.passedLock, State.lockStep, TrunkState.locking_eq, decide_eq_true_eq]; rfl

/-- An arrival in a state other than OFF and TEST is handled. -/
theorem State.arrival_eq (s : State) (t : Trunk) (handle : State → State) (off : (s.port t).state ≠ .off)
    (test : (s.port t).state ≠ .test) : s.arrival t handle = handle s := by
  simp only [State.arrival]

@[simp] theorem State.arrivedWith_port (s : State) (t : Trunk) (a b c : Bool) : (s.arrivedWith t a b c).port t = { s.port t with
    rxPos := (s.port t).rxPos + 1
    stats := { (s.port t).stats with framesReceived := (s.port t).stats.framesReceived + 1 } } := by
  simp [State.arrivedWith, State.port]

end Sys2Proof.Machine
end

