-- ==== Sys2Proof/Laws/Cycle.lean ====
section
/-! SUPPORT. What the events of a cycle start do, in the words of Safety.lean: the staged fields, the close of a period,
the count of cycles, and identifications taken (R83, R97, R161 to R168). -/

set_option Elab.async false

namespace Sys2Proof.Machine

/-- What n events of a counter's kind leave: the trunk's counters and the link alone change (R156, R157). -/
theorem State.countEvents_frame (t : Trunk) (c : CounterName) (n : Nat) : ∀ s : State, ∃ k y,
    s.countEvents t c n = (s.setSup t { s.sup t with counters := k }).setSli y := by
  induction n with
  | zero =>
    intro s
    refine ⟨(s.sup t).counters, s.sli, ?_⟩
    show s = { s with sups := s.sups.set t (s.sups.get t) }
    rw [Quad.set_get]
  | succ n ih =>
    intro s
    obtain ⟨k, y, h⟩ := ih (s.countEvent t c)
    refine ⟨k, y, ?_⟩
    rw [show s.countEvents t c (n + 1) = (s.countEvent t c).countEvents t c n from rfl, h]
    unfold State.countEvent; dsimp only
    split
    · simp [State.setSup, State.setSli, State.sup]
    · rfl

/-- The staged fields in force, as one update (R111). -/
theorem Port.stagedInForce_eq (p : Port) :
    p.stagedInForce = { p with config := { p.config with paced := p.staged.getD p.config.paced }, staged := none } := by
  unfold Port.stagedInForce
  split
  · next h => rw [h, Option.getD_none, ← h]
  · next h => rw [h, Option.getD_some]

/-- What the staged fields' coming into force changes: the port, the counters of the trunk, and the link (R111). -/
theorem State.stagedStart_frame (s : State) (t : Trunk) : ∃ k y, s.stagedStart t =
    ((s.setPort t ((s.port t).stagedStarted s.now)).setSup t { s.sup t with counters := k }).setSli y :=
  State.countEvents_frame t .resend _ _

/-- The staged fields come into force: the counter and the link follow the frames that join (R111, R124, R156, R157). -/
theorem State.stagedStart_eq (s : State) (t : Trunk) (h : (s.sup t).counters.resend ≤ 255) :
    let n := (s.sup t).counters.resend + (s.port t).store.countP ((s.port t).joinsAt s.now)
    s.stagedStart t = ((s.setPort t ((s.port t).stagedStarted s.now)).setSup t
      { s.sup t with counters := { (s.sup t).counters with resend := min 255 n } }).setSli
        (s.sli.saturated t .resend (n - 255)) :=
  State.countResends_eq t _ (s.setPort t ((s.port t).stagedStarted s.now)) h

/-- The supervisor after its period closes (R160 to R163, R165, R167). -/
theorem State.closePeriod_frame (s : State) (t : Trunk) : ∃ y, s.closePeriod t = (s.setSup t
    (let x := s.sup t
     let z := x.closed x.tally.signature
     if z.runLength = 5 then z.identified x.tally.signature else z)).setSli y := by
  unfold State.closePeriod; dsimp only
  split
  · exact ⟨_, rfl⟩
  · split
    · exact ⟨s.sli, rfl⟩
    · exact ⟨_, rfl⟩

/-! ## The port and the supervisor after each event -/

theorem State.stagedStart_port (s : State) (t : Trunk) : (s.stagedStart t).port t = (s.port t).stagedStarted s.now := by
  obtain ⟨k, y, h⟩ := s.stagedStart_frame t
  rw [h]; simp

theorem State.stagedStart_sup (s : State) (t : Trunk) : ∃ k, (s.stagedStart t).sup t = { s.sup t with counters := k } := by
  obtain ⟨k, y, h⟩ := s.stagedStart_frame t
  exact ⟨k, by rw [h]; simp⟩

/-- The port at the R97 test and the count of cycles (R96, R97, R114). -/
def Port.cycleCounted (p : Port) : Port :=
  if p.state = .align then
    if p.readyToRun then { p with state := .running, nextFrame := 0, expectedFrame := 0, runCycle := 0 }
    else { p with alignCycle := p.alignCycle + 1 }
  else if p.state.up then { p with runCycle := p.runCycle + 1 }
  else p

theorem State.countCycle_port (s : State) (t : Trunk) : (s.countCycle t).port t = (s.port t).cycleCounted := by
  unfold State.countCycle Port.cycleCounted; dsimp only
  split
  · split
    · simp [State.enterRunning, State.port]
    · simp
  · split <;> simp

/-- The R97 test stops the resync timer where it passes (R97, R169). -/
theorem State.countCycle_sup (s : State) (t : Trunk) : (s.countCycle t).sup t =
    if (s.port t).state = .align ∧ (s.port t).readyToRun = true then { s.sup t with resync := none } else s.sup t := by
  unfold State.countCycle; dsimp only
  by_cases h : (s.port t).state = .align <;> by_cases r : (s.port t).readyToRun = true
  · simp [h, r, State.enterRunning, State.sup]
  · simp [h, r]
  · simp [h]; split <;> simp
  · simp [h]; split <;> simp

/-- In DOWN and FAULTED no cycle is counted and the R97 test is not made. -/
theorem State.countCycle_idle (s : State) (t : Trunk) (h : (s.port t).state = .down ∨ (s.port t).state = .faulted) :
    s.countCycle t = s := by
  unfold State.countCycle; rcases h with h | h <;> simp [h, TrunkState.up]

theorem State.trunkRestart_port (s : State) (t : Trunk) (g : TrunkState) (c : Option Signature) :
    (s.trunkRestart t g c).port t = (s.port t).restarted s.now g := by
  simp [State.trunkRestart, State.port]

theorem State.trunkRestart_sup (s : State) (t : Trunk) (g : TrunkState) (c : Option Signature) :
    (s.trunkRestart t g c).sup t = (s.sup t).restarted c := by simp [State.trunkRestart, State.sup]

theorem State.moveDown_port (s : State) (t : Trunk) : (s.moveDown t).port t = (s.port t).restarted s.now .down := by
  rw [State.moveDown, State.port_latchTrunk, State.trunkRestart_port]

theorem State.moveDown_sup (s : State) (t : Trunk) : (s.moveDown t).sup t = (s.sup t).restarted none := by
  rw [State.moveDown, State.sup_latchTrunk, State.trunkRestart_sup]

theorem State.moveFaulted_port (s : State) (t : Trunk) (c : Signature) :
    (s.moveFaulted t c).port t = (s.port t).restarted s.now .faulted := by
  rw [State.moveFaulted, State.port_latchTrunk, State.trunkRestart_port]

theorem State.moveFaulted_sup (s : State) (t : Trunk) (c : Signature) :
    (s.moveFaulted t c).sup t = (s.sup t).restarted (some c) := by
  rw [State.moveFaulted, State.sup_latchTrunk, State.trunkRestart_sup]

theorem TrunkState.locking_iff (x : TrunkState) : x.locking = true ↔ x ∈ [TrunkState.hunt, .align, .running, .resync] := by
  rw [TrunkState.locking_eq, decide_eq_true_eq]

theorem movesTrunk_silent (st : TrunkState) : movesTrunk st .silent ↔ st.locking = true := by
  cases st <;> simp [movesTrunk, TrunkState.locking]

theorem movesTrunk_wrong (st : TrunkState) {g : Signature} (h : g = .looped ∨ g = .foreign) :
    movesTrunk st g ↔ st.locking = true ∨ st = .down := by
  rcases h with rfl | rfl <;> cases st <;> simp [movesTrunk, TrunkState.locking]

/-- An identification that moves the trunk takes it to DOWN or to FAULTED (Table 8-3). -/
theorem State.consequence_moves (s : State) (t : Trunk) (g : Signature) (h : movesTrunk (s.port t).state g) :
    (g = .silent ∧ s.consequence t g = s.moveDown t) ∨ (g ≠ .silent ∧ s.consequence t g = s.moveFaulted t g) := by
  unfold State.consequence
  rcases h with ⟨rfl, h⟩ | ⟨rfl | rfl, h⟩
  · left; simp [(TrunkState.locking_iff _).2 h]
  · right; have := (movesTrunk_wrong (s.port t).state (.inl rfl)).1 (.inr ⟨.inl rfl, h⟩); simp [this]
  · right; have := (movesTrunk_wrong (s.port t).state (.inr rfl)).1 (.inr ⟨.inr rfl, h⟩); simp [this]

/-- An identification that does not move the trunk changes the fault cause at most (Table 8-3). -/
theorem State.consequence_stays (s : State) (t : Trunk) (g : Signature) (h : ¬ movesTrunk (s.port t).state g) :
    ∃ c, s.consequence t g = s.setSup t { s.sup t with faultCause := c } := by
  have same : s = s.setSup t { s.sup t with faultCause := (s.sup t).faultCause } := by
    show s = { s with sups := s.sups.set t (s.sups.get t) }
    rw [Quad.set_get]
  unfold State.consequence; dsimp only
  cases g with
  | silent => rw [movesTrunk_silent] at h; simp only [h]; exact ⟨_, same⟩
  | looped =>
    rw [movesTrunk_wrong _ (.inl rfl)] at h
    simp only [decide_eq_true_eq, Bool.or_eq_true, h, if_false]
    split
    · exact ⟨_, rfl⟩
    · exact ⟨_, same⟩
  | foreign =>
    rw [movesTrunk_wrong _ (.inr rfl)] at h
    simp only [decide_eq_true_eq, Bool.or_eq_true, h, if_false]
    split
    · exact ⟨_, rfl⟩
    · exact ⟨_, same⟩
  | garbled => exact ⟨_, same⟩
  | stalled => exact ⟨_, same⟩
  | clean => exact ⟨_, same⟩

/-- The oldest request taken, where it does not move the trunk (R167). -/
theorem State.takeRequest_stays (s : State) (t : Trunk) (g : Signature) (rest : List Signature)
    (hr : (s.sup t).requests = g :: rest) (h : ¬ movesTrunk (s.port t).state g) :
    ∃ c, s.takeRequest t = s.setSup t { s.sup t with requests := rest, faultCause := c } := by
  obtain ⟨c, e⟩ := (s.setSup t { s.sup t with requests := rest }).consequence_stays t g h
  refine ⟨c, ?_⟩
  unfold State.takeRequest
  rw [hr]
  show (s.setSup t { s.sup t with requests := rest }).consequence t g = _
  rw [e]; simp [State.setSup, State.sup]

/-- Requests of which none moves the trunk change the supervisor alone (R167). -/
theorem State.takeSome_stay (s : State) (t : Trunk) (l : List Signature) (hr : (s.sup t).requests = l)
    (h : ∀ g ∈ l, ¬ movesTrunk (s.port t).state g) : ∀ k, k ≤ l.length →
    ∃ c, Nat.repeat (fun u => State.takeRequest u t) k s
      = s.setSup t { s.sup t with requests := l.drop k, faultCause := c } := by
  intro k
  induction k with
  | zero =>
    intro _
    refine ⟨(s.sup t).faultCause, ?_⟩
    rw [List.drop_zero, ← hr]
    show s = { s with sups := s.sups.set t (s.sups.get t) }
    rw [Quad.set_get]
  | succ k ih =>
    intro hk
    obtain ⟨c, e⟩ := ih (by omega)
    have hlt : k < l.length := by omega
    have hd : l.drop k = l[k] :: l.drop (k + 1) := (List.drop_eq_getElem_cons hlt)
    show ∃ c, State.takeRequest (Nat.repeat (fun u => State.takeRequest u t) k s) t = _
    rw [e]
    obtain ⟨c', e'⟩ := (s.setSup t { s.sup t with requests := l.drop k, faultCause := c }).takeRequest_stays t l[k]
      (l.drop (k + 1)) (by rw [State.sup_setSup_self]; exact hd) (h _ (List.getElem_mem hlt))
    exact ⟨c', by rw [e']; simp [State.setSup, State.sup]⟩

/-- Requests of which none moves the trunk, all taken: none is left (R167). -/
theorem State.takeRequests_stay (s : State) (t : Trunk) (h : ∀ g ∈ (s.sup t).requests, ¬ movesTrunk (s.port t).state g) :
    ∃ c, s.takeRequests t = s.setSup t { s.sup t with requests := [], faultCause := c } := by
  obtain ⟨c, e⟩ := s.takeSome_stay t _ rfl h _ (Nat.le_refl _)
  rw [List.drop_length] at e
  exact ⟨c, e⟩

/-- The trunk has been moved to DOWN or FAULTED by an identification: its port and its supervisor as the trunk restart
leaves them (R90, R176). -/
structure State.Moved (s : State) (t : Trunk) : Prop where
  goal : (s.port t).state = .down ∨ (s.port t).state = .faulted
  staged : (s.port t).staged = none
  store : (s.port t).store = []
  tally : (s.sup t).tally = .empty
  latest : (s.sup t).latest = none
  history : (s.sup t).history = []
  runSignature : (s.sup t).runSignature = none
  runLength : (s.sup t).runLength = 0

/-- What stands of a moved trunk does not rest on its requests or its fault cause. -/
theorem State.Moved.setRequests {s : State} {t : Trunk} (h : s.Moved t) (l : List Signature) (c : Option Signature) :
    (s.setSup t { s.sup t with requests := l, faultCause := c }).Moved t :=
  ⟨by simpa using h.goal, by simpa using h.staged, by simpa using h.store, by simpa using h.tally, by simpa using h.latest,
    by simpa using h.history, by simpa using h.runSignature, by simpa using h.runLength⟩

theorem Port.restarted_staged (p : Port) (now : Nat) (g : TrunkState) : (p.restarted now g).staged = none := by
  unfold Port.restarted; rw [Port.stagedInForce_eq]

theorem State.moveDown_moved (s : State) (t : Trunk) : (s.moveDown t).Moved t := by
  constructor <;> simp only [State.moveDown_port, State.moveDown_sup, Port.restarted_staged] <;> first | exact .inl rfl | rfl

theorem State.moveFaulted_moved (s : State) (t : Trunk) (c : Signature) : (s.moveFaulted t c).Moved t := by
  constructor <;> simp only [State.moveFaulted_port, State.moveFaulted_sup, Port.restarted_staged] <;>
    first | exact .inr rfl | rfl

theorem State.consequence_moved (s : State) (t : Trunk) (g : Signature) (h : movesTrunk (s.port t).state g) :
    (s.consequence t g).Moved t := by
  rcases s.consequence_moves t g h with ⟨-, e⟩ | ⟨-, e⟩ <;> rw [e]
  · exact s.moveDown_moved t
  · exact s.moveFaulted_moved t g

/-- Taking a request leaves a moved trunk moved. -/
theorem State.Moved.take {s : State} {t : Trunk} (h : s.Moved t) : (s.takeRequest t).Moved t := by
  cases hr : (s.sup t).requests with
  | nil => unfold State.takeRequest; rw [hr]; exact h
  | cons g rest =>
    by_cases hm : movesTrunk (s.port t).state g
    · unfold State.takeRequest; rw [hr]
      exact State.consequence_moved _ t g hm
    · obtain ⟨c, e⟩ := s.takeRequest_stays t g rest hr hm
      rw [e]; exact h.setRequests rest c

/-- What an identification's consequence keeps of the supervisor (R172, R176). -/
theorem State.consequence_sup (s : State) (t : Trunk) (g : Signature) :
    ((s.consequence t g).sup t).requests = (s.sup t).requests
    ∧ ((s.consequence t g).sup t).lastIdentified = (s.sup t).lastIdentified := by
  by_cases h : movesTrunk (s.port t).state g
  · rcases s.consequence_moves t g h with ⟨-, e⟩ | ⟨-, e⟩ <;> rw [e]
    · rw [State.moveDown_sup]; exact ⟨rfl, rfl⟩
    · rw [State.moveFaulted_sup]; exact ⟨rfl, rfl⟩
  · obtain ⟨c, e⟩ := s.consequence_stays t g h
    rw [e, State.sup_setSup_self]; exact ⟨rfl, rfl⟩

theorem State.takeRequest_sup (s : State) (t : Trunk) :
    ((s.takeRequest t).sup t).requests = (s.sup t).requests.drop 1
    ∧ ((s.takeRequest t).sup t).lastIdentified = (s.sup t).lastIdentified := by
  unfold State.takeRequest
  cases hr : (s.sup t).requests with
  | nil => exact ⟨hr, rfl⟩
  | cons g rest =>
    have := (s.setSup t { s.sup t with requests := rest }).consequence_sup t g
    rw [State.sup_setSup_self] at this
    exact this

/-- Every request taken: none is left, and the last identified signature stands (R165, R167). -/
theorem State.takeRequests_sup (s : State) (t : Trunk) :
    ((s.takeRequests t).sup t).requests = [] ∧ ((s.takeRequests t).sup t).lastIdentified = (s.sup t).lastIdentified := by
  have step : ∀ n, ((Nat.repeat (fun u => State.takeRequest u t) n s).sup t).requests = (s.sup t).requests.drop n
      ∧ ((Nat.repeat (fun u => State.takeRequest u t) n s).sup t).lastIdentified = (s.sup t).lastIdentified := fun n => by
    induction n with
    | zero => exact ⟨rfl, rfl⟩
    | succ n ih =>
      have := (Nat.repeat (fun u => State.takeRequest u t) n s).takeRequest_sup t
      rw [ih.1, ih.2, List.drop_drop] at this
      exact this
  have := step (s.sup t).requests.length
  rw [List.drop_length] at this
  exact this

/-- A request that moves the trunk is among those taken: the trunk is in DOWN or FAULTED (R167, Table 8-3). -/
theorem State.takeRequests_moved (s : State) (t : Trunk)
    (h : ∃ g ∈ (s.sup t).requests, movesTrunk (s.port t).state g) : (s.takeRequests t).Moved t := by
  have step : ∀ n (s : State), (s.sup t).requests.length = n → (∃ g ∈ (s.sup t).requests, movesTrunk (s.port t).state g) →
      (Nat.repeat (fun u => State.takeRequest u t) n s).Moved t := by
    have keep : ∀ n (s : State), s.Moved t → (Nat.repeat (fun u => State.takeRequest u t) n s).Moved t := fun n s hs => by
      induction n with
      | zero => exact hs
      | succ n ih => exact ih.take
    have shift : ∀ n (s : State), Nat.repeat (fun u => State.takeRequest u t) (n + 1) s
        = Nat.repeat (fun u => State.takeRequest u t) n (s.takeRequest t) := fun n => by
      induction n with
      | zero => intro s; rfl
      | succ n ih => intro s; exact congrArg (fun u => State.takeRequest u t) (ih s)
    intro n
    induction n with
    | zero => intro s hn ⟨g, hg, _⟩; rw [List.length_eq_zero_iff.1 hn] at hg; cases hg
    | succ n ih =>
      intro s hn ⟨g, hg, hm⟩
      rw [shift]
      cases hr : (s.sup t).requests with
      | nil => rw [hr] at hg; cases hg
      | cons g' rest =>
        by_cases hm' : movesTrunk (s.port t).state g'
        · apply keep
          unfold State.takeRequest; rw [hr]
          exact State.consequence_moved _ t g' hm'
        · obtain ⟨c, e⟩ := s.takeRequest_stays t g' rest hr hm'
          apply ih
          · rw [e, State.sup_setSup_self]; rw [hr] at hn; simpa using hn
          · rw [e, State.sup_setSup_self, State.port_setSup]
            rw [hr] at hg
            rcases List.mem_cons.1 hg with rfl | hg
            · exact absurd hm hm'
            · exact ⟨g, hg, hm⟩
  exact step _ s rfl h

end Sys2Proof.Machine
end

