-- ==== Sys2Proof/Laws/Records.lean ====
section
/-! SUPPORT. The stream from the host: what the assembler can do, and that its fuel is enough. -/

set_option Elab.async false

namespace Sys2Proof.Machine

/-- What the updates of the assembler and every record's act keep, the assembler keeps. -/
theorem State.assemble_keeps {P : State → Prop} (hasm : ∀ s i b, P s → P (s.setAsm i b))
    (hlatch : ∀ s, P s → P (s.setSli s.sli.latchLinkError)) (hfault : ∀ s, P s → P (s.linkFault .header))
    (hact : ∀ s c, P s → P (s.act c)) (fuel : Nat) : ∀ s, P s → P (s.assemble fuel) := by
  induction fuel with
  | zero => exact fun s h => h
  | succ n ih =>
    intro s h
    unfold State.assemble
    split
    · exact h
    · exact ih _ (hasm _ _ _ h)
    · exact ih _ (hasm _ _ _ (hlatch _ h))
    · exact ih _ (hasm _ _ _ h)
    · exact ih _ (hasm _ _ _ (hfault _ h))
    · exact ih _ (hasm _ _ _ (hact _ _ h))

/-- The same for bytes that arrive. -/
theorem State.receive_keeps {P : State → Prop} (hasm : ∀ s i b, P s → P (s.setAsm i b))
    (hlatch : ∀ s, P s → P (s.setSli s.sli.latchLinkError)) (hfault : ∀ s, P s → P (s.linkFault .header))
    (hact : ∀ s c, P s → P (s.act c)) (bytes : List Byte) (s : State) (h : P s) : P (s.receive bytes) :=
  State.assemble_keeps hasm hlatch hfault hact _ _ (hasm _ _ _ h)

/-- The same for a record that arrives. -/
theorem State.recordIn_keeps {P : State → Prop} (hasm : ∀ s i b, P s → P (s.setAsm i b))
    (hlatch : ∀ s, P s → P (s.setSli s.sli.latchLinkError)) (hfault : ∀ s, P s → P (s.linkFault .header))
    (hact : ∀ s c, P s → P (s.act c)) (c : Instr) (bytes : List Byte) (s : State) (h : P s) : P (s.recordIn c bytes) := by
  unfold State.recordIn
  split
  · exact hact _ _ h
  · exact State.receive_keeps hasm hlatch hfault hact _ _ h

/-- A record that finds no bytes held is taken whole. -/
theorem State.recordIn_clear (s : State) (c : Instr) (bytes : List Byte) (h : s.sli.asm.buf = []) :
    s.recordIn c bytes = s.act c := if_pos h

/-- A record that finds bytes held is the next bytes of the stream. -/
theorem State.recordIn_held (s : State) (c : Instr) (bytes : List Byte) (h : s.sli.asm.buf ≠ []) :
    s.recordIn c bytes = s.receive bytes := if_neg h

/-- What is left to do: two moves for each byte held, and one to turn SEARCH into IN-STEP. -/
def Assembler.work (x : Assembler) : Nat := 2 * x.buf.length + if x.inStep then 0 else 1

theorem moveInStep_record {buf : List Byte} {c : Instr} {n : Nat} (h : moveInStep buf = .record c n) :
    c = frontRecord buf ∧ n = recordLength buf ∧ n ≤ buf.length ∧ 20 ≤ n := by
  unfold moveInStep at h
  split at h
  · cases h
  · split at h
    · split at h
      · cases h
      · cases h
        refine ⟨rfl, rfl, by omega, ?_⟩
        unfold recordLength
        omega
    · cases h

theorem moveInStep_cases (buf : List Byte) :
    moveInStep buf = .wait ∨ moveInStep buf = .headerFault ∧ 16 ≤ buf.length ∨ ∃ c n, moveInStep buf = .record c n := by
  unfold moveInStep
  split
  · exact .inl rfl
  · split
    · split
      · exact .inl rfl
      · exact .inr (.inr ⟨_, _, rfl⟩)
    · exact .inr (.inl ⟨rfl, by omega⟩)

theorem moveInSearch_cases (buf : List Byte) :
    moveInSearch buf = .wait ∨ (moveInSearch buf = .pass ∨ moveInSearch buf = .candidateFails) ∧ 0 < buf.length
      ∨ moveInSearch buf = .headerFound ∧ 16 ≤ buf.length := by
  match buf with
  | [] => exact .inl rfl
  | [b] =>
    by_cases h : b = 0xC3#8
    · exact .inl (if_pos h)
    · exact .inr (.inl ⟨.inl (if_neg h), Nat.one_pos⟩)
  | b0 :: b1 :: rest =>
    by_cases h : b0 = 0xC3#8 ∧ b1 = 0x5A#8
    · by_cases hl : (b0 :: b1 :: rest).length < 16
      · exact .inl ((if_pos h).trans (if_pos hl))
      · by_cases hh : headerOk ((b0 :: b1 :: rest).take 16) = true
        · exact .inr (.inr ⟨(if_pos h).trans ((if_neg hl).trans (if_pos hh)), by omega⟩)
        · exact .inr (.inl ⟨.inr ((if_pos h).trans ((if_neg hl).trans (if_neg hh))), by simp⟩)
    · exact .inr (.inl ⟨.inl (if_neg h), by simp⟩)

/-- More fuel than there is work changes nothing. -/
theorem State.assemble_enough (fuel : Nat) :
    ∀ (s : State) (m : Nat), s.sli.asm.work < fuel → s.sli.asm.work < m → s.assemble fuel = s.assemble m := by
  induction fuel with
  | zero => intro s m h; omega
  | succ n ih =>
    intro s m h hm
    obtain ⟨k, rfl⟩ : ∃ k, m = k + 1 := ⟨m - 1, by omega⟩
    have step : ∀ u : State, u.sli.asm.work < s.sli.asm.work → u.assemble n = u.assemble k := fun u hu =>
      ih u k (by omega) (by omega)
    unfold State.assemble
    have hwork : s.sli.asm.work = 2 * s.sli.asm.buf.length + if s.sli.asm.inStep then 0 else 1 := rfl
    have drop : 0 < s.sli.asm.buf.length → ∀ u : State,
        (u.setAsm false (s.sli.asm.buf.drop 1)).sli.asm.work < s.sli.asm.work := by
      intro hl u
      rw [State.setAsm_asm, hwork]
      simp only [Assembler.work, List.length_drop]
      split <;> (try simp) <;> omega
    cases hi : s.sli.asm.inStep with
    | true =>
      have hmove : s.sli.asm.move = moveInStep s.sli.asm.buf := by unfold Assembler.move; rw [hi]; rfl
      rcases moveInStep_cases s.sli.asm.buf with h1 | ⟨h1, hl⟩ | ⟨c, l, h1⟩ <;> rw [hmove, h1] <;> dsimp only
      · exact step _ (drop (by omega) _)
      · obtain ⟨_, _, hle, h20⟩ := moveInStep_record h1
        refine step _ ?_
        rw [State.setAsm_asm, hwork, hi]
        simp only [Assembler.work, List.length_drop]
        simp
        omega
    | false =>
      have hmove : s.sli.asm.move = moveInSearch s.sli.asm.buf := by unfold Assembler.move; rw [hi]; rfl
      rcases moveInSearch_cases s.sli.asm.buf with h1 | ⟨h1 | h1, hl⟩ | ⟨h1, hl⟩ <;> rw [hmove, h1] <;> dsimp only
      · exact step _ (drop hl _)
      · exact step _ (drop hl _)
      · refine step _ ?_
        rw [State.setAsm_asm, hwork, hi]
        simp [Assembler.work]

/-- One move, then the rest: the assembler without its fuel. -/
theorem State.assembled_move (s : State) : s.assembled =
    match s.sli.asm.move with
    | .wait => s
    | .pass => (s.setAsm false (s.sli.asm.buf.drop 1)).assembled
    | .candidateFails => ((s.setSli s.sli.latchLinkError).setAsm false (s.sli.asm.buf.drop 1)).assembled
    | .headerFound => (s.setAsm true s.sli.asm.buf).assembled
    | .headerFault => ((s.linkFault .header).setAsm false (s.sli.asm.buf.drop 1)).assembled
    | .record c n => ((s.act c).setAsm true (s.sli.asm.buf.drop n)).assembled := by
  have hwork : ∀ u : State, u.sli.asm.work < 2 * u.sli.asm.buf.length + 2 := by
    intro u
    unfold Assembler.work
    split <;> omega
  have next : ∀ u : State, u.sli.asm.work < 2 * s.sli.asm.buf.length + 1 → u.assemble (2 * s.sli.asm.buf.length + 1) = u.assembled :=
    fun u hu => State.assemble_enough _ u _ hu (hwork u)
  have short : ∀ (i : Bool) (n : Nat) (u : State), 0 < n → 0 < s.sli.asm.buf.length →
      (u.setAsm i (s.sli.asm.buf.drop n)).sli.asm.work < 2 * s.sli.asm.buf.length + 1 := by
    intro i n u hn hl
    rw [State.setAsm_asm]
    simp only [Assembler.work, List.length_drop]
    split <;> omega
  conv_lhs => unfold State.assembled; unfold State.assemble
  cases hi : s.sli.asm.inStep with
  | true =>
    have hmove : s.sli.asm.move = moveInStep s.sli.asm.buf := by unfold Assembler.move; rw [hi]; rfl
    rcases moveInStep_cases s.sli.asm.buf with h1 | ⟨h1, hl⟩ | ⟨c, l, h1⟩ <;> rw [hmove, h1] <;> dsimp only
    · exact next _ (short _ _ _ (by omega) (by omega))
    · obtain ⟨_, _, hle, h20⟩ := moveInStep_record h1
      exact next _ (short _ _ _ (by omega) (by omega))
  | false =>
    have hmove : s.sli.asm.move = moveInSearch s.sli.asm.buf := by unfold Assembler.move; rw [hi]; rfl
    rcases moveInSearch_cases s.sli.asm.buf with h1 | ⟨h1 | h1, hl⟩ | ⟨h1, hl⟩ <;> rw [hmove, h1] <;> dsimp only
    · exact next _ (short _ _ _ (by omega) hl)
    · exact next _ (short _ _ _ (by omega) hl)
    · refine next _ ?_
      rw [State.setAsm_asm]
      simp [Assembler.work]

end Sys2Proof.Machine
end

