-- ==== Sys2Proof/Tests/Slice0.lean ====
section
/-! SUPPORT. Small tests: refused terms, the manual's worked figures, one step of each kind, and, for each statement, a
state and operands that meet its hypotheses. -/

set_option Elab.async false
set_option maxRecDepth 100000

namespace Sys2Proof.Machine.Tests

/-! ## WellFormed refuses -/

/-- A record with an undamaged body. -/
def wire (body : List Byte) : Wire := ⟨0x0102#16, body, bodyCheck body⟩

/-- A record whose body check is wrong. -/
def damagedWire (body : List Byte) : Wire := ⟨0x0102#16, body, bodyCheck body ^^^ 1#32⟩

theorem test_refuses_long_record :
    (Instr.setClock ⟨0#16, List.replicate 65521 0#8, 0#32⟩).wellFormed = false := by
  show decide ((List.replicate 65521 0#8).length ≤ 65520) = false
  rw [List.length_replicate]; rfl

theorem test_refuses_known_kind : (Instr.unknownKindRequest 0x15#8 ⟨0#16, [], 0#32⟩).wellFormed = false := by decide

theorem test_refuses_no_bytes : (Instr.headerFault []).wellFormed = false := by decide

theorem test_refuses_frame_number : (Instr.rtoExpiry .t0 281474976710655).wellFormed = false := by decide

theorem test_refuses_received_through :
    (Instr.serviceReceived .t0 ⟨some 281474976710655, List.replicate 256 false, []⟩).wellFormed = false := by decide

theorem test_refuses_marks : (Instr.serviceReceived .t0 ⟨none, List.replicate 255 false, []⟩).wellFormed = false := by
  simp [Instr.wellFormed, ServiceFrame.wellFormed]

theorem test_refuses_many_acks :
    (Instr.serviceReceived .t0 ⟨none, List.replicate 256 false, List.replicate 1001 ⟨0, 0, 0⟩⟩).wellFormed = false := by
  simp [Instr.wellFormed, ServiceFrame.wellFormed, Config.acksPerFrame]

theorem test_refuses_ack_fields :
    (EntryAck.wellFormed ⟨65536, 0, 0⟩, EntryAck.wellFormed ⟨0, 65536, 0⟩, EntryAck.wellFormed ⟨0, 0, 4294967296⟩)
      = (false, false, false) := by decide

theorem test_refuses_carry_number : (Instr.carryReceived .t0 281474976710656 []).wellFormed = false := by decide

theorem test_refuses_carry_payload : (Instr.carryReceived .t0 0 (List.replicate 8161 0#8)).wellFormed = false := by
  simp [Instr.wellFormed, Config.payloadBytes]

theorem test_refuses_test_payload : (Instr.testFrameReceived .t0 0#32 []).wellFormed = false := by decide

theorem test_refuses_bucket : (Instr.applyForward .t0 4096).wellFormed = false := by decide

/-! ## Figures of the manual -/

/-- Table 6-1: P, W and RTO of the four cases. -/
theorem test_table_6_1 :
    (framePeriodOf 4000 1, windowOf 240000 16384 16, rtoOf 240000 16384 16) = (16384, 14665, 300525)
    ∧ (framePeriodOf 10000 1, windowOf 240000 6554 16, rtoOf 240000 6554 16) = (6554, 32768, 300210)
    ∧ (framePeriodOf 4000 3, windowOf 240000 49152 16, rtoOf 240000 49152 16) = (49152, 4899, 301573)
    ∧ (framePeriodOf 1000 16, windowOf 1000 1048576 32, rtoOf 1000 1048576 32) = (1048576, 64, 68359) := by decide

/-- Table 2-6: the six rows, as mergePair gives them. -/
theorem test_table_2_6 :
    mergePair 90 100 5 100 9 = (100, 10, false) ∧ mergePair 90 100 5 80 2 = (100, 6, false)
    ∧ mergePair 90 100 5 120 4 = (120, 5, false) ∧ mergePair 130 100 5 95 7 = (130, 0, false)
    ∧ mergePair 90 100 65535 100 3 = (101, 0, true)
    ∧ mergePair 4398046511103 4398046511103 65535 4398046511103 0 = (4398046511103, 65535, false) := by decide

/-- Table 2-5, event 5: the clamp. -/
theorem test_skew_clamp : skewClamp 1000003 1000 1003000 9 = (1001003, 0, true)
    ∧ skewClamp 1000001 1000 1000400 3 = (1000400, 3, false) := by decide

/-- The packed stamp (1,000,400, 5, 5) and its fields (R33). -/
theorem test_stamp : packStamp 1000400 5 5 = 0x3D0F4000145#64 ∧ stampTime 0x3D0F4000145#64 = 1000400
    ∧ stampCounter 0x3D0F4000145#64 = 5 ∧ stampSite 0x3D0F4000145#64 = 5 := by decide

/-- Table 6-2: the plans that R112 names. -/
theorem test_plans : (Plan.fits ⟨0, 3, 4, 11, true⟩ 16, Plan.fits ⟨0, 5, 5, 11, true⟩ 16, Plan.fits ⟨0, 3, 4, 14, true⟩ 16,
    Plan.fits ⟨0, 3, 4, 11, true⟩ 8) = (true, false, false, false) := by decide

/-- The four checks of the nine digits 1 to 9, by their polynomials (Section 10.3, R62). -/
theorem test_checks :
    let digits : List Byte := [0x31#8, 0x32#8, 0x33#8, 0x34#8, 0x35#8, 0x36#8, 0x37#8, 0x38#8, 0x39#8]
    headerCheck digits = 0x29B1#16 ∧ bodyCheck digits = 0xE3069283#32 ∧ frameCheck digits = 0xCBF43926#32 := by decide

/-- The lowest free number. -/
theorem test_lowestFree : lowestFree 257 [258, 257, 260] = 259 := by decide

/-! ## States -/

/-- An incarnation stamp. -/
def inc : Stamp := 0x3D0F4000145#64

/-- The part with its site clock at 1,000 ms and site id 5. -/
def ready : State := { State.reset with clock := ⟨true, 1000, 0, 1000, some 5, some inc, 1000, 0⟩ }

/-- A port in a state, with peer site 7. -/
def portIn (st : TrunkState) : Port :=
  { Port.reset with state := st, config := { TrunkConfig.reset with peer := some 7 }, recorded := some inc }

/-- The ready part with T0 in a state. -/
def trunkIn (st : TrunkState) : State := ready.setPort .t0 (portIn st)

/-- A supervisor in FAULTED with a cause, its history five records of one kind. -/
def faultedSup (cause : Signature) (r : PeriodRec) : Supervisor :=
  { Supervisor.reset with faultCause := some cause, history := List.replicate 5 r }

/-- Every latch of T0 is reported. -/
def masked : Sli := { Sli.reset with mask := ⟨.clear, LatchSet.clear.trunk.set .t0 ⟨true, true, true, true, true, true, true, true⟩⟩ }

/-- An unsealed entry for T0 at position 0, generation 1. -/
def entry (c : Change) (st : BodyState) (f : Option Fill) : JEntry :=
  ⟨0, 1, 1, 9#128, inc, c, st, none, ⟨some .queued, none, none, none⟩, f, 0, none⟩

/-- A body of three bytes. -/
def three : Change := .body 3 (photoCheck [1#8, 2#8, 3#8]) 77#64 []

/-- Bucket 1 ACTIVE with target T0, on a ready part with T0 in a state. -/
def withBucket (st : TrunkState) : State :=
  (trunkIn st).setBucket 1 ⟨.active, ⟨true, false, false, false⟩, .express, 1, ⟨1, 0, 0, 0⟩, ⟨true, false, false, false⟩, false⟩

/-- The same with one entry in the journal and its record in the map. -/
def withEntry (st : TrunkState) (e : JEntry) : State :=
  { (withBucket st) with
    journal := ⟨[e], [(0, 1)]⟩
    map := [⟨1, 9#128, some inc, false, if e.seq.isNone then some ⟨0, 1⟩ else none, 1⟩]
    body := { BodyStore.reset with
      outUse := e.slotsHeld, reservation := if e.fill.isSome then [0] else [] } }

/-- A SUBMIT of three body bytes for bucket b and digest d, and a PATCH of one field. -/
def submitBody (b d : Nat) : List Byte :=
  beBytes 2 b ++ [1#8, 0#8] ++ beBytes 4 3 ++ beBytes 16 d ++ beBytes 8 5 ++ beBytes 8 77

def submitPatch (b d : Nat) : List Byte :=
  beBytes 2 b ++ [2#8, 1#8] ++ beBytes 4 0 ++ beBytes 16 d ++ beBytes 16 0 ++ [4#8, 1#8, 0xAB#8]

/-- A CHUNK of position 0, generation 1. -/
def chunkBody (offset : Nat) (data : List Byte) : List Byte := beBytes 4 1 ++ beBytes 4 offset ++ data

/-- An inbound entry for bucket 1 and digest 9 of a kind. -/
def inEntry (kind : Nat) (mapped : Bool) : InEntry :=
  ⟨⟨kind, false, 1, 3, 1, 0, 0, 9#128, 0x3D0F4000100#64, 0#64, []⟩, 0, 0, [], photoStart, mapped, true⟩

/-- The record of T0 and bucket 1 with a queue, and apply slots in use. -/
def withQueue (q : List InEntry) (flight : Option Nat) (held : Bool) (slots : List ApplySlot) : State :=
  { (trunkIn .running) with apply :=
    { ApplyUnit.reset with records := [(1, ⟨some 3, 2, 0, none, none, q, held, false, flight⟩)], backlog := 1, slots := slots } }

/-! ## One step -/

theorem test_powerOn_clears_trunk : ∃ u, exec .powerOnReset (trunkIn .running) = .next u ∧ u.ports = State.reset.ports :=
  ⟨_, rfl, rfl⟩

theorem test_setClock_clamps : ∃ u, exec (.setClock (wire (beBytes 8 7 ++ beBytes 4 0))) .reset = .next u
    ∧ u.clock = ⟨true, 7, 0, 10, none, none, 0, 0⟩ ∧ u.sli.replies.map (·.result) = [.clamped] :=
  ⟨_, rfl, by decide, by decide⟩

theorem test_setSite_issues : ∃ u, exec (.setSite (wire [5#8, 0#8, 0#8, 0#8]))
      { State.reset with clock := ⟨true, 1000, 0, 1000, none, none, 0, 0⟩ } = .next u
    ∧ u.clock.incarnation = some (packStamp 1000 0 5) ∧ u.sli.replies.map (·.result) = [.ok] :=
  ⟨_, rfl, by decide, by decide⟩

theorem test_bucketSet_creates :
    ∃ u, exec (.bucketSet (wire [0#8, 2#8, 1#8, 1#8, 1#8, 0#8, 0#8, 0#8])) (trunkIn .off) = .next u
    ∧ u.bucket 2 = ⟨.active, ⟨true, false, false, false⟩, .bulk, 1, ⟨1, 0, 0, 0⟩, ⟨true, false, false, false⟩, false⟩ :=
  ⟨_, rfl, by decide⟩

theorem test_submit_appends : ∃ u, exec (.submit (wire (submitBody 1 9))) (withBucket .off) = .next u
    ∧ u.journal.entries.map (fun e => (e.index, e.gen, e.bodyState)) = [(0, 1, .filling)] ∧ u.body.outUse = 1 :=
  ⟨_, rfl, by decide, by decide⟩

theorem test_chunk_completes :
    ∃ u, exec (.chunk (wire (chunkBody 0 [1#8, 2#8, 3#8]))) (withEntry .off (entry three .filling (some ⟨1, [], photoStart⟩)))
      = .next u ∧ u.journal.entries.map (·.bodyState) = [.ready] :=
  ⟨_, rfl, by decide⟩

theorem test_enable_hunts : ∃ u, exec (.trunkEnable (wire [0#8, 0#8, 0#8, 0#8])) (trunkIn .off) = .next u
    ∧ (u.port .t0).state = .hunt := ⟨_, rfl, by decide⟩

theorem test_fill_aligns : ∃ u, exec (.fillReceived .t0 ⟨7#8, inc, true⟩) (trunkIn .hunt) = .next u
    ∧ (u.port .t0).state = .align ∧ (u.sup .t0).resync = some ⟨0, 2000000000⟩ := ⟨_, rfl, by decide, by decide⟩

theorem test_frame_hunt : ∃ u, exec (.framePeriod .t0) (trunkIn .hunt) = .next u
    ∧ (u.port .t0).line.map (·.kind) = [4] ∧ (u.port .t0).position = 1 := ⟨_, rfl, by decide, by decide⟩

/-- What a cycle start comes to in every order of its events, the step comes to. -/
theorem cycleStart_every {s : State} {t : Trunk} {P : State → Prop} (h : (s.port t).state.supervised = true)
    (every : ∀ o, P ((s.beginCycle t).cycleEvents t o)) : ∃ u, exec (.cycleStart t) s = .next u ∧ P u :=
  ⟨s.startCycle t, by simp only [exec, execCycleStart, h, if_true], every _⟩

theorem test_silent_period : ∃ u, exec (.cycleStart .t0) (trunkIn .hunt) = .next u
    ∧ (u.sup .t0).latest = some .silent ∧ (u.sup .t0).runLength = 1 :=
  cycleStart_every rfl fun o => by cases o <;> decide

theorem test_ack_removes : ∃ u, exec (.serviceReceived .t0 ⟨none, [], [⟨1, 1, 1⟩]⟩)
      (((withEntry .running { entry .drop .ready none with seq := some 1 }).setBucket 1
        ⟨.active, ⟨true, false, false, false⟩, .express, 2, ⟨1, 0, 0, 0⟩, ⟨true, false, false, false⟩, false⟩)) = .next u
    ∧ u.journal.entries = [] ∧ (u.bucket 1).rebase = .all false := ⟨_, rfl, by decide, by decide⟩

theorem test_void_passes : ∃ u, exec (.applyForward .t0 1) (withQueue [inEntry 4 false] none false []) = .next u
    ∧ (u.inRec 1).applied = 1 ∧ (u.inRec 1).queue = [] := ⟨_, rfl, by decide, by decide⟩

theorem test_idle : ∃ u, step State.reset = .next u ∧ u.now = 1000000 := ⟨_, rfl, rfl⟩

/-! ## States that meet the hypotheses of the statements -/

theorem intact_wire {s : State} (b : List Byte) (h : s.sli.asm.buf = []) : Intact s (wire b) b.length := ⟨h, rfl, rfl⟩

theorem some_trunk (p : Trunk → Prop) : (∃ t, p t) ↔ p .t0 ∨ p .t1 ∨ p .t2 ∨ p .t3 :=
  ⟨fun ⟨t, h⟩ => by cases t <;> simp [h], fun h => by rcases h with h | h | h | h <;> exact ⟨_, h⟩⟩

theorem every_trunk (p : Trunk → Prop) : (∀ t, p t) ↔ p .t0 ∧ p .t1 ∧ p .t2 ∧ p .t3 :=
  ⟨fun h => ⟨h _, h _, h _, h _⟩, fun ⟨a, b, c, d⟩ t => by cases t <;> assumption⟩

/-- A four-byte body that starts with a byte. -/
def four (a : Nat) : Wire := wire (beBytes 1 a ++ beBytes 3 0)

theorem intact_four {s : State} (a : Nat) (h : s.sli.asm.buf = []) : Intact s (four a) 4 := ⟨h, rfl, rfl⟩

/-- The link with a report, a reply and a part record ready, or some of them. -/
def linkWith (rs : List Report) (ps qs : List LinkRecord) : State :=
  { ready with sli := { Sli.reset with asm := ⟨true, []⟩, reports := rs, replies := ps, partQueue := qs } }

/-- A reply, a BAD-CHECK record and an APPLY. -/
def aReply : LinkRecord := ⟨0x0E#8, false, true, 1, .ok, []⟩
def aBadCheck : LinkRecord := ⟨0x40#8, true, true, 1, .badCheck, []⟩
def anApply : LinkRecord := ⟨0x40#8, true, false, 1, .ok, []⟩

/-- The reply to a successful RESTART. -/
def restartReply : LinkRecord := ⟨0x15#8, false, true, 1, .ok, []⟩

/-- The part with its assembler in a state, holding bytes. -/
def holding (inStep : Bool) (bs : List Byte) : State := { ready with sli := { Sli.reset with asm := ⟨inStep, bs⟩ } }

theorem test_hyp_StepTakesFrontCommand : State.reset.pending = [] := rfl

theorem test_hyp_RequestTakenAndReplied :
    (∀ r ∈ (linkWith [] [aBadCheck] []).sli.replies, r.partTag = true)
    ∧ (linkWith [.linkError .header] [aBadCheck, aReply, aBadCheck] []).sli.replies = [aBadCheck] ++ aReply :: [aBadCheck]
    ∧ (aReply.partTag = false ∧ ∀ y ∈ [aBadCheck], y.partTag = true)
    ∧ (∃ r ∈ (linkWith [] [restartReply] []).sli.replies, r.partTag = false ∧ r.kind = 0x15#8 ∧ r.result = .ok)
    ∧ (∀ r ∈ (linkWith [] [aReply] []).sli.replies, ¬ (r.partTag = false ∧ r.kind = 0x15#8 ∧ r.result = .ok))
    ∧ (holding true [0#8]).sli.asm.buf ≠ [] := by decide

theorem test_hyp_PartRestart : (Intact ready (four 1) 4 ∧ fieldAt (four 1).body 0 1 = 1)
    ∧ (Intact ready (four 0) 4 ∧ fieldAt (four 0).body 0 1 ≠ 1) ∧ (Intact ready (four 2) 4 ∧ fieldAt (four 2).body 0 1 ≠ 1) :=
  ⟨⟨intact_four _ rfl, by decide⟩, ⟨intact_four _ rfl, by decide⟩, ⟨intact_four _ rfl, by decide⟩⟩

theorem test_hyp_DamagedAndMisfitRequests :
    ready.sli.asm.buf = []
    ∧ ((0x01#8, Instr.setClock) ∈ hostRequests ∧ bodyCheck (damagedWire [1#8]).body ≠ (damagedWire [1#8]).check)
    ∧ (bodyCheck (wire (beBytes 11 0)).body = (wire (beBytes 11 0)).check ∧ (wire (beBytes 11 0)).body.length ≠ 12)
    ∧ (bodyCheck (wire [0#8]).body = (wire [0#8]).check ∧ (wire [0#8]).body.length ≠ 0)
    ∧ (bodyCheck (wire (beBytes 7 0)).body = (wire (beBytes 7 0)).check ∧ (wire (beBytes 7 0)).body.length < 8)
    ∧ (bodyCheck (wire (List.replicate 65521 0#8)).body = (wire (List.replicate 65521 0#8)).check
      ∧ 65520 < (wire (List.replicate 65521 0#8)).body.length)
    ∧ (∀ ps, parsePatches (beBytes 41 0) (beBytes 41 0).length (fieldAt (beBytes 41 0) 3 1) 40 ≠ some (ps, 41))
    ∧ parsePatches (submitPatch 1 9) 42 (fieldAt (submitPatch 1 9) 3 1) 40 = none := by
  refine ⟨rfl, ⟨.head _, by decide⟩, ⟨rfl, by decide⟩, ⟨rfl, by decide⟩, ⟨rfl, by decide⟩, ⟨rfl, ?_⟩, ?_, by decide⟩
  · show 65520 < (List.replicate 65521 0#8).length
    rw [List.length_replicate]; decide
  · intro ps h
    have : parsePatches (beBytes 41 0) (beBytes 41 0).length (fieldAt (beBytes 41 0) 3 1) 40 = some ([], 40) := by decide
    rw [this] at h; cases h

theorem test_hyp_StrayRecords :
    (State.reset.sli.asm.buf = [] ∧ (holding false [0xC3#8]).sli.asm.buf ≠ [])
    ∧ (¬ (1 ≤ (0x16#8).toNat ∧ (0x16#8).toNat ≤ 21) ∧ ¬ (1 ≤ (0#8).toNat ∧ (0#8).toNat ≤ 21))
    ∧ bodyCheck (wire [1#8]).body = (wire [1#8]).check ∧ bodyCheck (damagedWire [1#8]).body ≠ (damagedWire [1#8]).check
    ∧ (∀ k, State.reset.sli.tags.lookup (wire []).tag.toNat = some k → k.code ≠ 0x40#8)
    ∧ ∀ k, ([((wire []).tag.toNat, PartKind.apply)] : List (Nat × PartKind)).lookup (wire []).tag.toNat = some k →
      k.code ≠ 0x41#8 :=
  ⟨by decide, by decide, rfl, by decide, fun _ h => (nomatch h), fun k h => by cases h; decide⟩

/-- A header that passes the assembler's tests, of a record without a body. -/
def goodHeader : List Byte := headerBytes 0x0E#8 0 7 0 0

theorem test_hyp_HeaderFaultSearch :
    ((holding false []).sli.asm.inStep = false ∧ (holding true []).sli.asm.inStep = true)
    ∧ (let buf := fun bs => (holding false bs).sli.asm.buf
      buf [] = [] ∧ buf [0xC3#8] = [0xC3#8] ∧ buf [1#8] = [1#8]
      ∧ (buf [0xC3#8, 1#8] = 0xC3#8 :: 1#8 :: [] ∧ ¬ (0xC3#8 = 0xC3#8 ∧ 1#8 = 0x5A#8))
      ∧ (buf [0xC3#8, 0x5A#8]).length < 16
      ∧ (16 ≤ (buf (0xC3#8 :: 0x5A#8 :: List.replicate 14 0#8)).length
        ∧ headerOk ((buf (0xC3#8 :: 0x5A#8 :: List.replicate 14 0#8)).take 16) = false)
      ∧ goodHeader = 0xC3#8 :: 0x5A#8 :: goodHeader.drop 2
      ∧ 16 ≤ (buf goodHeader).length ∧ headerOk ((buf goodHeader).take 16) = true)
    ∧ (let buf := fun bs => (holding true bs).sli.asm.buf
      (buf (List.replicate 15 0#8)).length < 16
      ∧ (16 ≤ (buf (List.replicate 16 0#8)).length ∧ headerOk ((buf (List.replicate 16 0#8)).take 16) = false)
      ∧ (headerOk ((buf goodHeader).take 16) = true ∧ (buf goodHeader).length < 20 + fieldAt (buf goodHeader) 8 2)
      ∧ headerOk ((buf (goodHeader ++ beBytes 4 0)).take 16) = true
      ∧ 20 + fieldAt (buf (goodHeader ++ beBytes 4 0)) 8 2 ≤ (buf (goodHeader ++ beBytes 4 0)).length)
    ∧ (0x0E#8, Instr.statusRead) ∈ hostRequests ∧ ¬ (1 ≤ (0#8).toNat ∧ (0#8).toNat ≤ 21) :=
  ⟨by decide, by decide, by decide, by simp [hostRequests], by decide⟩

/-- Bytes given one after another: a record's header, then its body check, is the record. -/
theorem test_headerFault_acts : ∃ u, exec (.headerFault (beBytes 4 (bodyCheck []).toNat)) (holding true goodHeader) = .next u
    ∧ u.sli.replies.map (fun r => (r.kind, r.tag, r.result)) = [(0x0E#8, 7, .ok)] ∧ u.sli.asm = ⟨true, []⟩ :=
  ⟨_, rfl, by decide +kernel, by decide +kernel⟩

/-- A record command that finds 15 bytes held IN-STEP: its bytes complete a bad header. -/
theorem test_held_bytes_fault : ∃ u, exec (.statusPeek (wire [])) (holding true (List.replicate 15 0#8)) = .next u
    ∧ u.sli.latches.part.linkError = true ∧ u.sli.asm.inStep = true ∧ u.sli.replies.length = 1 :=
  ⟨_, rfl, by decide +kernel, by decide +kernel, by decide +kernel⟩

theorem test_hyp_RecordSendOrder :
    (linkWith [.linkError .header] [aReply] [anApply]).sli.reports = [.linkError .header]
    ∧ ((linkWith [] [aReply] [anApply]).sli.reports = [] ∧ (linkWith [] [aReply] [anApply]).sli.replies = aReply :: [])
    ∧ ((linkWith [] [] [anApply]).sli.reports = [] ∧ (linkWith [] [] [anApply]).sli.replies = []
      ∧ (linkWith [] [] [anApply]).sli.partQueue = anApply :: [])
    ∧ (linkWith [] [] []).sli.reports = [] ∧ (linkWith [] [] []).sli.replies = []
    ∧ (linkWith [] [] []).sli.partQueue = [] := by decide

theorem test_hyp_LatchesReportTheirPassage :
    Sli.reset.latches.part.get .skew = false ∧ (Sli.reset.latch .skew).latches.part.get .skew = true
    ∧ (Sli.reset.latches.trunk.get .t3).get .windowFull = false
    ∧ ((Sli.reset.latchTrunk .t3 .windowFull true).latches.trunk.get .t3).get .windowFull = true
    ∧ ((Sli.reset.latchTrunk .t3 .unidentified false).latches.trunk.get .t3).unidentified = true := by decide

theorem test_hyp_StatusReplies : Intact ready (wire []) 0 := intact_wire _ rfl

theorem test_hyp_StatsAndTrunkQuery : Intact ready (wire []) 0
    ∧ (Intact ready (four 3) 4 ∧ fieldAt (four 3).body 0 1 = Trunk.t3.index)
    ∧ Intact ready (four 4) 4 ∧ 3 < fieldAt (four 4).body 0 1 :=
  ⟨intact_wire _ rfl, ⟨intact_four _ rfl, by decide⟩, intact_four _ rfl, by decide⟩

/-- A BUCKET-QUERY body. -/
def query (b : Nat) : Wire := wire (beBytes 2 b ++ beBytes 2 0)

theorem test_hyp_BucketQueryReply : (Intact ready (query 4096) 4 ∧ 4095 < fieldAt (query 4096).body 0 2)
    ∧ Intact ready (query 4095) 4 ∧ fieldAt (query 4095).body 0 2 ≤ 4095 :=
  ⟨⟨intact_wire _ rfl, by decide⟩, intact_wire _ rfl, by decide⟩

/-- A COUNTER-WRITE of the FRAME-CHECK and RESEND counters. -/
def counterBody (t v : Nat) : Wire := wire (beBytes 1 t ++ [5#8, 0#8, 0#8] ++ beBytes 2 v ++ beBytes 2 256 ++ beBytes 4 0)

theorem test_hyp_CounterReadAndWrite :
    (Intact ready (four 0) 4 ∧ fieldAt (four 0).body 0 1 = Trunk.t0.index)
    ∧ (Intact ready (counterBody 3 256) 12 ∧ fieldAt (counterBody 3 256).body 0 1 = Trunk.t3.index
      ∧ ∃ i, i < 3 ∧ (fieldAt (counterBody 3 256).body 1 1).testBit i = true
        ∧ 255 < fieldAt (counterBody 3 256).body (4 + 2 * i) 2)
    ∧ (Intact ready (counterBody 3 255) 12 ∧ fieldAt (counterBody 3 255).body 0 1 = Trunk.t3.index
      ∧ ∀ i, i < 3 → (fieldAt (counterBody 3 255).body 1 1).testBit i = true →
        fieldAt (counterBody 3 255).body (4 + 2 * i) 2 ≤ 255)
    ∧ (Intact ready (four 4) 4 ∧ 3 < fieldAt (four 4).body 0 1)
    ∧ Intact ready (counterBody 4 255) 12 ∧ 3 < fieldAt (counterBody 4 255).body 0 1 :=
  ⟨⟨intact_four _ rfl, by decide⟩, ⟨intact_wire _ rfl, by decide, 0, by decide⟩, ⟨intact_wire _ rfl, by decide, by decide⟩,
    ⟨intact_four _ rfl, by decide⟩, intact_wire _ rfl, by decide⟩

theorem test_hyp_ReportMaskReplaces : Intact ready (wire (beBytes 8 (2 ^ 38))) 8 := intact_wire _ rfl

/-- A SET-CLOCK body. -/
def clockBody (time skew : Nat) : Wire := wire (beBytes 8 time ++ beBytes 4 skew)

theorem test_hyp_SetClock : Intact ready (clockBody 4398046511104 9) 12 ∧ Intact ready (clockBody 4398046511103 60000) 12 :=
  ⟨intact_wire _ rfl, intact_wire _ rfl⟩

/-- The Stamp Clock with site clock, l and c given, and a site. -/
def clocked (base l c : Nat) (site : Option Nat) : State := { ready with clock := ⟨true, base, 0, 1000, site, none, l, c⟩ }

theorem test_hyp_StampIssueAndSetSite :
    (clocked 1000 999 5 none).clock.l < (clocked 1000 999 5 none).siteClock
    ∧ ((clocked 1000 1000 65534 none).siteClock ≤ (clocked 1000 1000 65534 none).clock.l ∧ (65534 : Nat) < 65535)
    ∧ ((clocked 1000 4398046511102 65535 none).siteClock ≤ 4398046511102
      ∧ (clocked 1000 4398046511102 65535 none).clock.l < 4398046511103)
    ∧ (clocked 1000 4398046511103 65535 none).siteClock ≤ (clocked 1000 4398046511103 65535 none).clock.l
    ∧ (Intact ready (four 64) 4 ∧ 63 < fieldAt (four 64).body 0 1)
    ∧ (Intact ready (four 63) 4 ∧ fieldAt (four 63).body 0 1 ≤ 63 ∧ ready.clock.site ≠ none)
    ∧ (Intact State.reset (four 63) 4 ∧ State.reset.clock.site = none ∧ State.reset.clock.set = false)
    ∧ (Intact (clocked 0 4398046511103 65535 none) (four 63) 4
      ∧ (clocked 0 4398046511103 65535 none).clock.site = none ∧ (clocked 0 4398046511103 65535 none).clock.set = true
      ∧ (clocked 0 4398046511103 65535 none).requestTaken.issue 63 = none)
    ∧ Intact (clocked 7 0 0 none) (four 63) 4 ∧ (clocked 7 0 0 none).clock.site = none ∧ (clocked 7 0 0 none).clock.set = true
    ∧ ((clocked 7 0 0 none).requestTaken.issue 63).map (fun x => x.1) = some (packStamp 7 0 63) :=
  ⟨by decide, by decide, by decide, by decide, ⟨intact_four _ rfl, by decide⟩,
    ⟨intact_four _ rfl, by decide, by decide⟩, ⟨intact_four _ rfl, by decide⟩,
    ⟨intact_four _ rfl, rfl, rfl, by decide⟩, intact_four _ rfl, rfl, rfl, by decide⟩

/-- The counter that Table 2-4 gives, and the time, as the statement on merging computes them. -/
def mergedTo (s : State) (x : Stamp) : Nat × Nat :=
  let pt := s.siteClock
  let clamp := pt + s.clock.skew < x.toNat / 2 ^ 22
  let lm := if clamp then pt + s.clock.skew else x.toNat / 2 ^ 22
  let cm := if clamp then 0 else x.toNat / 2 ^ 6 % 2 ^ 16
  let nl := max (max s.clock.l lm) pt
  (nl, if nl = s.clock.l ∧ nl = lm then max s.clock.c cm + 1
    else if nl = s.clock.l then s.clock.c + 1
    else if nl = lm then cm + 1
    else 0)

theorem test_hyp_MergeFollowsTable :
    mergedTo (clocked 90 100 65534 none) (packStamp 100 9 0) = (100, 65535)
    ∧ mergedTo (clocked 90 100 65535 none) (packStamp 100 9 0) = (100, 65536)
    ∧ mergedTo (clocked 90 4398046511103 65535 none) (packStamp 9 9 0) = (4398046511103, 65536)
    ∧ mergedTo (clocked 90 100 5 none) (packStamp 5000 9 0) = (1090, 1) := by decide

/-- A state in which commands wait. -/
def busy (cs : List Instr) : State := { (trunkIn .running) with pending := cs }

theorem test_hyp_ClockRangesKept : ClockOk (busy []).clock ∧ step (busy []) = .next { (busy []) with now := 1000000 } :=
  ⟨⟨by decide, by decide, by decide, by decide, by decide, by decide⟩, rfl⟩

theorem test_hyp_ClockNeverGoesBack : ClockOk (busy [.setClock (clockBody 9 10)]).clock
    ∧ (busy [.setClock (clockBody 9 10)]).pending.head? ≠ some .powerOnReset
    ∧ ∃ t, step (busy [.setClock (clockBody 9 10)]) = .next t :=
  ⟨⟨by decide, by decide, by decide, by decide, by decide, by decide⟩, by decide, _, rfl⟩

theorem paced_ok : PacedOk 16 Paced.reset := ⟨by decide, by decide, by decide, by decide, by decide⟩

theorem test_hyp_CapacitiesKept : Capacities (busy [.parkEntry]) ∧ ∃ t, step (busy [.parkEntry]) = .next t :=
  ⟨⟨by decide, by decide, ⟨by decide, by decide, by decide⟩, ⟨by decide, by decide⟩, fun t => by cases t <;> decide, by decide⟩,
    _, rfl⟩

theorem test_hyp_TrunksKept : TrunksOk (busy [.cycleStart .t0]) ∧ ∃ t, step (busy [.cycleStart .t0]) = .next t := by
  refine ⟨fun t => ⟨⟨⟨?_, ?_, ?_, ?_, ?_, ?_, ?_⟩, ?_, ?_, ?_⟩, ⟨?_, ?_, ?_, ?_, ?_⟩, ?_, ?_, ?_⟩, _, rfl⟩ <;> cases t <;>
    first
      | exact paced_ok
      | decide
      | (intro n h; cases h)

theorem test_hyp_FormKept : FormOk (busy [.noticeRetry .t0]) ∧ ∃ t, step (busy [.noticeRetry .t0]) = .next t := by
  refine ⟨⟨⟨by decide, by decide⟩, by decide, by decide, by decide, fun t => ⟨?_, ?_, ?_⟩⟩, _, rfl⟩ <;> cases t <;> decide

/-- A BUCKET-SET body. -/
def bucketBody (b state targets band : Nat) : Wire :=
  wire (beBytes 2 b ++ beBytes 1 state ++ beBytes 1 targets ++ beBytes 1 band ++ beBytes 3 0)

theorem test_hyp_BucketCreated :
    let s := trunkIn .off
    let ok := fun (w : Wire) (state : BucketState) (band : Band) => Intact s w 8 ∧ fieldAt w.body 0 2 < 4096
      ∧ (fieldAt w.body 2 1 = 1 ∧ state = .active ∨ fieldAt w.body 2 1 = 2 ∧ state = .paused)
      ∧ fieldAt w.body 4 1 = band.code
      ∧ (∀ t, (targetsOf (fieldAt w.body 3 1)).get t = true → (s.port t).config.peer ≠ none)
      ∧ (s.bucket (fieldAt w.body 0 2)).state = .absent
    ok (bucketBody 4095 1 1 0) .active .express ∧ ok (bucketBody 0 2 0 1) .paused .bulk := by
  simp only [every_trunk]
  exact ⟨⟨intact_wire _ rfl, by decide⟩, intact_wire _ rfl, by decide⟩

theorem test_hyp_BucketSetRefused :
    let s := trunkIn .off
    let first := fun w : Wire => 4095 < fieldAt w.body 0 2 ∨ fieldAt w.body 2 1 ∉ [1, 2, 3] ∨ 1 < fieldAt w.body 4 1
    let second := fun w : Wire => ∃ t, (targetsOf (fieldAt w.body 3 1)).get t = true ∧ (s.port t).config.peer = none
    Intact s (bucketBody 4095 3 1 1) 8
    ∧ first (bucketBody 4096 1 0 0) ∧ first (bucketBody 1 0 0 0) ∧ first (bucketBody 1 4 0 0) ∧ first (bucketBody 1 1 0 2)
    ∧ second (bucketBody 4095 1 8 0)
    ∧ ¬ first (bucketBody 4095 3 1 1) ∧ ¬ second (bucketBody 4095 3 1 1) ∧ (s.bucket 4095).state = .absent
    ∧ fieldAt (bucketBody 4095 3 1 1).body 2 1 = 3 := by
  simp only [some_trunk]
  exact ⟨intact_wire _ rfl, by decide⟩

theorem entries_one (s : State) (e : JEntry) (h : s.journal.entries = [e]) (p : e.noPending = false) :
    EntriesOk s.journal.entries := by
  rw [h]
  exact ⟨by simp, by simpa using p⟩

/-- Bucket 1 with an unsealed entry for T0, and with a sealed one. -/
def unsealed : State := withEntry .off (entry three .ready (some ⟨1, [1#8, 2#8, 3#8], photoFold photoStart [1#8, 2#8, 3#8]⟩))
def sealedAs (st : TrunkState) (n : Nat) : State := withEntry st { entry .drop .ready none with seq := some n }

theorem test_hyp_BucketRetargeted :
    let w := bucketBody 1 3 0 1
    Intact unsealed w 8 ∧ EntriesOk unsealed.journal.entries ∧ fieldAt w.body 0 2 < 4096
    ∧ fieldAt w.body 2 1 = BucketState.draining.code ∧ fieldAt w.body 4 1 = Band.bulk.code
    ∧ (∀ t, (targetsOf (fieldAt w.body 3 1)).get t = true → (unsealed.port t).config.peer ≠ none)
    ∧ BucketState.draining ≠ .absent ∧ (unsealed.bucket (fieldAt w.body 0 2)).state ≠ .absent := by
  simp only [every_trunk]
  exact ⟨intact_wire _ rfl, entries_one _ _ rfl rfl, by decide⟩

theorem test_hyp_SubmitBadArgument :
    let ok := fun w : Wire => ready.sli.asm.buf = [] ∧ bodyCheck w.body = w.check ∧ fitsSubmit w.body = true
    let bad := fun w : Wire => 4095 < fieldAt w.body 0 2 ∨ fieldAt w.body 2 1 ∉ [1, 2, 3]
      ∨ (fieldAt w.body 2 1 = 2 ∨ fieldAt w.body 2 1 = 3) ∧ fieldAt w.body 4 4 ≠ 0
    let form := fun (kind length : Nat) => wire ([0#8, 1#8] ++ beBytes 1 kind ++ [0#8] ++ beBytes 4 length ++ beBytes 32 9)
    (ok (wire (submitBody 4096 9)) ∧ bad (wire (submitBody 4096 9))) ∧ (ok (form 0 0) ∧ bad (form 0 0))
    ∧ (ok (form 4 0) ∧ bad (form 4 0)) ∧ (ok (form 2 1) ∧ bad (form 2 1)) ∧ ok (form 3 1) ∧ bad (form 3 1) := by
  decide

/-- What the ordered checks of SUBMIT ask, as the statement writes them. -/
def refusalConds (s : State) (w : Wire) : List Prop :=
  let q := parseSubmit w.body
  let r := s.bucket q.bucket
  let e := s.unsealedOf q.bucket q.digest
  let held := match e.bind fun x => x.fill with
    | some f => f.slots
    | none => 0
  [s.clock.set = false ∨ s.clock.site = none, r.state = .absent, r.state = .draining, q.kind = 1 ∧ 268435456 < q.length,
    ¬ (q.patches.map fun p => p.field).Nodup ∨ (∃ p ∈ q.patches, 31 < p.field ∨ 48 < p.value.length)
      ∨ 32 < q.patches.length ∨ q.kind = 3 ∧ q.patches ≠ [],
    q.kind = 2 ∧ e.map (fun x => x.change) = some .drop,
    s.findObj q.bucket q.digest = none ∧ 65536 ≤ s.map.length ∧ ∀ x ∈ s.map, x.pins ≠ 0,
    e = none ∧ (∃ t, r.targets.get t = true) ∧ 65536 ≤ s.journal.entries.length,
    q.kind = 1 ∧ 0 < q.length ∧ (e ≠ none ∨ ∃ t, r.targets.get t = true)
      ∧ 589824 < s.body.outUse - held + (q.length + 8127) / 8128]

/-- Condition i holds, and none before it. -/
def firstAt : Nat → List Prop → Prop
  | 0, p :: _ => p
  | n + 1, p :: r => ¬ p ∧ firstAt n r
  | _, [] => False

/-- The record passes R15, and condition i is the first that refuses it. -/
def refusedAt (i : Nat) (s : State) (w : Wire) : Prop :=
  let q := parseSubmit w.body
  s.sli.asm.buf = [] ∧ bodyCheck w.body = w.check ∧ fitsSubmit w.body = true ∧ q.bucket < 4096 ∧ q.kind ∈ [1, 2, 3] ∧ (q.kind ≠ 1 → q.length = 0)
    ∧ firstAt i (refusalConds s w)

/-- A SUBMIT of a BODY of some length for bucket 1, and a full map, journal and outbound share. -/
def submitLong (n : Nat) : Wire := wire ([0#8, 1#8, 1#8, 0#8] ++ beBytes 4 n ++ beBytes 16 9 ++ beBytes 16 0)
def fullMap : State := { (withBucket .off) with map := List.replicate 65536 ⟨2, 5#128, none, false, none, 1⟩ }
def fullJournal : State :=
  { (withBucket .off) with journal := ⟨List.replicate 65536 (entry .drop .ready none), []⟩ }
def fullStore : State := { (withBucket .off) with body := { BodyStore.reset with outUse := 589824 } }

theorem test_hyp_SubmitChecksInOrder_first :
    refusedAt 0 State.reset (wire (submitBody 4095 9)) ∧ refusedAt 1 ready (wire (submitBody 4095 9))
    ∧ refusedAt 2 ((withBucket .off).setBucket 1 { Bucket.reset with state := .draining }) (wire (submitBody 1 9))
    ∧ refusedAt 3 (withBucket .off) (submitLong 268435457)
    ∧ refusedAt 4 (withBucket .off) (wire (beBytes 2 1 ++ [3#8, 1#8] ++ beBytes 4 0 ++ beBytes 32 9 ++ [4#8, 0#8]))
    ∧ refusedAt 5 (withEntry .off (entry .drop .ready none)) (wire (submitPatch 1 9))
    ∧ refusedAt 8 fullStore (submitLong 1) := by
  refine ⟨?_, ?_, ?_, ?_, ?_, ?_, ?_⟩ <;> refine ⟨rfl, rfl, by decide, by decide, by decide, by decide, ?_⟩ <;>
    simp only [refusalConds, firstAt, some_trunk] <;> decide +kernel

theorem fullMap_noObject : fullMap.findObj 1 9#128 = none := by
  refine List.find?_eq_none.2 fun x h => ?_
  cases List.eq_of_mem_replicate h
  decide

theorem test_hyp_SubmitChecksInOrder_map : refusedAt 6 fullMap (submitLong 1) := by
  refine ⟨rfl, rfl, by decide, by decide, by decide, by decide, ?_⟩
  simp only [refusalConds, firstAt, show (parseSubmit (submitLong 1).body).bucket = 1 by decide,
    show (parseSubmit (submitLong 1).body).digest = 9#128 by decide]
  refine ⟨by decide, by decide, by decide, by decide, by decide, fun h => absurd h.1 (by decide), fullMap_noObject, ?_,
    fun x h => ?_⟩
  · show 65536 ≤ (List.replicate 65536 (_ : ObjRec)).length
    rw [List.length_replicate]
  · cases List.eq_of_mem_replicate h
    decide

theorem test_hyp_SubmitChecksInOrder_journal : refusedAt 7 fullJournal (submitLong 1) := by
  refine ⟨rfl, rfl, by decide, by decide, by decide, by decide, ?_⟩
  simp only [refusalConds, firstAt]
  refine ⟨by decide, by decide, by decide, by decide, by decide, fun h => absurd h.1 (by decide), fun h => ?_, rfl,
    ⟨.t0, rfl⟩, ?_⟩
  · exact absurd h.2.1 (by decide)
  · show 65536 ≤ (List.replicate 65536 (_ : JEntry)).length
    rw [List.length_replicate]

/-- An accepted SUBMIT, as its hypotheses read. -/
def accepted (s : State) (w : Wire) : Prop :=
  s.sli.asm.buf = [] ∧ bodyCheck w.body = w.check ∧ fitsSubmit w.body = true
    ∧ s.requestTaken.submitRefusal (parseSubmit w.body) = none
    ∧ ∃ stamp s1, s.requestTaken.issue (s.clock.site.getD 0) = some (stamp, s1)

/-- Bucket 1 with outbound slots in use. -/
def nearPark (n : Nat) : State := { (withBucket .off) with body := { BodyStore.reset with outUse := n } }

theorem test_hyp_SubmitAppends :
    (accepted (withBucket .off) (submitLong 268435456) ∧ (withBucket .off).unsealedOf 1 9#128 = none
      ∧ ∃ t, ((withBucket .off).bucket 1).targets.get t = true)
    ∧ (accepted (nearPark 524287) (submitLong 1) ∧ (nearPark 524287).unsealedOf 1 9#128 = none
      ∧ (nearPark 524287).body.parkOn = false ∧ 524288 ≤ (nearPark 524287).body.outUse + (1 + 8127) / 8128)
    ∧ accepted ((withBucket .off).setBucket 1 { Bucket.reset with state := .active }) (wire (submitPatch 1 9))
    ∧ ∀ t, (((withBucket .off).setBucket 1 { Bucket.reset with state := .active }).bucket 1).targets.get t = false :=
  ⟨⟨⟨rfl, rfl, by decide, by decide, _, _, rfl⟩, rfl, .t0, rfl⟩, ⟨⟨rfl, rfl, by decide, by decide, _, _, rfl⟩, rfl, rfl, by decide⟩, ⟨rfl, rfl, by decide, by decide, _, _, rfl⟩,
    fun t => by cases t <;> decide⟩

/-- A full map in which the last record alone has no pin. -/
def evictable : List ObjRec := List.replicate 65535 ⟨2, 5#128, none, false, none, 1⟩ ++ [⟨2, 6#128, none, false, none, 0⟩]

theorem test_hyp_MapTook : (∃ x ∈ (withEntry .off (entry .drop .ready none)).map, isObj 1 9#128 x = true)
    ∧ ((∀ x ∈ State.reset.map, isObj 1 9#128 x = false) ∧ State.reset.map.length < 65536)
    ∧ (∀ x ∈ evictable, isObj 1 9#128 x = false) ∧ 65536 ≤ evictable.length
    ∧ ∃ xs x ys, evictable = xs ++ x :: ys ∧ (∀ y ∈ xs, y.pins ≠ 0) ∧ x.pins = 0 := by
  refine ⟨by decide, by decide, fun x h => ?_, ?_, _, _, [], rfl, fun y h => ?_, rfl⟩
  · rcases List.mem_append.1 h with h | h
    · cases List.eq_of_mem_replicate h
      decide
    · cases List.mem_singleton.1 h
      decide
  · rw [evictable, List.length_append, List.length_replicate]
    decide
  · cases List.eq_of_mem_replicate h
    decide

theorem test_hyp_SubmitSupersedesOrMerges :
    (accepted unsealed (wire (submitPatch 1 9)) ∧ (parseSubmit (submitPatch 1 9)).kind = 2)
    ∧ (accepted unsealed (wire (submitBody 1 9)) ∧ (parseSubmit (submitBody 1 9)).kind ≠ 2)
    ∧ unsealed.unsealedOf 1 9#128 = unsealed.journal.entries.head?
    ∧ unsealed.journal.entries.head?.map (fun e => (e.bucket, e.digest)) = some (1, 9#128)
    ∧ (let old : List PatchWrite := [⟨4, [1#8]⟩, ⟨2, [2#8]⟩]
      let new : List PatchWrite := [⟨2, [9#8]⟩, ⟨7, [3#8]⟩]
      (new.map fun p => p.field).Nodup ∧ (old.map fun p => p.field).Nodup ∧ (∀ p ∈ new, p.field ≠ 4)
      ∧ mergePatches old new = [⟨4, [1#8]⟩, ⟨2, [9#8]⟩, ⟨7, [3#8]⟩]) :=
  ⟨⟨⟨rfl, rfl, by decide, by decide, _, _, rfl⟩, by decide⟩, ⟨⟨rfl, rfl, by decide, by decide, _, _, rfl⟩, by decide⟩, rfl, rfl,
    by decide⟩

theorem test_bodyAfter :
    let held := fun (n : Nat) => ({ BodyStore.reset with outUse := n, reservation := [0, 3], parkOn := true } : BodyStore)
    let gone := [entry three .ready (some ⟨1, [], photoStart⟩)]
    bodyAfter (held 458753) gone = { held 458752 with reservation := [3], parkOn := false }
    ∧ bodyAfter (held 458754) gone = { held 458753 with reservation := [3] }
    ∧ bodyAfter (held 458752) [entry .drop .ready none] = held 458752 := by decide

/-! ### The Body Store -/

/-- A CHUNK of n bytes 1 for position 0, generation 1. -/
def chunkOf (offset n : Nat) : Wire := wire (chunkBody offset (List.replicate n 1#8))

/-- Bucket 1 with an entry of three bytes in a body state, none of its bytes there. -/
def filling (st : BodyState) : State := withEntry .off (entry three st (some ⟨1, [], photoStart⟩))

theorem test_hyp_ChunkRefused :
    let ok := fun w : Wire => bodyCheck w.body = w.check ∧ 8 ≤ w.body.length ∧ w.body.length ≤ 65520
    let at0 := fun (s : State) (w : Wire) => s.entryAt (Handle.ofValue (fieldAt w.body 0 4))
    ((withBucket .off).sli.asm.buf = [] ∧ unsealed.sli.asm.buf = [] ∧ ∀ st, (filling st).sli.asm.buf = [])
    ∧ (ok (chunkOf 0 0) ∧ at0 (withBucket .off) (chunkOf 0 0) = none)
    ∧ (at0 unsealed (chunkOf 0 0)).map (fun e => e.bodyState) = some .ready
    ∧ (at0 (filling .filling) (chunkOf 1 0)).map (fun e => (e.bodyState, e.fill.isSome)) = some (.filling, true)
    ∧ fieldAt (chunkOf 1 0).body 4 4 ≠ 0
    ∧ ok (chunkOf 0 4) ∧ (at0 (filling .refilling) (chunkOf 0 4)).map (fun e => (e.bodyState, e.fill.isSome, e.change.length))
      = some (.refilling, true, 3)
    ∧ fieldAt (chunkOf 0 4).body 4 4 = 0 ∧ 3 < 0 + ((chunkOf 0 4).body.length - 8) :=
  ⟨⟨rfl, rfl, fun _ => rfl⟩, by decide⟩

theorem test_hyp_ChunkFillsAndCompletes :
    let at0 := fun (s : State) => s.entryAt (Handle.ofValue (fieldAt (chunkOf 0 2).body 0 4))
    ((filling .filling).sli.asm.buf = [] ∧ (filling .refilling).sli.asm.buf = [])
    ∧ (bodyCheck (chunkOf 0 2).body = (chunkOf 0 2).check ∧ 8 ≤ (chunkOf 0 2).body.length
      ∧ (chunkOf 0 2).body.length ≤ 65520 ∧ fieldAt (chunkOf 0 2).body 4 4 = ([] : List Byte).length
      ∧ at0 (filling .filling) = some (entry three .filling (some ⟨1, [], photoStart⟩))
      ∧ at0 (filling .refilling) = some (entry three .refilling (some ⟨1, [], photoStart⟩)))
    ∧ 0 + ((chunkOf 0 2).body.drop 8).length < three.length
    ∧ three.length = 0 + ((chunkOf 0 3).body.drop 8).length
    ∧ photoFinish (photoFold photoStart ((wire (chunkBody 0 [1#8, 2#8, 3#8])).body.drop 8)) = three.check
    ∧ photoFinish (photoFold photoStart ((chunkOf 0 3).body.drop 8)) ≠ three.check
    ∧ ((withEntry .off { entry three .refilling (some ⟨1, [], photoStart⟩) with seq := some 1 }).entryAt ⟨0, 1⟩).map
      (fun e => (e.bodyState, e.seq.isSome)) = some (.refilling, true)
    ∧ ∃ u, exec (.chunk (chunkOf 0 3)) ((filling .filling).setBucket 1
        ⟨.draining, ⟨true, false, false, false⟩, .express, 1, ⟨1, 0, 0, 0⟩, ⟨true, false, false, false⟩, false⟩) = .next u
      ∧ u.journal.entries = [] ∧ (u.bucket 1).state = .absent ∧ u.body.reservation = [] ∧ u.body.outUse = 0 :=
  ⟨by decide, by decide, by decide, by decide, by decide, by decide, by decide, _, rfl, by decide, by decide, by decide,
    by decide⟩

/-- A state with a parked entry at the head of the refill queue, a refill table and an outbound use. -/
def refillState (table : List (Nat × Handle)) (use : Nat) : State :=
  let s := withEntry .running (entry three .parked none)
  { s with body := { s.body with refillQueue := [0], refillTable := table, outUse := use } }

/-- Parking in force, with two candidates of which the second can be parked. -/
def parkState : State :=
  let s := withEntry .off (entry three .ready (some ⟨1, [1#8, 2#8, 3#8], photoStart⟩))
  { s with
    journal := { s.journal with entries := s.journal.entries ++ [{ (entry three .filling (some ⟨1, [], photoStart⟩)) with index := 1 }] }
    body := { s.body with outUse := 458753, reservation := [1, 0], parkOn := true } }

theorem test_hyp_BodyStoreRequests :
    ((refillState [] 589823).body.refillQueue = 0 :: []
      ∧ (refillState [] 589823).entryOf 0 = some (entry three .parked none)
      ∧ (refillState [] 589823).body.refillTable.length < 64
      ∧ (refillState [] 589823).body.outUse + (three.length + 8127) / 8128 ≤ 589824)
    ∧ ((refillState [] 524287).body.parkOn = false ∧ 524288 ≤ (refillState [] 524287).body.outUse + (three.length + 8127) / 8128)
    ∧ 64 ≤ (refillState (List.replicate 64 (257, ⟨0, 1⟩)) 0).body.refillTable.length
    ∧ 589824 < (refillState [] 589824).body.outUse + (three.length + 8127) / 8128
    ∧ State.reset.body.refillQueue = [] ∧ State.reset.body.parkOn = false
    ∧ (parkState.body.parkOn = true ∧ parkState.body.reservation = [1] ++ 0 :: []
      ∧ (parkState.entryOf 1).map (fun e => e.bodyState) = some .filling
      ∧ parkState.entryOf 0 = some (entry three .ready (some ⟨1, [1#8, 2#8, 3#8], photoStart⟩))
      ∧ (entry three .ready none).framesOut = 0 ∧ (parkState.port .t0).state = .off
      ∧ Trunk.all.map (entry three .ready none).peers.get = [some .queued, none, none, none]) := by decide

/-- A refill outstanding under tag 257, of an unsealed or a sealed entry. -/
def refilling (seq : Option Nat) : State :=
  let s := withEntry .running { (entry three .refilling (some ⟨1, [], photoStart⟩)) with seq := seq, refillTag := some 257 }
  { s with
    body := { s.body with refillTable := [(257, ⟨0, 1⟩)] }
    sli := { s.sli with tags := [(257, .bodyWanted)] } }

/-- A record of tag 257. -/
def reply257 : Wire := ⟨257#16, [], bodyCheck []⟩

theorem test_hyp_BodyWantedAnswered :
    ((refilling none).sli.asm.buf = [] ∧ (refilling (some 1)).sli.asm.buf = [])
    ∧ bodyCheck reply257.body = reply257.check
    ∧ (refilling none).sli.tags.lookup reply257.tag.toNat = some .bodyWanted
    ∧ (refilling none).body.refillTable.lookup reply257.tag.toNat = some ⟨0, 1⟩
    ∧ ((refilling none).entryAt ⟨0, 1⟩).map (fun e => (e.bodyState, e.refillTag, e.seq)) = some (.refilling, some 257, none)
    ∧ ((refilling (some 1)).entryAt ⟨0, 1⟩).map (fun e => e.seq.isSome) = some true
    ∧ (refilling none).entryAt ⟨5, 1⟩ = none := by decide

/-! ### Trunks -/

/-- A TRUNK-SET for T0: the reset configuration with peer, K, M and XE given. -/
def setBody (t peer k m xe : Nat) : Wire :=
  wire ([BitVec.ofNat 8 t, BitVec.ofNat 8 peer, BitVec.ofNat 8 k, 1#8] ++ beBytes 4 1000 ++ beBytes 4 200000
    ++ [0#8, BitVec.ofNat 8 xe, 0#8, 0#8, 4#8, BitVec.ofNat 8 m, 1#8, 0#8] ++ beBytes 2 250 ++ beBytes 2 2000
    ++ beBytes 2 30 ++ beBytes 2 0)

/-- The three checks of TRUNK-SET on T0, as the statement writes them. -/
def setFirst (w : Wire) : Bool :=
  decide ((63 < (parseConfig w.body).peer ∧ (parseConfig w.body).peer ≠ 255) ∨ (parseConfig w.body).m ∉ [1, 2, 4, 8]
    ∨ (parseConfig w.body).probePeriod ∉ [10, 25, 50, 100, 250, 500, 1000, 2500])
def setSecond (s : State) (w : Wire) : Bool :=
  decide ((s.port .t0).state ≠ .off
    ∧ ((s.port .t0).config.peer ≠ (if (parseConfig w.body).peer = 255 then none else some (parseConfig w.body).peer)
      ∨ (s.port .t0).config.k ≠ max 8 (min 32 (parseConfig w.body).k)))
def setThird (w : Wire) : Bool :=
  let q := parseConfig w.body
  decide (¬ (q.xs ≤ q.xe ∧ q.xe + 3 ≤ max 8 (min 32 q.k)
    ∧ (q.bulk = true → q.xe < q.bs ∧ q.bs ≤ q.be ∧ q.be + 3 ≤ max 8 (min 32 q.k))))
def setChecks (s : State) (w : Wire) : Bool × Bool × Bool := (setFirst w, setSecond s w, setThird w)

theorem test_hyp_TrunkSetRequest :
    (Intact (trunkIn .running) (setBody 0 7 16 1 13) 28 ∧ fieldAt (setBody 0 7 16 1 13).body 0 1 = Trunk.t0.index)
    ∧ (Intact ready (setBody 4 7 16 1 13) 28 ∧ 3 < fieldAt (setBody 4 7 16 1 13).body 0 1)
    ∧ (Intact (trunkIn .hunt) (setBody 0 7 17 1 13) 28 ∧ Intact (trunkIn .off) (setBody 0 7 8 1 6) 28
      ∧ Intact (trunkIn .off) (setBody 0 255 8 1 5) 28)
    ∧ setFirst (setBody 0 64 16 1 13) = true ∧ setFirst (setBody 0 254 16 1 13) = true ∧ setFirst (setBody 0 7 16 3 13) = true
    ∧ setChecks (trunkIn .hunt) (setBody 0 63 16 1 13) = (false, true, false)
    ∧ setChecks (trunkIn .hunt) (setBody 0 7 17 1 13) = (false, true, false)
    ∧ setChecks (trunkIn .off) (setBody 0 7 8 1 6) = (false, false, true)
    ∧ setChecks (trunkIn .running) (setBody 0 7 16 1 13) = (false, false, false)
    ∧ ((trunkIn .running).port .t0).config.peer = some (parseConfig (setBody 0 7 16 1 13).body).peer
    ∧ setChecks (trunkIn .off) (setBody 0 255 8 1 5) = (false, false, false)
    ∧ ((trunkIn .off).port .t0).config.peer ≠ none :=
  ⟨⟨intact_wire _ rfl, by decide⟩, ⟨intact_wire _ rfl, by decide⟩,
    ⟨intact_wire _ rfl, intact_wire _ rfl, intact_wire _ rfl⟩, by decide⟩

/-- Bucket 1 with an unsealed entry, its record with an APPLY in flight, and a slot of another trunk. -/
def applying : State := { unsealed with apply :=
  (withQueue [inEntry 1 true] (some 257) false [⟨257, .t0, 1, none⟩, ⟨1, .t1, 1, none⟩]).apply }

theorem test_hyp_PeerChangeActs : EntriesOk applying.journal.entries ∧ Table.wf .reset applying.buckets = true
    ∧ Table.wf .reset applying.apply.records = true
    ∧ (∃ x ∈ applying.apply.slots, x.trunk = .t0 ∧ x.orphan = none) ∧ (∃ x ∈ applying.apply.slots, ¬ x.trunk = .t0)
    ∧ (applying.bucket 1).state ≠ .draining ∧ (applying.journal.entries.filter fun e => (e.dropSlot .t0).noPending) ≠ [] :=
  ⟨entries_one _ _ rfl rfl, by decide⟩

/-- Bucket 1 DRAINING in band BULK with one entry, pending for T0 and perhaps for T1. -/
def draining (more : Option PeerState) : State :=
  let s := withEntry .off { entry .drop .ready none with seq := some 1, peers := ⟨some .queued, more, none, none⟩ }
  s.setBucket 1 { s.bucket 1 with state := .draining, band := .bulk, targets := ⟨true, true, false, false⟩, nextSeq := 2 }

/-- A DRAINING bucket at a peer change and at an acknowledgement: it keeps its state and band while an entry of it is left,
and is ABSENT, its targets empty and its band EXPRESS, when none is. -/
theorem test_hyp_PeerChangeActs_draining :
    (∀ more ∈ [none, some PeerState.queued], ((draining more).bucket 1).state = .draining)
    ∧ ((draining none).peerChange .t0).journal.entries = []
    ∧ ((draining none).peerChange .t0).bucket 1 = { (draining none).bucket 1 with
      state := .absent, targets := .all false, band := .express, rebase := .all false }
    ∧ ((draining (some .queued)).peerChange .t0).journal.entries.length = 1
    ∧ (((draining (some .queued)).peerChange .t0).bucket 1).state = .draining
    ∧ (((draining (some .queued)).peerChange .t0).bucket 1).band = .bulk := by decide

theorem test_hyp_EntryAcknowledgements_draining :
    ((draining none).entryAck .t0 ⟨1, 1, 1⟩).bucket 1 = { (draining none).bucket 1 with
      state := .absent, targets := .all false, band := .express, rebase := .all false }
    ∧ ((draining (some .queued)).entryAck .t0 ⟨1, 1, 1⟩).bucket 1 = { (draining (some .queued)).bucket 1 with
      rebase := .all false } := by decide

/-- An APPLY in flight as its peer changes: its slot keeps the entry, its record is empty. -/
theorem test_peerChange_orphans : (applying.peerChange .t0).apply.slots.map (fun x => x.orphan.isSome) = [true, false]
    ∧ (applying.peerChange .t0).inRec 1 = InRec.reset ∧ (applying.peerChange .t0).journal.entries = [] := by decide

theorem test_hyp_TrunkEnabled :
    (Intact ready (four 4) 4 ∧ 3 < fieldAt (four 4).body 0 1) ∧ (Intact (trunkIn .hunt) (four 0) 4 ∧ fieldAt (four 0).body 0 1 = Trunk.t0.index)
    ∧ (Intact State.reset (four 0) 4 ∧ Intact ready (four 0) 4 ∧ Intact (trunkIn .off) (four 0) 4)
    ∧ ((trunkIn .hunt).port .t0).state ≠ .off
    ∧ ((State.reset.port .t0).state = .off ∧ ¬ (State.reset.clock.set = true ∧ State.reset.clock.site ≠ none))
    ∧ ((ready.port .t0).state = .off ∧ ready.clock.set = true ∧ ready.clock.site ≠ none
      ∧ (ready.port .t0).config.peer = none)
    ∧ ((trunkIn .off).port .t0).state = .off ∧ ((trunkIn .off).port .t0).config.peer ≠ none :=
  ⟨⟨intact_four _ rfl, by decide⟩, ⟨intact_four _ rfl, by decide⟩, ⟨intact_four _ rfl, intact_four _ rfl, intact_four _ rfl⟩,
    by decide⟩

theorem test_hyp_TrunkRestartAndDisable : (Intact ready (four 4) 4 ∧ 3 < fieldAt (four 4).body 0 1) ∧ (∀ st, Intact (trunkIn st) (four 0) 4)
    ∧ fieldAt (four 0).body 0 1 = Trunk.t0.index ∧ ((trunkIn .test).port .t0).state ∈ [.off, .test, .faulted]
    ∧ ((trunkIn .down).port .t0).state ∈ [.hunt, .align, .running, .resync, .down]
    ∧ ((trunkIn .off).port .t0).state = .off ∧ ((trunkIn .faulted).port .t0).state ≠ .off :=
  ⟨⟨intact_four _ rfl, by decide⟩, fun _ => intact_four _ rfl, by decide⟩

theorem test_hyp_TrunkRestartProcedure : Table.wf .reset (withQueue [inEntry 1 true] none false []).apply.records = true := by
  decide

/-- The record of T0 and bucket 1 with an entry of two slots being rebuilt. -/
def half : State := { (withQueue [inEntry 1 true] none false []) with
  apply := { ApplyUnit.reset with
    records := [(1, { InRec.reset with epoch := some 3, reassembly := some { inEntry 1 true with slots := 2 } })], backlog := 3 }
  body := { BodyStore.reset with inUse := 5 }
  map := [⟨1, 9#128, none, false, none, 1⟩] }

/-- A restart gives up what an entry being rebuilt holds. -/
theorem test_restart_releases : Table.wf .reset half.apply.records = true ∧ half.reassembling .t0 ≠ []
    ∧ (half.trunkRestart .t0 .hunt none).apply.backlog = 2 ∧ (half.trunkRestart .t0 .hunt none).body.inUse = 3
    ∧ (half.trunkRestart .t0 .hunt none).map.map (fun x => x.pins) = [0] := by decide

/-- A TRUNK-TEST body. -/
def testBody (t send check : Nat) : Wire := wire (beBytes 1 t ++ beBytes 1 send ++ beBytes 1 check ++ beBytes 17 0)

theorem test_hyp_TestStartedAndJudged :
    (Intact ready (testBody 4 0 0) 20 ∧ 3 < fieldAt (testBody 4 0 0).body 0 1) ∧ 5 < fieldAt (testBody 0 6 0).body 1 1
    ∧ 5 < fieldAt (testBody 0 0 6).body 2 1
    ∧ Intact (trunkIn .hunt) (testBody 3 5 0) 20 ∧ fieldAt (testBody 3 5 0).body 0 1 = Trunk.t3.index
    ∧ Pattern.ofCode? (fieldAt (testBody 3 5 0).body 1 1) = some .customPair
    ∧ Pattern.ofCode? (fieldAt (testBody 3 5 0).body 2 1) = some .zeros
    ∧ ((trunkIn .hunt).port .t3).state = .off
    ∧ (fieldAt (testBody 0 5 0).body 0 1 = Trunk.t0.index ∧ ((trunkIn .hunt).port .t0).state ≠ .off)
    ∧ ((trunkIn .test).port .t0).state = .test ∧ ((trunkIn .hunt).port .t0).state ≠ .test
    ∧ [0xFF#8] ≠ patternPayload .zeros 0 0 0 :=
  ⟨⟨intact_wire _ rfl, by decide⟩, by decide, by decide, intact_wire _ rfl, by decide, by decide, by decide, by decide, by decide, by decide, by decide,
    fun h => by have := congrArg List.length h; simp [patternPayload, Config.payloadBytes] at this⟩

/-- T0 in FAULTED with a supervisor. -/
def faultedWith (cause : Signature) (r : PeriodRec) : State := (trunkIn .faulted).setSup .t0 (faultedSup cause r)

theorem test_hyp_TrunkCleared :
    (Intact ready (four 4) 4 ∧ ∀ cause r, Intact (faultedWith cause r) (four 0) 4)
    ∧ ((trunkIn .down).port .t0).state ≠ .faulted
    ∧ (((faultedWith .looped ⟨.looped, true, false, true⟩).port .t0).state = .faulted
      ∧ ∃ r ∈ ((faultedWith .looped ⟨.looped, true, false, true⟩).sup .t0).history, r.looped = true)
    ∧ ((faultedWith .looped ⟨.clean, false, false, true⟩).sup .t0).faultCause = some .looped
    ∧ ((faultedWith .looped ⟨.clean, false, false, true⟩).sup .t0).history.length = 5
    ∧ (∀ r ∈ ((faultedWith .looped ⟨.clean, false, false, true⟩).sup .t0).history, r.looped = false)
    ∧ (∀ r ∈ ((faultedWith .foreign ⟨.clean, false, false, true⟩).sup .t0).history, r.foreign = false)
    ∧ (∃ r ∈ ((faultedWith .stalled ⟨.clean, false, false, true⟩).sup .t0).history, r.peer = true)
    ∧ ∀ r ∈ ((faultedWith .stalled ⟨.silent, false, false, false⟩).sup .t0).history, r.peer = false :=
  ⟨⟨intact_four _ rfl, fun _ _ => intact_four _ rfl⟩, by decide⟩

/-- An APPLY-RESUME body. -/
def resumeBody (t b : Nat) : Wire := wire (beBytes 1 t ++ [0#8] ++ beBytes 2 b)

theorem test_hyp_ApplyResumed :
    (Intact ready (resumeBody 4 1) 4 ∧ 3 < fieldAt (resumeBody 4 1).body 0 1) ∧ 4095 < fieldAt (resumeBody 0 4096).body 2 2
    ∧ (Intact ready (resumeBody 3 4095) 4 ∧ fieldAt (resumeBody 3 4095).body 0 1 = Trunk.t3.index
      ∧ fieldAt (resumeBody 3 4095).body 2 2 ≤ 4095)
    ∧ (∀ held, Intact (withQueue [inEntry 1 true] none held []) (resumeBody 0 1) 4)
    ∧ ((withQueue [inEntry 1 true] none true []).inRec 1).held = true
    ∧ ((withQueue [inEntry 1 true] none false []).inRec 1).held = false :=
  ⟨⟨intact_wire _ rfl, by decide⟩, by decide, ⟨intact_wire _ rfl, by decide⟩, fun _ => intact_wire _ rfl, by decide⟩

/-- Apply slots of T1, their tags from 1 on. -/
def slotsOf (n : Nat) : List ApplySlot := (List.range n).map fun i => ⟨i + 1, .t1, 0, none⟩

/-- A record of T0 bucket 1 with every apply slot in use or handed out. -/
def noSlot (q : List InEntry) (granted waitList : List Nat) : State :=
  let s := withQueue q none false (slotsOf (256 - granted.length))
  { s with apply := { s.apply with granted := granted, waitList := waitList } }

/-- The forward test: a record with a full Apply Unit joins the wait list; with a free slot, a VOID at its head or a place
handed to it, it does not; one with nothing left gives its place to the next. -/
theorem test_hyp_ApplyResumed_arbiter :
    ((noSlot [inEntry 3 true] [] []).forwardTest 1).apply.waitList = [1]
    ∧ ((noSlot [inEntry 3 true] [] []).inRec 1).wantsSlot = true
    ∧ ((withQueue [inEntry 3 true] none false []).forwardTest 1).apply.waitList = []
    ∧ ((noSlot [inEntry 4 true] [] []).forwardTest 1).apply.waitList = []
    ∧ ((noSlot [inEntry 3 true] [1] []).forwardTest 1).apply.granted = [1]
    ∧ ((noSlot [] [] [2]).forwardTest 1).apply.waitList = [2]
    ∧ ((noSlot [] [1] [2]).forwardTest 1).apply.granted = [2]
    ∧ ((noSlot [] [1] [2]).returnSlots fun j => j == 1).apply.waitList = [] := by decide +kernel

/-- A freed slot is a test of every record: one off the list joins its tail behind the record that waits, and where none
waits it goes forward by itself. -/
theorem test_freedSlot_offList :
    Table.wf .reset (noSlot [inEntry 3 true] [] [4097]).apply.records = true
    ∧ ((noSlot [inEntry 3 true] [] [4097]).freeSlot 1).apply.granted = [4097]
    ∧ ((noSlot [inEntry 3 true] [] [4097]).freeSlot 1).apply.waitList = [1]
    ∧ ((noSlot [inEntry 3 true] [] []).freeSlot 1).apply.granted = [1]
    ∧ ((noSlot [inEntry 3 true] [] []).freeSlot 1).apply.waitList = [] := by decide +kernel

theorem test_hyp_CycleStarts_PeriodClassified :
    (State.reset.port .t0).state = .off ∧ ((trunkIn .test).port .t0).state = .test
    ∧ ((trunkIn .align).port .t0).state ≠ .off ∧ ((trunkIn .align).port .t0).state ≠ .test
    ∧ Tally.empty.arrivals = 0
    ∧ (⟨1, 0, true, true, true⟩ : Tally).looped = true ∧ (⟨1, 0, false, true, true⟩ : Tally).foreign = true
    ∧ (⟨2, 1, false, false, true⟩ : Tally).arrivals ≤ (⟨2, 1, false, false, true⟩ : Tally).invalid * 2
    ∧ (⟨3, 1, false, false, true⟩ : Tally).invalid * 2 < (⟨3, 1, false, false, true⟩ : Tally).arrivals := by decide

theorem test_hyp_CycleStarts_ready :
    let s := (withEntry .align (entry three .parked none)).setPort .t0 { portIn .align with
      headCycles := 4, lock := ⟨true, some 8, some 40, 3, 0, true⟩ }
    s.body.refillQueue = [] ∧ ∃ u, exec (.cycleStart .t0) s = .next u
      ∧ (u.port .t0).state = .running ∧ u.body = { s.body with refillQueue := [0] } :=
  ⟨by decide, cycleStart_every rfl fun o => by cases o <;> decide⟩

/-- T0 in ALIGN with the three conditions of R97, at the end of its fifth period with a looped mark. -/
def loopedReady : State := (ready.setPort .t0 { portIn .align with
    headCycles := 4, lock := ⟨true, some 8, some 40, 3, 0, true⟩ }).setSup .t0 { Supervisor.reset with
  tally := ⟨3, 0, true, false, true⟩, runSignature := some .looped, runLength := 4 }

/-- R168: with the R97 test first the trunk enters RUNNING and the identification waits; with the identification first the
trunk leaves ALIGN and the test is not made. -/
theorem test_hyp_CycleStarts_moved :
    let after := fun o => let u := (loopedReady.beginCycle .t0).cycleEvents .t0 o
      ((u.port .t0).state, (u.sup .t0).requests, (u.sup .t0).faultCause)
    (loopedReady.sup .t0).identifiesNow ∧ (loopedReady.sup .t0).requests = []
    ∧ movesTrunk (loopedReady.port .t0).state (loopedReady.sup .t0).tally.signature
    ∧ after .closeLast = (.running, [.looped], none) ∧ after .closeMiddle = (.running, [.looped], none)
    ∧ after .closeFirst = (.running, [.looped], none) ∧ after .closeMiddleActed = (.faulted, [], some .looped)
    ∧ after .closeFirstActed = (.faulted, [], some .looped)
    ∧ after .identificationFirst = (.faulted, [], some .looped) := by
  refine ⟨⟨by decide, by decide, by decide⟩, by decide, .inr ⟨.inl (by decide), by decide⟩, ?_⟩; decide

/-- R168 with a SILENT identification: the trunk leaves ALIGN for DOWN. -/
theorem test_hyp_CycleStarts_silent :
    let s := loopedReady.setSup .t0 { Supervisor.reset with runSignature := some .silent, runLength := 4 }
    (s.sup .t0).identifiesNow ∧ movesTrunk (s.port .t0).state (s.sup .t0).tally.signature
    ∧ (((s.beginCycle .t0).cycleEvents .t0 .identificationFirst).port .t0).state = .down :=
  ⟨⟨by decide, by decide, by decide⟩, .inl ⟨by decide, by decide⟩, by decide⟩

/-- T0 in HUNT whose supervisor has seen four SILENT periods in a row. -/
def fourSilent : State := (trunkIn .hunt).setSup .t0 { Supervisor.reset with runSignature := some .silent, runLength := 4 }

/-- The fifth identifies. -/
theorem test_hyp_PeriodClassified_run :
    (fourSilent.sup .t0).tally.signature = .silent ∧ (fourSilent.sup .t0).runSignature = some .silent
    ∧ min ((fourSilent.sup .t0).runLength + 1) 5 = 5
    ∧ ∃ u, exec (.cycleStart .t0) fourSilent = .next u ∧ (u.sup .t0).lastIdentified = some .silent
      ∧ (u.sli.latches.trunk.get .t0).identified = true ∧ (u.sli.latches.trunk.get .t0).unidentified = false :=
  ⟨by decide, by decide, by decide, cycleStart_every rfl fun o => by cases o <;> decide⟩

/-- The passage of UNIDENTIFIED is reported under DETECT and not under IDENTIFY; the fifth close reports IDENTIFIED. -/
theorem test_hyp_PeriodClassified_reports :
    let under := fun (identify : Bool) (x : Supervisor) => { (ready.setPort .t0 { portIn .hunt with
      config := { (portIn .hunt).config with identifyPolicy := identify } }).setSup .t0 x with sli := masked }
    ((under false .reset).sup .t0).counters.resend ≤ 255 ∧ (Supervisor.reset.tally.signature ≠ .clean)
    ∧ (∃ u, exec (.cycleStart .t0) (under false .reset) = .next u ∧ u.sli.reports = [.trunkChange .t0 .unidentified])
    ∧ (∃ u, exec (.cycleStart .t0) (under true .reset) = .next u ∧ u.sli.reports = [])
    ∧ ∃ u, exec (.cycleStart .t0) (under true (fourSilent.sup .t0)) = .next u
      ∧ u.sli.reports.head? = some (.trunkChange .t0 .identified) :=
  ⟨by decide, by decide, cycleStart_every rfl fun o => by cases o <;> decide,
    cycleStart_every rfl fun o => by cases o <;> decide, cycleStart_every rfl fun o => by cases o <;> decide⟩

/-- T0 in a state at a position of its cycle. -/
def atPosition (st : TrunkState) (n : Nat) : State := ready.setPort .t0 { portIn st with position := n, alignCycle := 1 }

theorem test_hyp_FramesByState :
    let at0 := fun (st : TrunkState) (n : Nat) => ((atPosition st n).port .t0).state = st
      ∧ ((atPosition st n).port .t0).position = n ∧ n < ((atPosition st n).port .t0).config.k
    let express := fun (n : Nat) => Paced.reset.plan.xs ≤ n - 2 ∧ n - 2 ≤ Paced.reset.plan.xe
    ((atPosition .off 0).port .t0).state = .off ∧ ((atPosition .test 0).port .t0).state = .test
    ∧ ((atPosition .hunt 16).port .t0).config.k ≤ ((atPosition .hunt 16).port .t0).position
    ∧ at0 .hunt 15 ∧ at0 .align 1 ∧ (at0 .align 0 ∧ ((atPosition .align 0).port .t0).alignDelay < 1)
    ∧ at0 .running 0 ∧ at0 .resync 0 ∧ at0 .running 1 ∧ Table.wf .reset (atPosition .running 1).apply.records = true
    ∧ (at0 .running 2 ∧ express 2) ∧ (at0 .resync 15 ∧ express 15)
    ∧ ¬ ((⟨1, 1, 2, 2, true⟩ : Plan).xs ≤ 4 - 2 ∧ 4 - 2 ≤ (⟨1, 1, 2, 2, true⟩ : Plan).xe)
    ∧ ((⟨1, 1, 2, 2, true⟩ : Plan).bs ≤ 4 - 2 ∧ 4 - 2 ≤ (⟨1, 1, 2, 2, true⟩ : Plan).be)
    ∧ ¬ ((⟨1, 1, 2, 2, true⟩ : Plan).xs ≤ 2 - 2) ∧ ¬ ((⟨1, 1, 2, 2, true⟩ : Plan).bs ≤ 2 - 2)
    ∧ at0 .down 0 ∧ at0 .faulted 15 := by decide

/-- T0 running at position 1 with a record that owes an acknowledgement, and one that owes one without an epoch. -/
def owing : State := { (atPosition .running 1) with apply := { ApplyUnit.reset with
  records := [(1, { InRec.reset with epoch := some 3, applied := 9, ackOwed := true }), (2, { InRec.reset with ackOwed := true })] } }

theorem test_hyp_FramesByState_acks : Table.wf .reset owing.apply.records = true
    ∧ ∃ u, exec (.framePeriod .t0) owing = .next u ∧ (u.port .t0).cycleService.map (·.acks) = some [⟨1, 3, 9⟩]
      ∧ (u.port .t0).ackStart = 2 ∧ (u.inRec 1).ackOwed = false ∧ (u.inRec 2).ackOwed = false :=
  ⟨by decide, _, rfl, by decide +kernel, by decide +kernel, by decide +kernel, by decide +kernel⟩

/-- An idle slot of an echo cycle carries the cycle's SERVICE frame. -/
theorem test_hyp_FramesByState_echo :
    let p : Port := { portIn .running with
      position := 4, runCycle := 3, cycleService := some ⟨none, [], []⟩
      config := { TrunkConfig.reset with paced := { Paced.reset with
        plan := ⟨0, 1, 2, 3, false⟩, echo := true, echoM := 1, echoN := 3 } } }
    (p.config.paced.echo && p.runCycle % (p.config.paced.echoM * p.config.paced.echoN) == 0) = true
    ∧ ∃ u, exec (.framePeriod .t0) (ready.setPort .t0 p) = .next u
      ∧ (u.port .t0).line.map (fun f => (f.kind, f.echo)) = [(2, true)] :=
  ⟨by decide, _, rfl, by decide +kernel⟩

/-- A retransmit record. -/
def sentFrame (n : Nat) (queued : Bool) : SentFrame := ⟨n, { Frame.blank 3 with number := n }, ⟨0, 1⟩, 5, 5, queued⟩

/-- Bucket 1 with an entry for T0, which is running with a retransmit store. -/
def sending (store : List SentFrame) (e : JEntry) : State :=
  (withEntry .running e).setPort .t0 { portIn .running with store := store, nextFrame := 2 }

theorem test_hyp_DataSlotSends :
    let b := entry three .ready (some ⟨1, [1#8, 2#8, 3#8], photoStart⟩)
    let idle := sending [sentFrame 0 false] b
    ((sending [sentFrame 0 false, sentFrame 1 true] b).port .t0).store = [sentFrame 0 false] ++ sentFrame 1 true :: []
    ∧ (∀ x ∈ (idle.port .t0).store, x.queued = false)
    ∧ (idle.port .t0).store.length < (idle.port .t0).window
    ∧ idle.searchSlot .t0 .express = some (.express, 1) ∧ idle.sendable 1 .t0 = some b
    ∧ (idle.port .t0).nextFrame ≠ 281474976710655 ∧ b.peers.get .t0 = some .queued
    ∧ ((sending [] { b with seq := some 1, peers := ⟨some (.sending 0), none, none, none⟩ }).sendable 1 .t0).map
      (fun e => e.peers.get .t0) = some (some (.sending 0))
    ∧ (sending [] { b with bodyState := .filling }).searchSlot .t0 .express = none := by decide

theorem test_hyp_DataSlotSends_search :
    let b := entry three .ready (some ⟨1, [1#8, 2#8, 3#8], photoStart⟩)
    let s := sending [] b
    let last := s.setPort .t0 { s.port .t0 with nextFrame := 281474976710655 }
    let round := s.setPort .t0 { s.port .t0 with expressStart := 2 }
    Table.wf .reset s.buckets = true ∧ s.searchClass .t0 .express = some 1 ∧ round.searchClass .t0 .express = some 1
    ∧ (s.searchClass .t0 .bulk = none ∧ s.searchSlot .t0 .bulk = some (.express, 1))
    ∧ last.searchSlot .t0 .express = some (.express, 1) ∧ last.sendable 1 .t0 = some b
    ∧ (last.port .t0).nextFrame = 281474976710655
    ∧ ∃ u, exec (.framePeriod .t0) (last.setPort .t0 { last.port .t0 with position := 2 }) = .next u
      ∧ (u.port .t0).state = .hunt ∧ (u.port .t0).line.map (·.kind) = [4] ∧ (u.port .t0).stats.protocolRestarts = 1 :=
  ⟨by decide, by decide, by decide, by decide, by decide, by decide, by decide, _, rfl, by decide, by decide, by decide⟩

theorem test_hyp_DataSlotSends_window (s : State)
    (h : (s.port .t0).store = (List.range 32768).map fun i => sentFrame i false) :
    (∀ x ∈ (s.port .t0).store, x.queued = false) ∧ (s.port .t0).window ≤ (s.port .t0).store.length := by
  refine ⟨fun x hx => ?_, ?_⟩
  · rw [h] at hx
    obtain ⟨i, _, rfl⟩ := List.mem_map.1 hx
    rfl
  · rw [h, List.length_map, List.length_range]
    exact Port.window_le _

theorem test_hyp_TimersExpire :
    let one := (trunkIn .running).setPort .t0 { portIn .running with store := [sentFrame 3 false] }
    let timed := fun (st : TrunkState) => (trunkIn st).setSup .t0 { Supervisor.reset with
      resync := some ⟨0, 9⟩, stall := some ⟨0, 9⟩, counters := ⟨0, 0, 255⟩ }
    ((trunkIn .down).port .t0).state = .down ∧ ((trunkIn .faulted).port .t0).state = .faulted
    ∧ (one.port .t0).store.find? (fun y => y.number == 3 && !y.queued) = some (sentFrame 3 false)
    ∧ (one.sup .t0).counters.resend < 255 ∧ 255 ≤ ((timed .running).sup .t0).counters.resend
    ∧ (∀ y ∈ (one.port .t0).store, y.number = 4 → y.queued = true)
    ∧ ((timed .align).port .t0).state = .align ∧ ((timed .resync).port .t0).state = .resync
    ∧ ((timed .align).sup .t0).resync = some ⟨0, 9⟩ ∧ ((trunkIn .align).sup .t0).resync = none
    ∧ ((timed .running).port .t0).state = .running ∧ ((timed .running).sup .t0).stall = some ⟨0, 9⟩
    ∧ ((trunkIn .running).sup .t0).stall = none := by decide

/-- An event at 255 is reported behind its latch. -/
theorem test_hyp_TimersExpire_saturated :
    let s := { ((trunkIn .running).setPort .t0 { portIn .running with store := [sentFrame 3 false] }).setSup .t0
      { Supervisor.reset with counters := ⟨0, 0, 255⟩ } with sli := masked }
    ∃ u, exec (.rtoExpiry .t0 3) s = .next u
      ∧ u.sli.reports = [.trunkChange .t0 .counterSat, .counterSaturated .t0 .resend] := ⟨_, rfl, by decide⟩

/-- T0 in a state with identified signatures asked for. -/
def asked (st : TrunkState) (q : List Signature) : State := (trunkIn st).setSup .t0 { Supervisor.reset with requests := q }

theorem test_hyp_IdentificationTable :
    (State.reset.sup .t0).requests = []
    ∧ (∀ st ∈ [TrunkState.off, .test, .hunt, .align, .running, .resync, .down, .faulted],
      ∀ sig ∈ [Signature.silent, .looped, .foreign, .garbled],
        ((asked st [sig]).sup .t0).requests = sig :: [] ∧ ((asked st [sig]).port .t0).state = st) := by decide

/-! ### Arrivals -/

/-- A HEAD of a site with an alignment word and K in range. -/
def head (site : Byte) : HeadFrame := ⟨site, 8#8, 0x5E3AC691#32, inc, 1#8, true, true, false⟩

/-- T0 with a lock. -/
def locked (st : TrunkState) (x : Lock) : State := ready.setPort .t0 { portIn st with lock := x, rxPos := 40 }

theorem test_hyp_HeadReceivedAndLock :
    (State.reset.port .t0).state = .off ∧ ((trunkIn .test).port .t0).state = .test
    ∧ (((trunkIn .hunt).port .t0).state = .hunt ∧ ((trunkIn .hunt).port .t0).config.peer = some (head 7#8).site.toNat
      ∧ (head 7#8).ready = true ∧ ((trunkIn .hunt).port .t0).recorded = some (head 7#8).incarnation
      ∧ (head 7#8).align = 0x5E3AC691#32 ∧ 8 ≤ (head 7#8).k.toNat ∧ (head 7#8).k.toNat ≤ 32
      ∧ ((trunkIn .hunt).port .t0).lock.held = false ∧ ((trunkIn .hunt).port .t0).lock.run = 0)
    ∧ ((trunkIn .down).port .t0).state = .down
    ∧ (((trunkIn .running).port .t0).recorded = some inc ∧ inc ≠ { head 7#8 with incarnation := 9#64 }.incarnation
      ∧ Table.wf .reset (trunkIn .running).apply.records = true)
    ∧ ((trunkIn .hunt).port .t0).config.peer ≠ some (head 63#8).site.toNat
    ∧ (let x : Lock := ⟨true, some 8, some 40, 0, 0, false⟩
      let y : Lock := ⟨false, some 8, some 40, 1, 0, false⟩
      ((locked .running { x with expected := some 41 }).port .t0).lock.expected ≠ some 40
      ∧ ((locked .running x).port .t0).lock.expected = some ((locked .running x).port .t0).rxPos
      ∧ (none : Option Nat) ≠ x.remoteK ∧ (some 8 : Option Nat) = x.remoteK ∧ x.headErrors + 1 < 3
      ∧ 3 ≤ { x with headErrors := 2 }.headErrors + 1
      ∧ 0 < y.run ∧ y.expected = some 40 ∧ y.remoteK = some 8 ∧ ¬ (0 < Lock.reset.run)
      ∧ ((locked .align y).port .t0).lock.held = false ∧ ((locked .align y).port .t0).state = .align
      ∧ ((locked .resync y).port .t0).state = .resync ∧ (y.seek 40 (some 8)).run = 2 ∧ (y.seek 40 none).run ≠ 2) := by
  decide

theorem test_hyp_HeadReceivedAndLock_goesOn :
    (∀ st ∈ [TrunkState.align, .running, .resync], ((trunkIn st).port .t0).state ∈ [.align, .running, .resync]
      ∧ ((trunkIn st).port .t0).config.peer = some (head 7#8).site.toNat
      ∧ ((trunkIn st).port .t0).recorded = some (head 7#8).incarnation)
    ∧ (((trunkIn .hunt).port .t0).state = .hunt ∧ { head 7#8 with ready := false }.ready = false)
    ∧ ((head 7#8).align = 0x5E3AC691#32 ∧ 8 ≤ (head 7#8).k.toNat ∧ (head 7#8).k.toNat ≤ 32)
    ∧ ¬ (8 ≤ { head 7#8 with k := 33#8 }.k.toNat ∧ { head 7#8 with k := 33#8 }.k.toNat ≤ 32)
    ∧ (false = (⟨false, 2⟩ : AlarmFilter).alarm ∧ true ≠ (⟨false, 1⟩ : AlarmFilter).alarm ∧ (⟨false, 1⟩ : AlarmFilter).run + 1 < 3
      ∧ 3 ≤ (⟨false, 2⟩ : AlarmFilter).run + 1)
    ∧ ∃ u, exec (.headReceived .t0 { head 7#8 with alarm := true })
        (ready.setPort .t0 { portIn .running with filter := ⟨false, 2⟩ }) = .next u
      ∧ (u.port .t0).filter = ⟨true, 0⟩ ∧ (u.sli.latches.trunk.get .t0).remoteAlarm = true
      ∧ (u.port .t0).lock.peerLocked = true ∧ (u.port .t0).lastCycle = 1 :=
  ⟨by decide, by decide, by decide, by decide, by decide, _, rfl, by decide, by decide, by decide, by decide⟩

/-- A HEAD in the states without a lock, of a changed incarnation, and from another site. -/
theorem test_hyp_HeadReceivedAndLock_peer :
    (∀ st ∈ [TrunkState.down, .faulted], ((trunkIn st).port .t0).state = .down ∨ ((trunkIn st).port .t0).state = .faulted)
    ∧ ((ready.setPort .t0 { portIn .down with recorded := none }).port .t0).recorded = none
    ∧ ((ready.setPort .t0 { portIn .down with recorded := none }).port .t0).config.peer = some (head 7#8).site.toNat
    ∧ (∀ st ∈ [TrunkState.hunt, .align, .down, .faulted, .running, .resync],
      ((trunkIn st).port .t0).state ∈ [TrunkState.hunt, .align, .down, .faulted, .running, .resync]
      ∧ ((trunkIn st).port .t0).config.peer = some { head 7#8 with incarnation := 9#64 }.site.toNat
      ∧ ((trunkIn st).port .t0).recorded = some inc ∧ inc ≠ { head 7#8 with incarnation := 9#64 }.incarnation
      ∧ Table.wf .reset (trunkIn st).apply.records = true)
    ∧ (∃ u, exec (.headReceived .t0 { head 7#8 with incarnation := 9#64 }) half = .next u
      ∧ u.apply.backlog = 2 ∧ u.body.inUse = 3 ∧ u.map.map (fun x => x.pins) = [0] ∧ (u.port .t0).state = .hunt)
    ∧ (let x : Lock := ⟨true, some 8, some 40, 0, 2, true⟩
      ∃ u, exec (.invalidFrameReceived .t0) (locked .running { x with expected := some 41 }) = .next u
        ∧ (u.port .t0).state = .resync ∧ (u.port .t0).lock = ⟨false, none, none, 0, 0, true⟩
        ∧ (u.sup .t0).counters = ⟨1, 1, 0⟩)
    ∧ ∃ u, exec (.headReceived .t0 { head 7#8 with alarm := true })
        (ready.setPort .t0 { portIn .hunt with filter := ⟨false, 2⟩ }) = .next u
      ∧ (u.port .t0).state = .align ∧ (u.port .t0).filter = ⟨true, 0⟩
      ∧ (u.sli.latches.trunk.get .t0).remoteAlarm = true :=
  ⟨by decide, by decide, by decide, by decide, ⟨_, rfl, by decide, by decide, by decide, by decide⟩, ⟨_, rfl, by decide,
    by decide, by decide⟩, _, rfl, by decide, by decide, by decide⟩

theorem test_hyp_FillAndProbeHeard :
    (∀ st ∈ [TrunkState.hunt, .down, .faulted, .running, .resync], ((trunkIn st).port .t0).state = st
      ∧ ((trunkIn st).port .t0).config.peer = some (7#8).toNat ∧ ((trunkIn st).port .t0).recorded = some inc)
    ∧ ({ portIn .running with prevHead := true, peerSeenRunning := true } : Port).state = .running
    ∧ ∃ u, exec (.probeReceived .t0 ⟨7#8, inc, true⟩) (trunkIn .hunt) = .next u
      ∧ (u.port .t0).state = .hunt ∧ (u.port .t0).heard = true ∧ (u.port .t0).peerHears = true :=
  ⟨by decide, by decide, _, rfl, by decide, by decide, by decide⟩

theorem test_hyp_FillAndProbeHeard_incarnation :
    ((ready.setPort .t0 { portIn .align with recorded := none }).port .t0).recorded = none
    ∧ (∀ st ∈ [TrunkState.hunt, .align, .down, .faulted, .running, .resync], ((trunkIn st).port .t0).recorded = some inc
      ∧ inc ≠ (⟨7#8, 9#64, true⟩ : FillFrame).incarnation ∧ inc ≠ (⟨7#8, 9#64, true⟩ : ProbeFrame).incarnation
      ∧ ((trunkIn st).port .t0).config.peer = some (7#8).toNat)
    ∧ Table.wf .reset (withQueue [inEntry 1 true] none false []).apply.records = true := by decide

theorem test_hyp_FillAndProbeHeard_others :
    (State.reset.port .t0).state = .off ∧ ((trunkIn .test).port .t0).state = .test
    ∧ (∀ st ∈ [TrunkState.hunt, .align, .running, .resync, .down, .faulted], ((trunkIn st).port .t0).state ≠ .off
      ∧ ((trunkIn st).port .t0).state ≠ .test ∧ ((trunkIn st).port .t0).config.peer ≠ some (63#8).toNat)
    ∧ (∀ st ∈ [TrunkState.align, .running, .resync], ((trunkIn st).port .t0).state ∈ [.align, .running, .resync]
      ∧ ((trunkIn st).port .t0).config.peer = some (7#8).toNat ∧ ((trunkIn st).port .t0).recorded = some inc
      ∧ ((trunkIn st).port .t0).prevHead = false)
    ∧ ((ready.setPort .t0 { portIn .align with recorded := none }).port .t0).recorded = none
    ∧ ∃ u, exec (.fillReceived .t0 ⟨5#8, inc, true⟩) (trunkIn .running) = .next u
      ∧ (u.sup .t0).tally = ⟨1, 0, true, false, false⟩ ∧ (u.port .t0).state = .running :=
  ⟨by decide, by decide, by decide, by decide, by decide, _, rfl, by decide, by decide⟩

/-- A changed incarnation takes the trunk's records off the slot wait list. -/
theorem test_incarnation_leavesList :
    let s := withQueue [inEntry 3 true] none false (slotsOf 256)
    ∃ u, exec (.fillReceived .t0 ⟨7#8, 9#64, true⟩) { s with apply := { s.apply with waitList := [1, 4097] } } = .next u
      ∧ u.apply.waitList = [4097] ∧ (u.inRec 1).queue.length = 1 := ⟨_, rfl, by decide +kernel, by decide +kernel⟩

theorem test_hyp_InvalidFrameCounted : (State.reset.port .t0).state = .off ∧ ((trunkIn .hunt).port .t0).state ≠ .off
    ∧ ((trunkIn .hunt).port .t0).state ≠ .test ∧ ((trunkIn .hunt).sup .t0).counters.frameCheck < 255
    ∧ 255 ≤ (({ trunkIn .hunt with sups := .all { Supervisor.reset with counters := ⟨255, 0, 0⟩ } }).sup .t0).counters.frameCheck := by
  decide

theorem test_hyp_ServiceRemovesAcknowledged :
    let f : ServiceFrame := ⟨some 0, [false, true] ++ List.replicate 254 false, []⟩
    let st := [sentFrame 1 false, { sentFrame 2 false with firstSend := 9 }]
    ((sending st (entry .drop .ready none)).port .t0).state = .running ∧ f.acks.length ≤ 1000 ∧ f.wellFormed = true
    ∧ (0 + 1 ≤ 2 ∧ f.marks.getD (2 - (0 + 1)) false = true) ∧ f.marks.getD (1 - (0 + 1)) false = false
    ∧ (1 < 2 ∧ (sentFrame 1 false).lastSend < 9)
    ∧ ((trunkIn .hunt).port .t0).state ∈ [.hunt, .align, .down, .faulted]
    ∧ ((trunkIn .off).port .t0).state = .off ∧ ((trunkIn .test).port .t0).state = .test
    ∧ ((sending st (entry .drop .ready none)).port .t0).peerThrough = none := by decide

theorem test_hyp_ServiceRemovesAcknowledged_resend :
    let s := sending [sentFrame 1 false, { sentFrame 2 false with firstSend := 9 }] (entry .drop .ready none)
    let f : ServiceFrame := ⟨some 0, [false, true] ++ List.replicate 254 false, []⟩
    let full := s.setSup .t0 { s.sup .t0 with counters := ⟨0, 0, 255⟩ }
    ((s.sup .t0).counters.resend ≤ 255 ∧ (full.sup .t0).counters.resend ≤ 255) ∧ f.acks = []
    ∧ (∃ u, exec (.serviceReceived .t0 { f with acks := [] }) s = .next u ∧ (u.sup .t0).counters.resend = 1
      ∧ (u.port .t0).store.map (fun x => (x.number, x.queued)) = [(1, true)])
    ∧ ∃ u, exec (.serviceReceived .t0 f) full = .next u ∧ (u.sup .t0).counters.resend = 255
      ∧ (u.sli.latches.trunk.get .t0).counterSat = true :=
  ⟨by decide, rfl, ⟨_, rfl, by decide, by decide⟩, _, rfl, by decide, by decide⟩

theorem test_hyp_ServiceRemovesAcknowledged_many : 1000 < (List.replicate 1001 (⟨0, 0, 0⟩ : EntryAck)).length := by
  rw [List.length_replicate]
  decide

theorem test_hyp_EntryAcknowledgements :
    let s := (sealedAs .running 1).setBucket 1
      ⟨.active, ⟨true, false, false, false⟩, .express, 2, ⟨1, 0, 0, 0⟩, ⟨true, false, false, false⟩, false⟩
    (s.bucket 2).state = .absent ∧ (2 : Nat) ≠ (s.bucket 1).epochs.get .t0 ∧ (s.bucket 1).nextSeq - 1 < 2
    ∧ (s.bucket 1).targets.get .t1 = false
    ∧ (1 = (s.bucket 1).epochs.get .t0 ∧ ¬ ((s.bucket 1).nextSeq - 1 < 1) ∧ (s.bucket 1).targets.get .t0 = true
      ∧ (s.bucket 1).state ≠ .absent)
    ∧ s.journal.entries.map (fun e => (e.bucket, (e.peers.get .t0).isSome, e.seq)) = [(1, true, some 1)] := by decide

theorem test_hyp_EntryAcknowledgements_covered :
    let b : Bucket := ⟨.active, ⟨true, false, false, false⟩, .express, 3, ⟨1, 0, 0, 0⟩, ⟨true, false, false, false⟩, false⟩
    let s := (sealedAs .running 1).setBucket 1 b
    let covered := fun (n : Nat) (e : JEntry) => e.bucket == 1 && (e.peers.get .t0).isSome && e.seq.any fun m => decide (m ≤ n)
    (∀ e ∈ s.journal.entries, covered 0 e = false) ∧ (∃ e ∈ s.journal.entries, covered 1 e = true)
    ∧ (s.journal.entries.filter fun e => covered 1 e && ({ e with peers := e.peers.set .t0 none }).noPending).length = 1
    ∧ (s.bucket 1).state ≠ .draining ∧ ((s.setBucket 1 { b with state := .draining }).bucket 1).state = .draining
    ∧ (s.bucket 4096).state = .absent ∧ (s.entryAck .t0 ⟨4096, 0, 0⟩).sli.stats.badAcks = 1
    ∧ ((s.setBucket 1 { b with state := .draining }).entryAck .t0 ⟨1, 1, 1⟩).journal.entries = []
    ∧ (((s.setBucket 1 { b with state := .draining }).entryAck .t0 ⟨1, 1, 1⟩).bucket 1).state = .absent := by decide

theorem test_hyp_EntryAcknowledgements_form : EntriesOk (sealedAs .running 1).journal.entries :=
  entries_one _ _ rfl rfl

/-- T0 running with a reorder store and E at 4. -/
def reordering (x : Table (List Byte)) : State := ready.setPort .t0 { portIn .running with reorder := x, expectedFrame := 4 }

theorem test_hyp_CarryPlaced :
    let p := (reordering [(6, [])]).port .t0
    p.state = .running
    ∧ (3 < p.expectedFrame ∧ (p.reorder.lookup 6).isSome = true ∧ p.expectedFrame + 32768 ≤ 32772)
    ∧ (¬ (4 < p.expectedFrame) ∧ (p.reorder.lookup 4).isSome = false ∧ ¬ (p.expectedFrame + 32768 ≤ 4))
    ∧ (¬ (32771 < p.expectedFrame) ∧ (p.reorder.lookup 32771).isSome = false ∧ ¬ (p.expectedFrame + 32768 ≤ 32771)
      ∧ 32771 ≠ p.expectedFrame ∧ p.reorder.lookup p.expectedFrame = none)
    ∧ ((trunkIn .align).port .t0).state ∈ [.hunt, .align, .down, .faulted]
    ∧ ((trunkIn .off).port .t0).state = .off ∧ ((trunkIn .test).port .t0).state = .test := by decide

/-- A NOTICE of a DROP for bucket 1 at epoch 1. -/
def notice (seq : Nat) : Notice := ⟨3, false, 1, 1, seq, 0, 0, 9#128, inc, 0#64, []⟩

/-- T0 running with a NOTICE at the head of its reorder store, and its record's epoch and expected seq. -/
def noticed (n : Notice) (epoch : Option Nat) : State :=
  { (reordering [(4, slice (noticePayload n) 0 8160)]) with apply :=
    { ApplyUnit.reset with records := [(1, { InRec.reset with epoch := epoch, expected := 3 })] } }

theorem test_hyp_NoticeClassified :
    (notice 0).malformed = true ∧ ((notice 3).malformed = false ∧ (notice 3).bucket < 4096)
    ∧ { notice 3 with bucket := 4096 }.malformed = false
    ∧ ((noticed (notice 3) none).inRec 1).epoch = none
    ∧ (((noticed (notice 3) (some 1)).inRec 1).epoch = some (notice 3).epoch
      ∧ ((noticed (notice 3) (some 1)).inRec 1).reassembly = none
      ∧ (notice 3).seq = ((noticed (notice 3) (some 1)).inRec 1).expected
      ∧ (notice 2).seq < ((noticed (notice 3) (some 1)).inRec 1).expected
      ∧ ((noticed (notice 3) (some 1)).inRec 1).expected < (notice 4).seq)
    ∧ ((noticed (notice 3) (some 1)).port .t0).state = .running ∧ ((trunkIn .hunt).port .t0).state ≠ .running
    ∧ (noticed (notice 3) (some 1)).apply.backlog < 16384
    ∧ 16384 ≤ { ApplyUnit.reset with backlog := 16384 }.backlog := by decide

/-- A NOTICE of a BODY of one byte. -/
def bodyNotice : Notice := { notice 3 with kind := 1, bodyLength := 1, segments := 1 }

theorem test_hyp_NoticeClassified_retry :
    let s := noticed bodyNotice (some 1)
    (s.port .t0).reorder.lookup (s.port .t0).expectedFrame = some (slice (noticePayload bodyNotice) 0 8160)
    ∧ parsePiece (slice (noticePayload bodyNotice) 0 8160) = .notice bodyNotice ∧ bodyNotice.malformed = false
    ∧ 0 < bodyNotice.segments ∧ s.body.inUse + (bodyNotice.bodyLength + 8127) / 8128 ≤ 196608
    ∧ (s.port .t0).reorder.lookup ((s.port .t0).expectedFrame + 1) = none := by decide +kernel

/-- What a dispatch came to: taken, waits, error. -/
def cameTo : Released → Nat
  | .taken _ => 0
  | .waits _ => 1
  | .error _ => 2

/-- The record of T0 and bucket 1 while an entry of two segments is rebuilt, or a duplicate of two passed over. -/
def rebuilding (received : Nat) (bytes : List Byte) : State := { (reordering []) with apply := { ApplyUnit.reset with
  records := [(1, { InRec.reset with
    epoch := some 1
    expected := 3
    reassembly := some ⟨{ notice 3 with kind := 1, bodyLength := 8129, segments := 2 }, received, 2, bytes,
      photoFold photoStart bytes, true, true⟩ })] } }
def passing (passed : Nat) : State := { (reordering []) with apply := { ApplyUnit.reset with
  records := [(1, { InRec.reset with epoch := some 1, expected := 3, skip := some ⟨2, 2, passed⟩ })] } }

/-- Release: a piece taken, one that waits, a SEQ-GAP. -/
theorem test_hyp_CarryPlaced_release :
    let s := (noticed (notice 3) (some 1)).setPort .t0 { (portIn .running) with expectedFrame := 4 }
    let full := { s with apply := { s.apply with backlog := 16384 } }
    parsePiece (noticePayload (notice 3)) = .notice (notice 3) ∧ parsePiece [9#8] = .stray
    ∧ cameTo (s.dispatch .t0 (noticePayload (notice 3))) = 0 ∧ cameTo (full.dispatch .t0 (noticePayload (notice 3))) = 1
    ∧ cameTo (s.dispatch .t0 (noticePayload (notice 4))) = 2
    ∧ cameTo (s.dispatchNotice .t0 { notice 3 with bucket := 4096 }) = 2
    ∧ (((noticed (notice 4) (some 1)).release .t0).port .t0).stats.protocolRestarts = 1 := by decide +kernel

/-- The cases of a SEGMENT: next but not last, last, passed over, passed over whatever its count, neither. -/
theorem test_hyp_CarryPlaced_segment :
    cameTo ((rebuilding 0 []).dispatchSegment .t0 ⟨1, 3, 0, 8128, List.replicate 8128 0#8⟩) = 0
    ∧ cameTo ((rebuilding 1 []).dispatchSegment .t0 ⟨1, 3, 1, 1, [7#8]⟩) = 2
    ∧ cameTo ((rebuilding 0 []).dispatchSegment .t0 ⟨1, 3, 0, 1, [7#8]⟩) = 2
    ∧ cameTo ((passing 0).dispatchSegment .t0 ⟨1, 2, 0, 1, [7#8]⟩) = 0
    ∧ cameTo ((passing 1).dispatchSegment .t0 ⟨1, 2, 1, 0, []⟩) = 0
    ∧ cameTo ((passing 0).dispatchSegment .t0 ⟨1, 2, 1, 1, [7#8]⟩) = 2
    ∧ cameTo (State.reset.dispatchSegment .t0 ⟨4096, 1, 0, 1, [7#8]⟩) = 2 := by decide +kernel

/-- Completion: equal checks, and unequal ones. -/
theorem test_hyp_CarryPlaced_complete :
    let e := fun (check : BitVec 64) => ({ inEntry 1 true with notice := { (inEntry 1 true).notice with check := check } } : InEntry)
    photoFinish (e (photoFinish photoStart)).crc = (e (photoFinish photoStart)).notice.check
    ∧ photoFinish (e (~~~photoFinish photoStart)).crc ≠ (e (~~~photoFinish photoStart)).notice.check := by decide

/-- Room and none, an object the map takes and one it cannot. -/
theorem test_hyp_NoticeClassified_accept :
    let s := noticed (notice 3) (some 1)
    let mapped := fun (s : State) => s.map.any (isObj 1 9#128) || decide (s.map.length < 65536) || s.map.any (fun x => x.pins == 0)
    (s.apply.backlog < 16384 ∧ s.body.inUse + 0 ≤ 196608 ∧ mapped s = true)
    ∧ ¬ ({ ApplyUnit.reset with backlog := 16384 }.backlog < 16384)
    ∧ mapped { s with map := fullMap.map } = false := by
  refine ⟨by decide, by decide, ?_⟩
  simp only [Bool.or_eq_false_iff]
  refine ⟨⟨List.any_eq_false.2 fun x h => ?_, ?_⟩, List.any_eq_false.2 fun x h => ?_⟩
  · cases List.eq_of_mem_replicate h
    decide
  · show decide ((List.replicate 65536 (_ : ObjRec)).length < 65536) = false
    rw [List.length_replicate]
    rfl
  · cases List.eq_of_mem_replicate h
    decide

/-! ### The Apply Unit -/

theorem test_hyp_ApplyForwarded :
    let q := fun (e : InEntry) => withQueue [e] none false []
    let mapped := fun (x : Stamp) => { (q (inEntry 3 true)) with map := [⟨1, 9#128, some x, false, none, 1⟩] }
    ((q (inEntry 4 false)).inRec 1).queue = inEntry 4 false :: [] ∧ ((q (inEntry 4 false)).inRec 1).held = false
    ∧ ((q (inEntry 4 false)).inRec 1).inFlight = none ∧ (inEntry 4 false).notice.kind = 4
    ∧ ((withQueue [inEntry 3 true] none true []).inRec 1).held = true
    ∧ ((withQueue [inEntry 3 true] (some 5) false []).inRec 1).inFlight.isSome = true
    ∧ (inEntry 3 true).notice.kind ≠ 4
    ∧ (q (inEntry 3 true)).apply.slots.length + (q (inEntry 3 true)).apply.granted.length < 256
    ∧ ((mapped 0x3D0F4000101#64).map.find? fun x => x.bucket == 1 && x.digest == 9#128).bind (fun x => x.stamp)
      = some 0x3D0F4000101#64
    ∧ (inEntry 3 true).notice.stamp.toNat < (0x3D0F4000101#64 : Stamp).toNat
    ∧ ¬ ((inEntry 3 true).notice.stamp.toNat < (0x3D0F4000100#64 : Stamp).toNat)
    ∧ ((withQueue [] none false []).inRec 1).queue = []
    ∧ (let full := (List.range 256).map fun i => (⟨i + 1, .t1, 0, none⟩ : ApplySlot)
      ¬ (1 ∈ (withQueue [inEntry 3 true] none false full).apply.granted)
      ∧ ¬ ((withQueue [inEntry 3 true] none false full).apply.slots.length + 0 < 256)) := by decide

theorem test_hyp_ApplyAnswered :
    let s0 := withQueue [inEntry 3 true] (some 257) false [⟨257, .t0, 1, none⟩]
    let s := { s0 with sli := { s0.sli with tags := [(257, .apply)] } }
    s.sli.asm.buf = [] ∧ bodyCheck reply257.body = reply257.check ∧ s.sli.tags.lookup reply257.tag.toNat = some .apply
    ∧ s.apply.slots.find? (fun x => x.tag == reply257.tag.toNat) = some ⟨reply257.tag.toNat, .t0, 1, none⟩
    ∧ (s.inRec (Trunk.t0.index * 4096 + 1)).queue = inEntry 3 true :: [] := by decide

/-- The answer to an APPLY whose peer changed: the room is released. -/
theorem test_hyp_ApplyAnswered_orphan :
    let s0 := withQueue [] none false [⟨257, .t0, 1, some (inEntry 3 false)⟩]
    let s := { s0 with sli := { s0.sli with tags := [(257, .apply)] } }
    s.apply.slots.find? (fun x => x.tag == reply257.tag.toNat) = some ⟨reply257.tag.toNat, .t0, 1, some (inEntry 3 false)⟩
    ∧ ∃ u, exec (.applyReply 0x40#8 1#16 reply257) s = .next u ∧ u.apply.backlog = 0 ∧ u.apply.slots = []
      ∧ u.sli.latches.part.applyHeld = false := ⟨by decide, _, rfl, by decide, by decide, by decide⟩

/-! ### Frames and records -/

theorem test_hyp_FrameLayoutAndRoundTrip :
    (⟨some 281474976710654, List.replicate 256 true, [⟨65535, 65535, 4294967295⟩]⟩ : ServiceFrame).wellFormed = true
    ∧ (281474976710655 : Nat) < 2 ^ 48 ∧ (Frame.blank 4).payload.length ≤ 8160
    ∧ ∃ payload : List Byte, payload.length = 8160 :=
  ⟨by decide, by decide, by decide, List.replicate 8160 0#8, List.length_replicate⟩

/-- A NOTICE and a SEGMENT with fields at the top of their ranges. -/
def topNotice : Notice :=
  ⟨255, true, 65535, 65535, 4294967295, 4294967295, 4294967295, 9#128, inc, 0#64, [⟨255, List.replicate 48 0#8⟩]⟩
def topSegment : Segment := ⟨65535, 4294967295, 4294967295, 1, [7#8]⟩

theorem test_hyp_PieceAndRecordLayoutAndRoundTrip :
    (topNotice.kind < 256 ∧ topNotice.bucket < 65536 ∧ topNotice.epoch < 65536 ∧ topNotice.seq < 2 ^ 32
      ∧ topNotice.bodyLength < 2 ^ 32 ∧ topNotice.segments < 2 ^ 32 ∧ topNotice.patches.length ≤ 32
      ∧ ∀ p ∈ topNotice.patches, p.field < 256 ∧ p.value.length ≤ 48)
    ∧ (topSegment.bucket < 65536 ∧ topSegment.seq < 2 ^ 32 ∧ topSegment.index < 2 ^ 32
      ∧ topSegment.count = topSegment.bytes.length ∧ topSegment.count ≤ 8128)
    ∧ (wire []).body.length ≤ 65520 ∧ hostRequests.length = 21 ∧ 4294967295 < 256 ^ 4
    ∧ (let head := (submitPatch 1 9).take 40
      head.length = 40 ∧ fieldAt head 3 1 = 1 ∧ head ++ patchBytes [⟨4, [0xAB#8]⟩] = submitPatch 1 9)
    ∧ ((parseSubmit (submitBody 1 9)).kind = 1 ∧ (parseSubmit (submitBody 1 9)).length ≠ 0)
    ∧ (parseSubmit (submitLong 0).body).kind = 1 ∧ (parseSubmit (submitLong 0).body).length = 0 := by decide

end Sys2Proof.Machine.Tests
end

/-! # The journal and the buckets: BUCKET_QUERY, a bucket created, SUBMIT refused before its checks -/

namespace Sys2Proof.Machine

/-! ## A host request taken whole -/

/-- An owner's answer put on the link as the reply to a request. -/
def Answer.replied (a : Answer) (kind : Byte) (w : Wire) : State := a.state.reply kind w a.result a.body

/-- The tests of R180 passed: the request's reply is its owner's answer. -/
theorem request_of_intact (kind : Byte) {fits : List Byte → Bool} (act : List Byte → State → Answer) {w : Wire} (s : State)
    (hcheck : bodyCheck w.body = w.check) (hfits : fits w.body = true) :
    request kind fits act w s = (act w.body s.requestTaken).replied kind w := by
  have hsound : damaged w = false := by simp [damaged, hcheck]
  simp [request, hsound, hfits, Answer.replied]

/-- A request that arrives intact where no bytes are held is answered by its owner. The first two premises say which
request it is; each holds by rfl. -/
theorem exec_of_intact {c : Instr} {bytes : List Byte} {kind : Byte} {fits : List Byte → Bool}
    {act : List Byte → State → Answer} {w : Wire} {s : State} (hexec : exec c s = .next (s.recordIn c bytes))
    (hact : s.act c = request kind fits act w s) (hbuf : s.sli.asm.buf = []) (hcheck : bodyCheck w.body = w.check)
    (hfits : fits w.body = true) :
    exec c s = .next ((act w.body s.requestTaken).replied kind w) := by
  rw [hexec, State.recordIn_clear s c bytes hbuf, hact, request_of_intact kind act s hcheck hfits]

/-- The same for a request of one size. -/
theorem Intact.exec_eq {c : Instr} {bytes : List Byte} {kind : Byte} {n : Nat} {act : List Byte → State → Answer} {w : Wire}
    {s : State} (h : Intact s w n) (hexec : exec c s = .next (s.recordIn c bytes))
    (hact : s.act c = request kind (fitsSize n) act w s) :
    exec c s = .next ((act w.body s.requestTaken).replied kind w) := by
  obtain ⟨hbuf, hcheck, hlen⟩ := h
  exact exec_of_intact hexec hact hbuf hcheck (by simp [fitsSize, hlen])

/-! ## BUCKET_QUERY -/

theorem answerBucketQuery_of_lt {body : List Byte} (s : State) (h : fieldAt body 0 2 < 4096) :
    answerBucketQuery body s = ⟨s, .ok, s.bucketBody (fieldAt body 0 2)⟩ := if_pos h

theorem answerBucketQuery_of_ge {body : List Byte} (s : State) (h : 4096 ≤ fieldAt body 0 2) :
    answerBucketQuery body s = ⟨s, .badArgument, List.replicate 64 0#8⟩ := if_neg (Nat.not_lt.mpr h)

/-- Settles O13: the two answers of BUCKET_QUERY, divided at bucket id 4,095; the reply body is read off its layout. -/
theorem bucketQueryReply : Obligations.BucketQueryReply := by
  intro w s hw
  refine ⟨fun habove => ?_, fun hid => ?_⟩
  · rw [hw.exec_eq rfl rfl, answerBucketQuery_of_ge s.requestTaken habove]
    rfl
  · rw [hw.exec_eq rfl rfl, answerBucketQuery_of_lt s.requestTaken (Nat.lt_succ_of_le hid)]
    rfl

/-! ## BUCKET_SET on an ABSENT bucket -/

@[simp] theorem State.setBucket_bucket_self (s : State) (b : Nat) (r : Bucket) : (s.setBucket b r).bucket b = r :=
  Table.get_set_self Bucket.reset b r s.buckets

theorem bandOf_code (band : Band) : bandOf band.code = some band := by cases band <;> rfl

/-- R2 step 2 does not refuse: every slot named has a peer. -/
theorem State.peerless_eq_false {s : State} {targets : Quad Bool}
    (h : ∀ t, targets.get t = true → (s.port t).config.peer ≠ none) : s.peerless targets = false := by
  unfold State.peerless
  rw [List.any_eq_false]
  intro t _ hbad
  obtain ⟨hnamed, hnone⟩ := Bool.and_eq_true_iff.mp hbad
  exact h t hnamed (Option.isNone_iff_eq_none.mp hnone)

/-- The epochs of a bucket created: those of the target slots are raised (R3). -/
theorem Bucket.created_epochs_get (r : Bucket) (state : BucketState) (targets : Quad Bool) (band : Band) (t : Trunk) :
    (r.created state targets band).epochs.get t =
      if targets.get t then (r.epochs.get t + 1) % 65536 else r.epochs.get t := by
  cases t <;> rfl

/-- An accepted BUCKET-SET on an ABSENT bucket writes the record created, and nothing else (R3). -/
theorem State.setUpBucket_absent {s : State} {b : Nat} (state : BucketState) (targets : Quad Bool) (band : Band)
    (h : (s.bucket b).state = .absent) :
    s.setUpBucket b state targets band = s.setBucket b ((s.bucket b).created state targets band) := if_pos h

/-- The checks of R2 passed, BUCKET-SET sets up the bucket and replies with it as it then stands. -/
theorem answerBucketSet_accepted {body : List Byte} {s u : State} {state : BucketState} {band : Band}
    (hid : (parseBucket body).bucket < 4096) (hstate : requestedState (parseBucket body).state = some state)
    (hband : bandOf (parseBucket body).band = some band) (hpeers : s.peerless (parseBucket body).targets = false)
    (hexists : ¬ ((s.bucket (parseBucket body).bucket).state = .absent ∧ state = .draining))
    (hset : s.setUpBucket (parseBucket body).bucket state (parseBucket body).targets band = u) :
    answerBucketSet body s = ⟨u, .ok, u.bucketSetBody (parseBucket body).bucket⟩ := by
  have hlimit : decide ((parseBucket body).bucket < Config.buckets) = true := decide_eq_true hid
  simp only [answerBucketSet, hlimit, hstate, hband, hpeers, Bool.false_eq_true, if_false, if_neg hexists, hset]

/-- The reply body of BUCKET-SET, from the record just written (Table 10-9). -/
theorem State.setBucket_bucketSetBody (s : State) (b : Nat) (r : Bucket) :
    (s.setBucket b r).bucketSetBody b = beBytes 2 b ++ beBytes 1 r.state.code ++ beBytes 1 (targetBits r.targets)
      ++ beBytes 1 r.band.code ++ beBytes 3 0 ++ Trunk.all.flatMap fun t => beBytes 2 (r.epochs.get t) := by
  simp only [State.bucketSetBody, State.setBucket_bucket_self]
  rfl

/-- Settles O21: the table with the created record written, and that record's epochs, are the witnesses. -/
theorem bucketCreated : Obligations.BucketCreated := by
  intro w s state band hw b new hid hstate hband hpeers habsent
  let r := (s.bucket b).created state new band
  have hrequested : requestedState (fieldAt w.body 2 1) = some state ∧ state ≠ .draining := by
    rcases hstate with ⟨hcode, rfl⟩ | ⟨hcode, rfl⟩ <;> simp [hcode, requestedState]
  obtain ⟨hasked, hdrain⟩ := hrequested
  have hanswer : answerBucketSet w.body s.requestTaken =
      ⟨s.requestTaken.setBucket b r, .ok, (s.requestTaken.setBucket b r).bucketSetBody b⟩ :=
    answerBucketSet_accepted hid hasked ((congrArg bandOf hband).trans (bandOf_code band))
      (State.peerless_eq_false hpeers) (fun h => hdrain h.2) (State.setUpBucket_absent state new band habsent)
  refine ⟨s.buckets.set .reset b r, r.epochs, ?_, Table.get_set_self .reset b r s.buckets,
    Bucket.created_epochs_get (s.bucket b) state new band, fun b' hne => Table.get_set_ne .reset r s.buckets hne⟩
  rw [hw.exec_eq rfl rfl, hanswer, Answer.replied, State.setBucket_bucketSetBody]
  rfl

/-! ## SUBMIT refused BAD-ARGUMENT -/

/-- The cases of R15, in the words of its layout. -/
theorem SubmitReq.badArgument_iff (q : SubmitReq) : q.badArgument = true ↔
    4095 < q.bucket ∨ q.kind ∉ [1, 2, 3] ∨ (q.kind = 2 ∨ q.kind = 3) ∧ q.length ≠ 0 := by
  have hlimit : Config.buckets = 4096 := rfl
  simp only [SubmitReq.badArgument, Bool.not_or, Bool.or_eq_true, decide_eq_true_eq, Bool.and_eq_true, Bool.not_eq_true',
    beq_eq_false_iff_ne, bne_iff_ne, List.mem_cons, List.not_mem_nil, or_false]
  omega

/-- R15 goes before every check of R16. -/
theorem State.submitRefusal_of_badArgument (s : State) {q : SubmitReq} (h : q.badArgument = true) :
    s.submitRefusal q = some .badArgument := if_pos h

/-- A SUBMIT refused for another cause than MAP-FULL changes nothing, and its reply body is 0 (R16). -/
theorem answerSubmit_refused {body : List Byte} {s : State} {r : Result} (h : s.submitRefusal (parseSubmit body) = some r)
    (hmap : r ≠ .mapFull) : answerSubmit body s = ⟨s, r, List.replicate 20 0#8⟩ := by
  simp [answerSubmit, h, State.refuseSubmit, hmap, zeroBody]

/-- Settles O24: R15's test is the first of those that refuse a SUBMIT, and its refusal latches nothing. -/
theorem submitBadArgument : Obligations.SubmitBadArgument := by
  intro w s hbuf hcheck hfits hcase
  have hbad : (parseSubmit w.body).badArgument = true := (SubmitReq.badArgument_iff _).mpr hcase
  have hanswer := answerSubmit_refused (s.requestTaken.submitRefusal_of_badArgument hbad) (by decide)
  rw [exec_of_intact rfl rfl hbuf hcheck hfits, hanswer]
  rfl

end Sys2Proof.Machine

/-! # The Stamp Clock: SET_CLOCK -/

namespace Sys2Proof.Machine

/-! ## The fields clamped -/

theorem clampTo_eq (lo hi v : Nat) : clampTo lo hi v = max lo (min v hi) := by
  rw [clampTo, Nat.min_comm]

/-- A clamp from 0 only cuts off above. -/
theorem clampTo_zero (hi v : Nat) : clampTo 0 hi v = min v hi := by
  rw [clampTo_eq, Nat.zero_max]

/-! ## The clock given -/

@[simp] theorem State.clockGiven_clock (s : State) (time skew : Nat) :
    (s.clockGiven time skew).clock = { s.clock with set := true, base := time, setAt := s.now, skew := skew } := rfl

/-- At the moment the clock is given, no time has passed since: it reads the value given (R34). -/
theorem State.siteClock_clockGiven (s : State) {time : Nat} (skew : Nat) (h : time ≤ Config.maxTime) :
    (s.clockGiven time skew).siteClock = time := by
  have helapsed : (s.now - s.now) / Config.nsPerMs = 0 := by rw [Nat.sub_self, Nat.zero_div]
  simp only [State.siteClock, clockGiven_clock, clockGiven_now, if_true, helapsed, Nat.add_zero, Nat.min_eq_right h]

/-- The reply body of SET-CLOCK shows the values given beside the l and c that stood before (Table 10-9). -/
theorem State.clockBody_clockGiven (s : State) {time : Nat} (skew : Nat) (h : time ≤ Config.maxTime) :
    (s.clockGiven time skew).clockBody =
      beBytes 8 time ++ beBytes 8 s.clock.l ++ beBytes 2 s.clock.c ++ beBytes 2 0 ++ beBytes 4 skew := by
  simp only [State.clockBody, s.siteClock_clockGiven skew h, clockGiven_clock]

/-! ## SET_CLOCK -/

/-- The owner's answer to SET-CLOCK, in the fields of its body clamped to their ranges (R35). -/
theorem answerSetClock_eq {body : List Byte} (s : State) {time skew : Nat}
    (htime : time = min (fieldAt body 0 8) Config.maxTime) (hskew : skew = max 10 (min (fieldAt body 8 4) 60000)) :
    answerSetClock body s =
      ⟨s.clockGiven time skew, if time = fieldAt body 0 8 ∧ skew = fieldAt body 8 4 then .ok else .clamped,
        beBytes 8 time ++ beBytes 8 s.clock.l ++ beBytes 2 s.clock.c ++ beBytes 2 0 ++ beBytes 4 skew⟩ := by
  have hmax : time ≤ Config.maxTime := htime ▸ Nat.min_le_right _ _
  have hbody := s.clockBody_clockGiven skew hmax
  subst htime hskew
  simp only [answerSetClock, parseClock, clampTo_zero, clampTo_eq 10, hbody]

/-- Settles O16: the request taken leaves the clock and the moment as they were, so the owner's answer is the one
claimed. -/
theorem setClock : Obligations.SetClock := by
  intro w s hw time skew
  rw [hw.exec_eq rfl rfl, answerSetClock_eq s.requestTaken rfl rfl]
  rfl

end Sys2Proof.Machine

/-! # The Body Store: CHUNK refused -/

namespace Sys2Proof.Machine

/-! ## The handle as the host writes it -/

/-- A handle is shown with the value it was read from (R13). -/
@[simp] theorem Handle.value_ofValue (v : Nat) : (Handle.ofValue v).value = v := Nat.div_add_mod' v 65536

/-! ## The reply body of a CHUNK refused -/

/-- A handle that names no entry is shown with 0 behind it (Table 10-5). -/
theorem State.chunkBody_of_none {s : State} {v : Nat} (h : s.entryAt (Handle.ofValue v) = none) :
    s.chunkBody (Handle.ofValue v) 0 = beBytes 4 v ++ List.replicate 16 0#8 := by
  simp only [State.chunkBody, h, Handle.value_ofValue, List.append_assoc]
  rfl

/-- The bytes received and the body state of the entry a handle names, with no photo check behind them (Table 10-5). -/
theorem State.chunkBody_of_some {s : State} {v : Nat} {e : JEntry} (h : s.entryAt (Handle.ofValue v) = some e) :
    s.chunkBody (Handle.ofValue v) 0 =
      beBytes 4 v ++ beBytes 4 ((e.fill.map (·.bytes.length)).getD 0) ++ beBytes 1 e.bodyState.code
        ++ List.replicate 11 0#8 := by
  simp only [State.chunkBody, h, Handle.value_ofValue, List.append_assoc]
  rfl

/-! ## The checks of Table 4-2 -/

theorem JEntry.filling_iff (e : JEntry) : e.filling = true ↔ e.bodyState = .filling ∨ e.bodyState = .refilling := by
  simp only [JEntry.filling, Bool.or_eq_true, decide_eq_true_eq]

/-- No entry that is filling: the first check refuses. -/
theorem answerChunk_noEntry {body : List Byte} {s : State}
    (h : (s.entryAt (parseChunk body).handle).filter JEntry.filling = none) :
    answerChunk body s = ⟨s, .noEntry, s.chunkBody (parseChunk body).handle 0⟩ := by
  simp only [answerChunk, h]

/-- An entry that is filling has passed the first check, and the two others are made on its fill record. -/
theorem answerChunk_of_filling {body : List Byte} {s : State} {e : JEntry} {f : Fill}
    (hentry : s.entryAt (parseChunk body).handle = some e) (hfilling : e.filling = true) (hfill : e.fill = some f) :
    answerChunk body s =
      if (parseChunk body).offset ≠ f.bytes.length then ⟨s, .outOfOrder, s.chunkBody (parseChunk body).handle 0⟩
      else if e.change.length < (parseChunk body).offset + (parseChunk body).data.length then
        ⟨s, .badArgument, s.chunkBody (parseChunk body).handle 0⟩
      else s.fillWith (parseChunk body).handle e f (parseChunk body).data := by
  simp only [answerChunk, hentry, Option.filter_some, hfilling, if_true, hfill]

/-- Data that do not go on from the bytes received: the second check refuses. -/
theorem answerChunk_outOfOrder {body : List Byte} {s : State} {e : JEntry} {f : Fill}
    (hentry : s.entryAt (parseChunk body).handle = some e) (hfilling : e.filling = true) (hfill : e.fill = some f)
    (hoffset : (parseChunk body).offset ≠ f.bytes.length) :
    answerChunk body s = ⟨s, .outOfOrder, s.chunkBody (parseChunk body).handle 0⟩ :=
  (answerChunk_of_filling hentry hfilling hfill).trans (if_pos hoffset)

/-- Data that go on from the bytes received, past the body length: the third check refuses. -/
theorem answerChunk_badArgument {body : List Byte} {s : State} {e : JEntry} {f : Fill}
    (hentry : s.entryAt (parseChunk body).handle = some e) (hfilling : e.filling = true) (hfill : e.fill = some f)
    (hoffset : (parseChunk body).offset = f.bytes.length)
    (hlong : e.change.length < (parseChunk body).offset + (parseChunk body).data.length) :
    answerChunk body s = ⟨s, .badArgument, s.chunkBody (parseChunk body).handle 0⟩ := by
  rw [answerChunk_of_filling hentry hfilling hfill, if_neg (not_not.mpr hoffset), if_pos hlong]

/-- A CHUNK that arrives intact where no bytes are held is answered by the Body Store. -/
theorem exec_chunk_of_intact {w : Wire} {s : State} (hbuf : s.sli.asm.buf = []) (hcheck : bodyCheck w.body = w.check)
    (hmin : 8 ≤ w.body.length) (hmax : w.body.length ≤ 65520) :
    exec (.chunk w) s = .next ((answerChunk w.body s.requestTaken).replied 0x06#8 w) :=
  exec_of_intact (fits := fitsChunk) rfl rfl hbuf hcheck
    (Bool.and_eq_true_iff.mpr ⟨decide_eq_true hmin, decide_eq_true hmax⟩)

/-- Settles O28: the checks of Table 4-2 one by one. Each refusal leaves the state as the request taken left it, whose
entries are those that stood before. -/
theorem chunkRefused : Obligations.ChunkRefused := by
  intro w s hbuf hcheck hmin hmax v h offset
  rw [exec_chunk_of_intact hbuf hcheck hmin hmax]
  refine ⟨fun hnone => ?_, fun e hentry => ?_⟩
  · have hfound : s.requestTaken.entryAt (Handle.ofValue v) = none := hnone
    rw [answerChunk_noEntry (congrArg (Option.filter JEntry.filling) hfound), ← State.chunkBody_of_none hfound]
    rfl
  intro received body
  have hfound : s.requestTaken.entryAt (Handle.ofValue v) = some e := hentry
  have hbody : s.requestTaken.chunkBody (Handle.ofValue v) 0 = body := by
    rw [State.chunkBody_of_some hfound]
    cases hfill : e.fill <;> simp only [body, received, hfill] <;> rfl
  have hreceived : ∀ f, e.fill = some f → received = f.bytes.length := fun f hf => by simp only [received, hf]
  rw [← hbody]
  refine ⟨fun hfirst hrefill => ?_, fun hstate hfill hoffset => ?_, fun hstate hfill hoffset hlong => ?_⟩
  · have hnot : ¬ e.filling = true := fun hf => ((JEntry.filling_iff e).mp hf).elim hfirst hrefill
    rw [answerChunk_noEntry ((congrArg (Option.filter JEntry.filling) hfound).trans (if_neg hnot))]
    rfl
  · obtain ⟨f, hf⟩ := Option.isSome_iff_exists.mp hfill
    rw [answerChunk_outOfOrder hfound ((JEntry.filling_iff e).mpr hstate) hf (hreceived f hf ▸ hoffset)]
    rfl
  · obtain ⟨f, hf⟩ := Option.isSome_iff_exists.mp hfill
    have hdata : (parseChunk w.body).data.length = w.body.length - 8 := List.length_drop
    rw [answerChunk_badArgument hfound ((JEntry.filling_iff e).mpr hstate) hf (hoffset.trans (hreceived f hf))
      (hdata ▸ hlong)]
    rfl

end Sys2Proof.Machine

/-! # Trunk framing and bring-up: TRUNK_RESTART and TRUNK_DISABLE -/

namespace Sys2Proof.Machine

/-! ## A request about one trunk -/

theorem forTrunk_above {n : Nat} (size : Nat) (s : State) (act : Trunk → Answer) (h : 3 < n) :
    forTrunk n size s act = ⟨s, .badArgument, List.replicate size 0#8⟩ := by
  rw [forTrunk, Trunk.ofNat?_none h]
  rfl

theorem forTrunk_index (t : Trunk) (size : Nat) (s : State) (act : Trunk → Answer) :
    forTrunk t.index size s act = act t := by
  rw [forTrunk, Trunk.ofNat?_index]

/-- The reply body of a state request shows the state the trunk is then in (Table 10-9). -/
theorem State.stateBody_trunkRestart (s : State) (t : Trunk) (goal : TrunkState) (cause : Option Signature) :
    (s.trunkRestart t goal cause).stateBody t = beBytes 1 t.index ++ (beBytes 1 goal.code ++ [0#8, 0#8]) := by
  rw [State.stateBody, State.trunkRestart_port, List.append_assoc]
  rfl

/-- A trunk restart keeps the per-trunk statistics; protocol restarts are counted apart from it (R89, R91). -/
@[simp] theorem Port.restarted_stats (p : Port) (now : Nat) (goal : TrunkState) :
    (p.restarted now goal).stats = p.stats := by
  rw [Port.restarted, Port.stagedInForce_eq]

/-! ## TRUNK_RESTART -/

/-- The states in which TRUNK-RESTART is taken, listed (R89). -/
theorem TrunkState.restartable_iff (x : TrunkState) :
    x.restartable = true ↔ x ∈ [TrunkState.hunt, .align, .running, .resync, .down] := by
  cases x <;> decide

/-- The states in which it is refused are the others (R89). -/
theorem TrunkState.not_restartable_iff (x : TrunkState) :
    ¬ x.restartable = true ↔ x ∈ [TrunkState.off, .test, .faulted] := by
  cases x <;> decide

theorem answerTrunkRestart_badArgument {body : List Byte} (s : State) (h : 3 < fieldAt body 0 1) :
    answerTrunkRestart body s = ⟨s, .badArgument, List.replicate 4 0#8⟩ := forTrunk_above 4 s _ h

theorem answerTrunkRestart_wrongState {body : List Byte} {s : State} {t : Trunk} (ht : fieldAt body 0 1 = t.index)
    (h : (s.port t).state ∈ [.off, .test, .faulted]) :
    answerTrunkRestart body s = ⟨s, .wrongState, List.replicate 4 0#8⟩ := by
  rw [answerTrunkRestart, parseFirst, ht, forTrunk_index, if_neg ((TrunkState.not_restartable_iff _).mpr h)]
  rfl

theorem answerTrunkRestart_ok {body : List Byte} {s : State} {t : Trunk} (ht : fieldAt body 0 1 = t.index)
    (h : (s.port t).state ∈ [.hunt, .align, .running, .resync, .down]) :
    answerTrunkRestart body s =
      ⟨s.trunkRestart t .hunt none, .ok, beBytes 1 t.index ++ (beBytes 1 TrunkState.hunt.code ++ [0#8, 0#8])⟩ := by
  rw [answerTrunkRestart, parseFirst, ht, forTrunk_index, if_pos ((TrunkState.restartable_iff _).mpr h),
    ← State.stateBody_trunkRestart s t .hunt none]

/-! ## TRUNK_DISABLE -/

theorem answerTrunkDisable_badArgument {body : List Byte} (s : State) (h : 3 < fieldAt body 0 1) :
    answerTrunkDisable body s = ⟨s, .badArgument, List.replicate 4 0#8⟩ := forTrunk_above 4 s _ h

theorem answerTrunkDisable_wrongState {body : List Byte} {s : State} {t : Trunk} (ht : fieldAt body 0 1 = t.index)
    (h : (s.port t).state = .off) : answerTrunkDisable body s = ⟨s, .wrongState, List.replicate 4 0#8⟩ := by
  rw [answerTrunkDisable, parseFirst, ht, forTrunk_index, if_pos h]
  rfl

theorem answerTrunkDisable_ok {body : List Byte} {s : State} {t : Trunk} (ht : fieldAt body 0 1 = t.index)
    (h : (s.port t).state ≠ .off) :
    answerTrunkDisable body s =
      ⟨s.trunkRestart t .off none, .ok, beBytes 1 t.index ++ (beBytes 1 TrunkState.off.code ++ [0#8, 0#8])⟩ := by
  rw [answerTrunkDisable, parseFirst, ht, forTrunk_index, if_neg h, ← State.stateBody_trunkRestart s t .off none]

/-! ## Both -/

/-- Settles O35, by the trunk number and then by the trunk's state. Taking the request leaves the ports as they were, so
the state judged is the one the trunk had; what HUNT clears is read off the port and the supervisor restarted. -/
theorem trunkRestartAndDisable : Obligations.TrunkRestartAndDisable := by
  refine ⟨fun w s hw habove => ⟨?_, ?_⟩,
    fun w s t hw ht => ⟨fun hstate => ?_, fun hstate => ?_, fun hoff => ?_, fun hon => ?_⟩⟩
  · rw [hw.exec_eq rfl rfl, answerTrunkRestart_badArgument s.requestTaken habove]
    rfl
  · rw [hw.exec_eq rfl rfl, answerTrunkDisable_badArgument s.requestTaken habove]
    rfl
  · rw [hw.exec_eq rfl rfl, answerTrunkRestart_wrongState (s := s.requestTaken) ht hstate]
    rfl
  · have hport := s.requestTaken.trunkRestart_port t .hunt none
    have hsup := s.requestTaken.trunkRestart_sup t .hunt none
    refine ⟨s.requestTaken.trunkRestart t .hunt none, rfl, ?_, congrArg Port.state hport, congrArg Port.lock hport,
      congrArg Supervisor.history hsup, (congrArg Port.stats hport).trans (Port.restarted_stats _ _ _)⟩
    rw [hw.exec_eq rfl rfl, answerTrunkRestart_ok (s := s.requestTaken) ht hstate]
    rfl
  · rw [hw.exec_eq rfl rfl, answerTrunkDisable_wrongState (s := s.requestTaken) ht hoff]
    rfl
  · rw [hw.exec_eq rfl rfl, answerTrunkDisable_ok (s := s.requestTaken) ht hon]
    rfl

end Sys2Proof.Machine

/-! # The site link: REPORT_MASK -/

namespace Sys2Proof.Machine

/-! ## A vector of bits -/

/-- The n low bits of a number, bit 0 first, spell its remainder at 2 ^ n. -/
theorem bitsToNat_testBit (n v : Nat) : bitsToNat ((List.range n).map v.testBit) = v % 2 ^ n := by
  induction n generalizing v with
  | zero => exact (Nat.mod_one v).symm
  | succ n ih =>
    have hhigh : v.testBit ∘ Nat.succ = (v / 2).testBit := funext fun i => Nat.testBit_succ v i
    have hlow : (if v.testBit 0 then 1 else 0) = v % 2 := by
      rcases Nat.mod_two_eq_zero_or_one v with h | h <;> simp [Nat.testBit_zero, h]
    rw [List.range_succ_eq_map, List.map_cons, List.map_map, hhigh, bitsToNat, ih, hlow, pow_succ', Nat.mod_mul]

/-! ## The mask a body gives -/

/-- A part-wide latch takes the bit of its latch number (Table 10-8). -/
theorem parseMask_part_get (body : List Byte) (l : PartLatch) :
    (parseMask body).part.get l = (fieldAt body 0 8).testBit l.number := by
  cases l <;> rfl

/-- A trunk's latch takes the bit of its own latch number there (Table 10-8). -/
theorem parseMask_trunk_get (body : List Byte) (t : Trunk) (l : TrunkLatch) :
    ((parseMask body).trunk.get t).get l = (fieldAt body 0 8).testBit (TrunkLatch.number t l) := by
  cases t <;> cases l <;> rfl

/-- In latch number order the mask's bits are the 38 low bits of the field. -/
theorem parseMask_bits (body : List Byte) :
    (parseMask body).bits = (List.range 38).map (fieldAt body 0 8).testBit := rfl

/-- The mask shown in the reply is the field without its bits 38 to 63 (R189, Table 10-8). -/
theorem parseMask_vector (body : List Byte) : (parseMask body).vector = fieldAt body 0 8 % 2 ^ 38 := by
  rw [LatchSet.vector, parseMask_bits, bitsToNat_testBit]

/-! ## REPORT_MASK -/

/-- The owner's answer writes the mask of the link and nothing else. -/
theorem answerReportMask_eq (body : List Byte) (s : State) :
    answerReportMask body s =
      ⟨{ s with sli := { s.sli with mask := parseMask body } }, .ok, beBytes 8 (parseMask body).vector⟩ := rfl

theorem LatchSet.clear_vector : LatchSet.clear.vector = 0 := rfl

/-- Settles O15: the mask read from the body is the witness; at power-on reset and after a PART restart it is the clear
one. -/
theorem reportMaskReplaces : Obligations.ReportMaskReplaces := by
  refine ⟨fun w s hw => ⟨parseMask w.body, ?_, parseMask_vector w.body, parseMask_part_get w.body,
    parseMask_trunk_get w.body⟩, LatchSet.clear_vector, fun _ => LatchSet.clear_vector⟩
  rw [hw.exec_eq rfl rfl, answerReportMask_eq]
  rfl

end Sys2Proof.Machine

/-! # What every command keeps: the steps of a command, named once -/

namespace Sys2Proof.Machine

/-! ## A property that every operation keeps -/

/-- The updates of the site link that taking, answering and sending records make (Chapter 9). -/
structure LinkKept (P : State → Prop) : Prop where
  requestTaken : ∀ s, P s → P s.requestTaken
  recordTaken : ∀ s, P s → P s.recordTaken
  queueReply : ∀ s r, P s → P (s.queueReply r)
  linkFault : ∀ s e, P s → P (s.linkFault e)
  latchLinkError : ∀ s, P s → P (s.setSli s.sli.latchLinkError)
  setAsm : ∀ s i b, P s → P (s.setAsm i b)
  dropTag : ∀ s n, P s → P (s.dropTag n)
  sendNext : ∀ s, P s → P (s.setSli s.sli.sendNext)
  latchesRead : ∀ s, P s → P s.latchesRead
  setMask : ∀ s x, P s → P (s.setSli { s.sli with mask := x })

/-- What the owners make of the host requests that change more than the link. -/
structure RequestsKept (P : State → Prop) : Prop where
  setClock : ∀ b s, P s → P (answerSetClock b s).state
  setSite : ∀ b s, P s → P (answerSetSite b s).state
  bucketSet : ∀ b s, P s → P (answerBucketSet b s).state
  submit : ∀ b s, P s → P (answerSubmit b s).state
  chunk : ∀ b s, P s → P (answerChunk b s).state
  trunkSet : ∀ b s, P s → P (answerTrunkSet b s).state
  trunkEnable : ∀ b s, P s → P (answerTrunkEnable b s).state
  trunkDisable : ∀ b s, P s → P (answerTrunkDisable b s).state
  trunkTest : ∀ b s, P s → P (answerTrunkTest b s).state
  trunkRestart : ∀ b s, P s → P (answerTrunkRestart b s).state
  trunkClear : ∀ b s, P s → P (answerTrunkClear b s).state
  counterWrite : ∀ b s, P s → P (answerCounterWrite b s).state
  applyResume : ∀ b s, P s → P (answerApplyResume b s).state
  restart : ∀ b s, P s → P (answerRestart b s).state
  applyAnswer : ∀ s n ok, P s → P (s.applyAnswer n ok)
  bodyAnswer : ∀ s n ok, P s → P (s.bodyAnswer n ok)

/-- The operations of a trunk's timers, and the frames that leave (Chapters 5, 6 and 8). -/
structure TimersKept (P : State → Prop) : Prop where
  advanceTo : ∀ s m, P s → P (s.advanceTo m)
  beginCycle : ∀ s t, P s → P (s.beginCycle t)
  stagedStart : ∀ s t, P s → P (s.stagedStart t)
  closePeriod : ∀ s t, P s → P (s.closePeriod t)
  countCycle : ∀ s t, P s → P (s.countCycle t)
  takeRequest : ∀ s t, P s → P (s.takeRequest t)
  sendTest : ∀ s t, P s → P (s.sendTest t)
  positionDone : ∀ s t, P s → P (s.setPort t (s.port t).positionDone)
  emit : ∀ s t f, P s → P (s.emit t f)
  sendAlign : ∀ s t n, P s → P (s.sendAlign t n)
  sendService : ∀ s t, P s → P (s.sendService t)
  dataSlot : ∀ s t c m, (s.port t).state.up = true → P s → P (s.dataSlot t c m)
  sendProbe : ∀ s t, P s → P (s.sendProbe t)
  joinResend : ∀ s t n, P s → P (s.joinResend t n)
  moveDown : ∀ s t, P s → P (s.moveDown t)
  stalled : ∀ s t, P s → P ((s.identifyStalled t).moveFaulted t .stalled)

/-- The operations of what arrives on a trunk, and of the release of its frames (Chapters 5 to 8). -/
structure ArrivalsKept (P : State → Prop) : Prop where
  countArrival : ∀ s t, P s → P (s.countArrival t)
  reportArrival : ∀ s t v m, P s → P (s.reportArrival t v m)
  testVerdict : ∀ s t v, P s → P (s.testVerdict t v)
  incarnationCheck : ∀ s t i, P s → P (s.incarnationCheck t i).1
  lockStep : ∀ s t k, P s → P (s.lockStep t k)
  headFlags : ∀ s t f, P s → P (s.headFlags t f)
  setPrevHead : ∀ s t b, P s → P (s.setPrevHead t b)
  setPeerHears : ∀ s t b, P s → P (s.setPeerHears t b)
  setHeard : ∀ s t, P s → P (s.setHeard t)
  enterAlign : ∀ s t, (s.port t).state = .hunt → P s → P (s.enterAlign t)
  downToHunt : ∀ s t, (s.port t).state = .down → P s → P (s.downToHunt t)
  protocolRestart : ∀ s t, P s → P (s.protocolRestart t)
  serviceStore : ∀ s t f, (s.port t).state.up = true → P s → P (s.serviceStore t f)
  entryAck : ∀ s t a, P s → P (State.entryAck t s a)
  holdFrame : ∀ s t n b, (s.port t).state.up = true → (s.port t).discards n = false → P s → P (s.holdFrame t n b)
  dispatch : ∀ s t b, P s → P (s.dispatch t b).state
  frameTaken : ∀ s t, P s → P (s.frameTaken t)

/-- The operations of all commands but POWER_ON_RESET. -/
structure Kept (P : State → Prop) : Prop extends LinkKept P, RequestsKept P, TimersKept P, ArrivalsKept P where
  forward : ∀ s t b, P s → P (s.forward t b)
  refillHead : ∀ s, P s → P s.refillHead
  parkNext : ∀ s, P s → P s.parkNext

/-- A property that no update of the link touches. -/
theorem LinkKept.of_setSli {P : State → Prop} (h : ∀ s x, P s → P (s.setSli x)) : LinkKept P where
  requestTaken _ := h _ _
  recordTaken _ := h _ _
  queueReply _ _ := h _ _
  linkFault _ _ := h _ _
  latchLinkError _ := h _ _
  setAsm _ _ _ := h _ _
  dropTag _ _ := h _ _
  sendNext _ := h _ _
  latchesRead _ := h _ _
  setMask _ _ := h _ _

/-! ## Records taken whole -/

theorem LinkKept.request {P : State → Prop} (h : LinkKept P) (kind : Byte) (fits : List Byte → Bool)
    {act : List Byte → State → Answer} (hact : ∀ b s, P s → P (act b s).state) (w : Wire) {s : State} (hs : P s) :
    P (request kind fits act w s) := by
  have h0 := h.requestTaken s hs
  unfold Machine.request
  dsimp only
  split
  · exact h.queueReply _ _ (h.linkFault _ _ h0)
  · split
    · exact h.queueReply _ _ (hact _ _ h0)
    · exact h.queueReply _ _ h0

theorem LinkKept.unknownKind {P : State → Prop} (h : LinkKept P) (kind : Byte) (w : Wire) {s : State} (hs : P s) :
    P (takeUnknownKind kind w s) := by
  have h0 := h.requestTaken s hs
  unfold takeUnknownKind
  dsimp only
  split
  · exact h.queueReply _ _ (h.linkFault _ _ h0)
  · exact h.queueReply _ _ h0

theorem LinkKept.roleFault {P : State → Prop} (h : LinkKept P) (w : Wire) {s : State} (hs : P s) :
    P (takeRoleFault w s) := by
  have h1 := h.latchLinkError _ (h.recordTaken s hs)
  unfold takeRoleFault
  dsimp only
  split
  · exact h.linkFault _ _ h1
  · exact h1

theorem Kept.hostReply {P : State → Prop} (h : Kept P) (kind : Byte) (result : BitVec 16) (w : Wire) {s : State}
    (hs : P s) : P (s.hostReply kind result w) := by
  have h0 := h.recordTaken s hs
  unfold State.hostReply
  dsimp only
  split
  · exact h.queueReply _ _ (h.linkFault _ _ h0)
  · split
    · exact h.linkFault _ _ h0
    · next k _ =>
      have h1 := h.dropTag _ w.tag.toNat h0
      cases k with
      | apply => exact h.applyAnswer _ _ _ h1
      | bodyWanted => exact h.bodyAnswer _ _ _ h1

/-- A request about one trunk that only reads. -/
theorem forTrunk_reads {P : State → Prop} (n size : Nat) {s : State} {body : Trunk → List Byte} (hs : P s) :
    P (forTrunk n size s fun t => ⟨s, .ok, body t⟩).state := by
  unfold forTrunk
  split <;> exact hs

/-- What a record does when it is taken whole. -/
theorem Kept.act {P : State → Prop} (h : Kept P) (s : State) (c : Instr) (hs : P s) : P (s.act c) := by
  cases c with
  | setClock w => exact h.request _ _ h.setClock w hs
  | setSite w => exact h.request _ _ h.setSite w hs
  | bucketSet w => exact h.request _ _ h.bucketSet w hs
  | bucketQuery w =>
    refine h.request _ _ (fun b s hs => ?_) w hs
    unfold answerBucketQuery
    dsimp only
    split <;> exact hs
  | submit w => exact h.request _ _ h.submit w hs
  | chunk w => exact h.request _ _ h.chunk w hs
  | trunkSet w => exact h.request _ _ h.trunkSet w hs
  | trunkEnable w => exact h.request _ _ h.trunkEnable w hs
  | trunkDisable w => exact h.request _ _ h.trunkDisable w hs
  | trunkTest w => exact h.request _ _ h.trunkTest w hs
  | trunkRestart w => exact h.request _ _ h.trunkRestart w hs
  | trunkClear w => exact h.request _ _ h.trunkClear w hs
  | trunkQuery w => exact h.request _ _ (fun _ _ hs => forTrunk_reads _ _ hs) w hs
  | counterRead w => exact h.request _ _ (fun _ _ hs => forTrunk_reads _ _ hs) w hs
  | counterWrite w => exact h.request _ _ h.counterWrite w hs
  | applyResume w => exact h.request _ _ h.applyResume w hs
  | statusRead w => exact h.request _ _ (fun _ => h.latchesRead) w hs
  | statusPeek w => exact h.request _ _ (fun _ _ hs => hs) w hs
  | reportMask w => exact h.request _ _ (fun b s hs => h.setMask s (parseMask b) hs) w hs
  | statsRead w => exact h.request _ _ (fun _ _ hs => hs) w hs
  | restart w => exact h.request _ _ h.restart w hs
  | unknownKindRequest kind w => exact h.unknownKind kind w hs
  | roleFaultRecord _ w => exact h.roleFault w hs
  | applyReply kind result w => exact h.hostReply kind result w hs
  | bodyWantedReply kind result w => exact h.hostReply kind result w hs
  | _ => exact hs

theorem Kept.receive {P : State → Prop} (h : Kept P) (bytes : List Byte) {s : State} (hs : P s) : P (s.receive bytes) :=
  State.receive_keeps h.setAsm h.latchLinkError (h.linkFault · .header) h.act bytes s hs

theorem Kept.recordIn {P : State → Prop} (h : Kept P) (c : Instr) (bytes : List Byte) {s : State} (hs : P s) :
    P (s.recordIn c bytes) :=
  State.recordIn_keeps h.setAsm h.latchLinkError (h.linkFault · .header) h.act c bytes s hs

/-! ## Timers -/

theorem TimersKept.startCycle {P : State → Prop} (h : TimersKept P) (t : Trunk) {s : State} (hs : P s) :
    P (s.startCycle t) :=
  State.cycleEvents_keeps t (h.stagedStart · t) (h.closePeriod · t) (h.countCycle · t) (h.takeRequest · t) _
    (h.beginCycle _ _ hs)

theorem TimersKept.fillSlot {P : State → Prop} (h : TimersKept P) (t : Trunk) {s : State} (hs : P s) :
    P (s.fillSlot t) := by
  unfold State.fillSlot
  split <;> exact h.emit _ _ _ hs

theorem TimersKept.sendUp {P : State → Prop} (h : TimersKept P) (t : Trunk) (n m : Nat) {s : State}
    (hup : (s.port t).state.up = true) (hs : P s) : P (s.sendUp t n m) := by
  unfold State.sendUp
  split
  · exact h.emit _ _ _ hs
  · split
    · exact h.sendService _ _ hs
    · split
      · exact h.fillSlot t hs
      · exact h.dataSlot _ _ _ _ hup hs

theorem TimersKept.sendPosition {P : State → Prop} (h : TimersKept P) (t : Trunk) {s : State} (hs : P s) :
    P (s.sendPosition t) := by
  have h1 := h.positionDone _ t (h.advanceTo s (s.port t).frameAt hs)
  have hstate : (((s.advanceTo (s.port t).frameAt).setPort t (s.port t).positionDone).port t).state = (s.port t).state := by
    simp [Port.positionDone]
  unfold State.sendPosition
  dsimp only
  split
  · split
    · exact h.emit _ _ _ h1
    · exact h.sendAlign _ _ _ h1
    · next hst => exact h.sendUp t _ _ (by rw [hstate, hst]; rfl) h1
    · next hst => exact h.sendUp t _ _ (by rw [hstate, hst]; rfl) h1
    · exact h1
  · exact hs

/-! ## Arrivals -/

theorem ArrivalsKept.reported {P : State → Prop} (h : ArrivalsKept P) (t : Trunk) (v : Bool) (m : Marks) {s : State}
    (hs : P s) : P (s.reported t v m) := h.reportArrival _ _ _ _ (h.countArrival _ _ hs)

theorem ArrivalsKept.otherArrival {P : State → Prop} (h : ArrivalsKept P) (t : Trunk) {s : State} (hs : P s) :
    P (s.otherArrival t) := h.setPrevHead _ _ _ (h.lockStep _ _ _ hs)

theorem ArrivalsKept.plainArrival {P : State → Prop} (h : ArrivalsKept P) (t : Trunk) {s : State} (hs : P s) :
    P (s.plainArrival t) := h.otherArrival t (h.reported t _ _ hs)

theorem ArrivalsKept.arrival {P : State → Prop} (h : ArrivalsKept P) (t : Trunk) {handle : State → State}
    (hhandle : ∀ s, P s → P (handle s)) {s : State} (hs : P s) : P (s.arrival t handle) := by
  unfold State.arrival
  split
  · exact hs
  · exact h.countArrival _ _ hs
  · exact hhandle _ hs

theorem ArrivalsKept.invalidFrame {P : State → Prop} (h : ArrivalsKept P) (t : Trunk) {s : State} (hs : P s) :
    P (s.invalidFrame t) := by
  unfold State.invalidFrame
  split
  · exact hs
  · exact h.testVerdict _ _ _ (h.countArrival _ _ hs)
  · exact h.otherArrival t (h.reported t _ _ hs)

theorem ArrivalsKept.headMoves {P : State → Prop} (h : ArrivalsKept P) (t : Trunk) (f : HeadFrame) {s : State}
    (hs : P s) : P (s.headMoves t f) := by
  unfold State.headMoves
  split
  · next hst =>
    split
    · exact h.enterAlign _ _ hst hs
    · exact hs
  · next hst => exact h.downToHunt _ _ hst hs
  · exact hs

theorem ArrivalsKept.headLocks {P : State → Prop} (h : ArrivalsKept P) (t : Trunk) (f : HeadFrame) {s : State}
    (hs : P s) : P (s.headLocks t f) := by
  have h1 := h.lockStep s t (s.matchingK t f) hs
  unfold State.headLocks
  dsimp only
  split
  · exact h.headFlags _ _ _ h1
  · exact h1

theorem ArrivalsKept.headArrives {P : State → Prop} (h : ArrivalsKept P) (t : Trunk) (f : HeadFrame) (s : State)
    (hs : P s) : P (State.headArrives t f s) := by
  have h1 := h.reported t true (s.senderMarks t f.site.toNat f.incarnation) hs
  unfold State.headArrives
  dsimp only
  split
  · have h2 := h.incarnationCheck _ t f.incarnation h1
    unfold State.peerHead
    dsimp only
    split
    · exact h2
    · exact h.setPrevHead _ _ _ (h.headMoves t f (h.headLocks t f h2))
  · exact h.otherArrival t h1

theorem ArrivalsKept.fillMoves {P : State → Prop} (h : ArrivalsKept P) (t : Trunk) (f : FillFrame) (b : Bool) {s : State}
    (hs : P s) : P (s.fillMoves t f b) := by
  unfold State.fillMoves
  split
  · next hst =>
    split
    · exact h.enterAlign _ _ hst hs
    · exact hs
  · next hst => exact h.downToHunt _ _ (by simpa [State.setHeard] using hst) (h.setHeard _ _ hs)
  · exact h.setHeard _ _ hs
  · split
    · exact h.protocolRestart _ _ hs
    · exact hs

theorem ArrivalsKept.fillArrives {P : State → Prop} (h : ArrivalsKept P) (t : Trunk) (f : FillFrame) (s : State)
    (hs : P s) : P (State.fillArrives t f s) := by
  have h1 := h.reported t true (s.senderMarks t f.site.toNat f.incarnation) hs
  unfold State.fillArrives
  dsimp only
  split
  · have h2 := h.incarnationCheck _ t f.incarnation h1
    unfold State.peerFill
    dsimp only
    split
    · exact h2
    · exact h.fillMoves t f _ (h.otherArrival t h2)
  · exact h.otherArrival t h1

theorem ArrivalsKept.probeMoves {P : State → Prop} (h : ArrivalsKept P) (t : Trunk) {s : State} (hs : P s) :
    P (s.probeMoves t) := by
  unfold State.probeMoves
  split
  · exact h.setHeard _ _ hs
  · next hst => exact h.downToHunt _ _ (by simpa [State.setHeard] using hst) (h.setHeard _ _ hs)
  · exact h.setHeard _ _ hs
  · exact hs

theorem ArrivalsKept.probeArrives {P : State → Prop} (h : ArrivalsKept P) (t : Trunk) (f : ProbeFrame) (s : State)
    (hs : P s) : P (State.probeArrives t f s) := by
  have h1 := h.reported t true (s.senderMarks t f.site.toNat f.incarnation) hs
  unfold State.probeArrives
  dsimp only
  split
  · have h2 := h.incarnationCheck _ t f.incarnation h1
    unfold State.peerProbe
    dsimp only
    split
    · exact h.setPeerHears _ _ _ h2
    · exact h.probeMoves t (h.setPeerHears _ _ _ (h.otherArrival t h2))
  · exact h.otherArrival t h1

theorem ArrivalsKept.serviceArrives {P : State → Prop} (h : ArrivalsKept P) (t : Trunk) (f : ServiceFrame) (s : State)
    (hs : P s) : P (State.serviceArrives t f s) := by
  have h1 := h.plainArrival t hs
  have hacks : ∀ (acks : List EntryAck) (u : State), P u → P (acks.foldl (State.entryAck t) u) := by
    intro acks
    induction acks with
    | nil => exact fun u hu => hu
    | cons a acks ih => exact fun u hu => ih _ (h.entryAck _ _ _ hu)
  unfold State.serviceArrives
  dsimp only
  split
  · next hup => exact hacks _ _ (h.serviceStore _ _ _ hup h1)
  · exact h1

theorem ArrivalsKept.releaseFrames {P : State → Prop} (h : ArrivalsKept P) (t : Trunk) (fuel : Nat) :
    ∀ s, P s → P (s.releaseFrames t fuel) := by
  induction fuel with
  | zero => exact fun s hs => hs
  | succ n ih =>
    intro s hs
    unfold State.releaseFrames
    split
    · exact hs
    · next payload _ =>
      have hd := h.dispatch s t payload hs
      split <;> rename_i s1 h1 <;> rw [h1] at hd
      · exact ih _ (h.frameTaken _ _ hd)
      · exact hd
      · exact h.protocolRestart _ _ hd

theorem ArrivalsKept.release {P : State → Prop} (h : ArrivalsKept P) (t : Trunk) {s : State} (hs : P s) :
    P (s.release t) := h.releaseFrames t _ s hs

theorem ArrivalsKept.carryArrives {P : State → Prop} (h : ArrivalsKept P) (t : Trunk) (n : Nat) (b : List Byte) (s : State)
    (hs : P s) : P (State.carryArrives t n b s) := by
  have h1 := h.plainArrival t hs
  unfold State.carryArrives
  dsimp only
  split
  · next hc =>
    obtain ⟨hup, hd⟩ := Bool.and_eq_true_iff.mp hc
    exact h.release t (h.holdFrame _ _ _ _ hup (by simpa using hd) h1)
  · exact h1

/-! ## Every command -/

theorem Kept.framePeriod {P : State → Prop} (h : Kept P) (t : Trunk) {s u : State} (hs : P s)
    (hu : exec (.framePeriod t) s = .next u) : P u := by
  cases hu
  split
  · exact hs
  · exact h.sendTest _ _ (h.advanceTo _ _ hs)
  · exact h.sendPosition t hs

theorem Kept.rtoExpiry {P : State → Prop} (h : Kept P) (t : Trunk) (n : Nat) {s u : State} (hs : P s)
    (hu : exec (.rtoExpiry t n) s = .next u) : P u := by
  cases hu
  split
  · split
    · exact hs
    · exact h.joinResend _ _ _ (h.advanceTo _ _ hs)
  · exact hs

theorem Kept.resyncTimeout {P : State → Prop} (h : Kept P) (t : Trunk) {s u : State} (hs : P s)
    (hu : exec (.resyncTimeout t) s = .next u) : P u := by
  cases hu
  split
  · split
    · exact hs
    · exact h.moveDown _ _ (h.advanceTo _ _ hs)
  · exact hs

theorem Kept.stallExpiry {P : State → Prop} (h : Kept P) (t : Trunk) {s u : State} (hs : P s)
    (hu : exec (.stallExpiry t) s = .next u) : P u := by
  cases hu
  split
  · split
    · exact hs
    · exact h.stalled _ _ (h.advanceTo _ _ hs)
  · exact hs

theorem Kept.testFrame {P : State → Prop} (h : Kept P) (t : Trunk) (counter : BitVec 32) (payload : List Byte) {s u : State}
    (hs : P s) (hu : exec (.testFrameReceived t counter payload) s = .next u) : P u := by
  cases hu
  split
  · exact hs
  · exact h.testVerdict _ _ _ (h.countArrival _ _ hs)
  · exact h.plainArrival t hs

/-- A choice between an operation and nothing. -/
theorem ite_keeps {P : State → Prop} {c : Prop} [Decidable c] {s u : State} (hs : P s) (hu : P u) :
    P (if c then u else s) := by
  split
  · exact hu
  · exact hs

/-- What every operation keeps, every command but POWER_ON_RESET keeps. -/
theorem Kept.exec {P : State → Prop} (h : Kept P) {c : Instr} {s u : State} (hc : c ≠ .powerOnReset) (hs : P s)
    (hu : exec c s = .next u) : P u := by
  cases c with
  | powerOnReset => exact absurd rfl hc
  | unknownKindRequest kind w =>
    cases hu
    split
    · exact hs
    · exact h.recordIn _ _ hs
  | headerFault bytes => cases hu; exact h.receive bytes hs
  | recordSend => cases hu; exact h.sendNext s hs
  | cycleStart t => cases hu; exact ite_keeps hs (h.startCycle t hs)
  | framePeriod t => exact h.framePeriod t hs hu
  | probePeriod t => cases hu; exact ite_keeps hs (h.sendProbe _ _ (h.advanceTo _ _ hs))
  | rtoExpiry t frame => exact h.rtoExpiry t frame hs hu
  | resyncTimeout t => exact h.resyncTimeout t hs hu
  | stallExpiry t => exact h.stallExpiry t hs hu
  | identificationAction t => cases hu; exact h.takeRequest _ _ hs
  | headReceived t f => cases hu; exact h.arrival t (h.headArrives t f) hs
  | fillReceived t f => cases hu; exact h.arrival t (h.fillArrives t f) hs
  | probeReceived t f => cases hu; exact h.arrival t (h.probeArrives t f) hs
  | serviceReceived t f =>
    cases hu
    exact ite_keeps (h.invalidFrame t hs) (h.arrival t (h.serviceArrives t f) hs)
  | carryReceived t frame payload => cases hu; exact h.arrival t (h.carryArrives t frame payload) hs
  | testFrameReceived t counter payload => exact h.testFrame t counter payload hs hu
  | invalidFrameReceived t => cases hu; exact h.invalidFrame t hs
  | noticeRetry t => cases hu; exact ite_keeps hs (h.release t hs)
  | applyForward t bucket => cases hu; exact ite_keeps hs (h.forward _ _ _ hs)
  | bodyWantedSend => cases hu; exact h.refillHead s hs
  | parkEntry => cases hu; exact h.parkNext s hs
  | _ => cases hu; exact h.recordIn _ _ hs

/-- The idle step lets 1 ms pass. -/
theorem State.idle_eq (s : State) : s.idle = s.advanceTo (s.now + Config.idleNs) := by
  simp [State.idle, State.advanceTo]

/-- A step runs the command in front, or lets 1 ms pass. -/
theorem step_cases {s u : State} (h : step s = .next u) :
    s.pending = [] ∧ u = s.idle ∨ ∃ c rest, s.pending = c :: rest ∧ exec c { s with pending := rest } = .next u := by
  unfold step at h
  split at h
  · next hq =>
    cases h
    exact .inl ⟨hq, rfl⟩
  · next c rest hq => exact .inr ⟨c, rest, hq, h⟩

/-- What every operation keeps and POWER_ON_RESET makes true, every step keeps; it says nothing of the queue. -/
theorem Kept.step {P : State → Prop} (h : Kept P) (hqueue : ∀ s q, P s → P { s with pending := q })
    (hreset : ∀ n q, P { State.reset with freeCount := n, pending := q }) {s u : State} (hs : P s)
    (hu : step s = .next u) : P u := by
  obtain ⟨-, rfl⟩ | ⟨c, rest, -, hc⟩ := step_cases hu
  · rw [State.idle_eq]
    exact h.advanceTo _ _ hs
  · by_cases hne : c = .powerOnReset
    · subst hne
      cases hc
      exact hreset _ _
    · exact h.exec hne (hqueue _ _ hs) hc

end Sys2Proof.Machine

/-! # The queue and the Stamp Clock: every command completes; the clock's ranges, and that it never goes back -/

namespace Sys2Proof.Machine

/-! ## What every change of the Stamp Clock keeps -/

/-- The five changes of the Stamp Clock: the site clock given (R35), a stamp issued (R40), a stamp merged (R43), the site
set (R37), and a PART restart (R46). -/
structure ClockKept (C : StampClock → Prop) : Prop where
  given : ∀ x time at' skew, time ≤ Config.maxTime → 10 ≤ skew → skew ≤ 60000 → C x →
    C { x with set := true, base := time, setAt := at', skew := skew }
  issued : ∀ x pt l c b, pt ≤ Config.maxTime → issuePair pt x.l x.c = some (l, c, b) → C x → C { x with l := l, c := c }
  merged : ∀ x pt lm cm, pt ≤ Config.maxTime → lm ≤ Config.maxTime → C x →
    C { x with l := (mergePair pt x.l x.c lm cm).1, c := (mergePair pt x.l x.c lm cm).2.1 }
  site : ∀ x n i, n ≤ 63 → C x → C { x with site := some n, incarnation := some i }
  restarted : ∀ x, C x → C x.partRestarted

theorem State.siteClock_le (s : State) : s.siteClock ≤ Config.maxTime := by
  unfold State.siteClock
  split
  · exact Nat.min_le_left _ _
  · exact Nat.zero_le _

theorem stampTime_le (x : Stamp) : stampTime x ≤ Config.maxTime := by
  unfold stampTime
  have h : x.toNat < 2 ^ 64 := x.isLt
  show _ ≤ 4398046511103
  omega

/-- The queue as it was, and the Stamp Clock with a property. -/
def QueueAndClock (q : List Instr) (C : StampClock → Prop) (s : State) : Prop := s.pending = q ∧ C s.clock

section
variable {q : List Instr} {C : StampClock → Prop} {s : State}

theorem QueueAndClock.of_eq {u : State} (h : QueueAndClock q C s) (hq : u.pending = s.pending) (hc : u.clock = s.clock) :
    QueueAndClock q C u := ⟨hq.trans h.1, hc ▸ h.2⟩

/-- The skew clamp never raises the time. -/
theorem skewClamp_time_le (pt skew lm cm : Nat) : (skewClamp pt skew lm cm).1 ≤ lm := by
  unfold skewClamp
  split
  · next h => exact Nat.le_of_lt h
  · exact Nat.le_refl _

/-- The Stamp Clock after a merge, as one update. -/
theorem State.merge_clock_eq (s : State) (x : Stamp) :
    let r := skewClamp s.siteClock s.clock.skew (stampTime x) (stampCounter x)
    let m := mergePair s.siteClock s.clock.l s.clock.c r.1 r.2.1
    (s.merge x).clock = { s.clock with l := m.1, c := m.2.1 } := by
  unfold State.merge
  dsimp only
  split <;> split <;> simp

theorem QueueAndClock.merge (hC : ClockKept C) (h : QueueAndClock q C s) (x : Stamp) : QueueAndClock q C (s.merge x) := by
  refine ⟨(State.merge_pending s x).trans h.1, ?_⟩
  rw [State.merge_clock_eq]
  exact hC.merged _ _ _ _ s.siteClock_le ((skewClamp_time_le _ _ _ _).trans (stampTime_le x)) h.2

theorem QueueAndClock.issue (hC : ClockKept C) (h : QueueAndClock q C s) {site : Nat} {x : Stamp} {u : State}
    (hi : s.issue site = some (x, u)) : QueueAndClock q C u := by
  unfold State.issue at hi
  split at hi
  · cases hi
  · next l c b hp =>
    cases hi
    have h1 : QueueAndClock q C (s.setClock { s.clock with l := l, c := c }) :=
      ⟨h.1, hC.issued _ _ _ _ _ s.siteClock_le hp h.2⟩
    split
    · exact h1.of_eq (by simp) (by simp)
    · exact h1

/-! ## The operations -/

theorem QueueAndClock.setClockAnswer (hC : ClockKept C) (h : QueueAndClock q C s) (b : List Byte) :
    QueueAndClock q C (answerSetClock b s).state := by
  refine ⟨h.1, hC.given _ _ _ _ ?_ (Nat.le_max_left _ _) ?_ h.2⟩
  · rw [clampTo_zero]
    exact Nat.min_le_right _ _
  · rw [clampTo_eq]
    exact Nat.max_le.mpr ⟨by decide, Nat.min_le_right _ _⟩

/-- A site id that SET-SITE does not refuse lies in its range. -/
theorem State.site_le_of_accepted {s : State} {n : Nat} (h : s.siteRefusal n = none) : n ≤ 63 := by
  unfold State.siteRefusal at h
  split at h
  · cases h
  · omega

theorem QueueAndClock.setSiteAnswer (hC : ClockKept C) (h : QueueAndClock q C s) (b : List Byte) :
    QueueAndClock q C (answerSetSite b s).state := by
  unfold answerSetSite
  dsimp only
  split
  · exact h
  · next hr =>
    split
    · exact h
    · next hi =>
      have h1 := h.issue hC hi
      exact ⟨h1.1, hC.site _ _ _ (State.site_le_of_accepted hr) h1.2⟩

theorem QueueAndClock.submitOutcome (h : QueueAndClock q C s) (r : SubmitReq) (x : Stamp) :
    QueueAndClock q C (s.submitOutcome r x).state := by
  unfold State.submitOutcome
  split
  · split
    · exact h.of_eq (by simp [State.mergeInto]) (by simp [State.mergeInto])
    · exact h.of_eq (by simp [State.supersede]) (by simp [State.supersede])
  · split
    · exact h.of_eq (by simp [State.append]) (by simp [State.append])
    · exact h

theorem QueueAndClock.submitAnswer (hC : ClockKept C) (h : QueueAndClock q C s) (b : List Byte) :
    QueueAndClock q C (answerSubmit b s).state := by
  unfold answerSubmit
  dsimp only
  split
  · exact h.of_eq (by simp) (by simp)
  · split
    · exact h
    · next x s1 hi =>
      have h1 : QueueAndClock q C (s1.stampObject (parseSubmit b) x) := (h.issue hC hi).of_eq (by simp) (by simp)
      exact (h1.submitOutcome (parseSubmit b) x).of_eq (by simp [State.acceptSubmit]) (by simp [State.acceptSubmit])

theorem QueueAndClock.chunkAnswer (h : QueueAndClock q C s) (b : List Byte) : QueueAndClock q C (answerChunk b s).state := by
  unfold answerChunk State.fillWith State.fillComplete
  dsimp only
  repeat' split
  all_goals first | exact h | exact h.of_eq (by simp) (by simp)

theorem QueueAndClock.bucketSetAnswer (h : QueueAndClock q C s) (b : List Byte) :
    QueueAndClock q C (answerBucketSet b s).state := by
  unfold answerBucketSet
  dsimp only
  repeat' split
  all_goals first | exact h | exact h.of_eq (by simp) (by simp)

theorem QueueAndClock.trunkSetAnswer (h : QueueAndClock q C s) (b : List Byte) :
    QueueAndClock q C (answerTrunkSet b s).state := by
  unfold answerTrunkSet
  dsimp only
  repeat' split
  all_goals first | exact h | exact h.of_eq (by simp) (by simp)

/-- A request about one trunk. -/
theorem forTrunk_keeps {P : State → Prop} (n size : Nat) {s : State} {act : Trunk → Answer} (hs : P s)
    (hact : ∀ t, P (act t).state) : P (forTrunk n size s act).state := by
  unfold forTrunk
  split
  · exact hs
  · exact hact _

theorem QueueAndClock.acceptNotice (hC : ClockKept C) (h : QueueAndClock q C s) (k : Nat) (n : Notice) :
    QueueAndClock q C (s.acceptNotice k n).state := by
  unfold State.acceptNotice
  split
  · have h1 : QueueAndClock q C (s.takeRoom n) := h.of_eq (by simp) (by simp)
    have h2 := h1.merge hC n.stamp
    dsimp only
    split
    · exact h2.of_eq (by simp) (by simp)
    · exact h2.of_eq (by simp) (by simp)
  · exact h

theorem QueueAndClock.dispatch (hC : ClockKept C) (h : QueueAndClock q C s) (t : Trunk) (b : List Byte) :
    QueueAndClock q C (s.dispatch t b).state := by
  unfold State.dispatch
  split
  · next n _ =>
    have h1 : QueueAndClock q C (s.adopt (recKey t n.bucket) n) := h.of_eq (by simp) (by simp)
    unfold State.dispatchNotice
    dsimp only
    repeat' split
    all_goals first
      | exact h
      | exact h1.acceptNotice hC _ _
      | exact h.acceptNotice hC _ _
  · exact h.of_eq (by simp) (by simp)
  · exact h

/-- What the changes of the Stamp Clock keep, every operation keeps, and it leaves the queue alone. -/
theorem ClockKept.kept (hC : ClockKept C) : Kept (QueueAndClock q C) where
  toLinkKept := LinkKept.of_setSli fun _ _ h => h
  setClock b _ h := h.setClockAnswer hC b
  setSite b _ h := h.setSiteAnswer hC b
  bucketSet b _ h := h.bucketSetAnswer b
  submit b _ h := h.submitAnswer hC b
  chunk b _ h := h.chunkAnswer b
  trunkSet b _ h := h.trunkSetAnswer b
  trunkEnable b _ h := forTrunk_keeps _ _ h fun t => by
    split
    · exact h
    · exact h.of_eq (by simp) (by simp)
  trunkDisable b _ h := forTrunk_keeps _ _ h fun t => by
    dsimp only
    split
    · exact h
    · exact h.of_eq (by simp) (by simp)
  trunkTest b _ h := forTrunk_keeps _ _ h fun t => by
    split
    · split
      · exact h
      · exact h
    · exact h
  trunkRestart b _ h := forTrunk_keeps _ _ h fun t => by
    dsimp only
    split
    · exact h.of_eq (by simp) (by simp)
    · exact h
  trunkClear b _ h := forTrunk_keeps _ _ h fun t => by
    split
    · exact h
    · split
      · exact h.of_eq (by simp) (by simp)
      · exact h
  counterWrite b _ h := forTrunk_keeps _ _ h fun t => by
    dsimp only
    split
    · exact h
    · exact h
  applyResume b _ h := by
    unfold answerApplyResume
    dsimp only
    split
    · exact h.of_eq (by simp) (by simp)
    · exact h
  restart b s h := by
    unfold answerRestart
    split
    · exact ⟨h.1, hC.restarted _ h.2⟩
    · exact h
  applyAnswer _ _ _ h := h.of_eq (by simp) (by simp)
  bodyAnswer _ _ _ h := h.of_eq (by simp) (by simp)
  advanceTo _ _ h := h
  beginCycle _ _ h := h
  stagedStart _ _ h := h.of_eq (by simp) (by simp)
  closePeriod _ _ h := h.of_eq (by simp) (by simp)
  countCycle _ _ h := h.of_eq (by simp) (by simp)
  takeRequest _ _ h := h.of_eq (by simp) (by simp)
  sendTest _ _ h := h
  positionDone _ _ h := h
  emit _ _ _ h := h
  sendAlign _ _ _ h := h.of_eq (by simp) (by simp)
  sendService _ _ h := h.of_eq (by simp) (by simp)
  dataSlot _ _ _ _ _ h := h.of_eq (by simp) (by simp)
  sendProbe _ _ h := h
  joinResend _ _ _ h := h.of_eq (by simp) (by simp)
  moveDown _ _ h := h.of_eq (by simp) (by simp)
  stalled _ _ h := h.of_eq (by simp) (by simp)
  countArrival _ _ h := h
  reportArrival _ _ _ _ h := h.of_eq (by simp) (by simp)
  testVerdict _ _ _ h := h
  incarnationCheck _ _ _ h := h.of_eq (by simp) (by simp)
  lockStep _ _ _ h := h.of_eq (by simp) (by simp)
  headFlags _ _ _ h := h.of_eq (by simp) (by simp)
  setPrevHead _ _ _ h := h
  setPeerHears _ _ _ h := h
  setHeard _ _ h := h
  enterAlign _ _ _ h := h
  downToHunt _ _ _ h := h
  protocolRestart _ _ h := h.of_eq (by simp) (by simp)
  serviceStore _ _ _ _ h := h.of_eq (by simp) (by simp)
  entryAck _ _ _ h := h.of_eq (by simp) (by simp)
  holdFrame _ _ _ _ _ _ h := h
  dispatch _ t b h := h.dispatch hC t b
  frameTaken _ _ h := h
  forward _ _ _ h := h.of_eq (by simp) (by simp)
  refillHead _ h := h.of_eq (by simp) (by simp)
  parkNext _ h := h.of_eq (by simp) (by simp)

end

/-! ## The obligations -/

/-- Settles O2: the queue given is one of the things every operation keeps; POWER_ON_RESET keeps it by its definition. -/
theorem everyCommandCompletes : Obligations.EveryCommandCompletes := by
  intro c s
  obtain ⟨t, ht⟩ : ∃ t, exec c s = .next t := by cases c <;> exact ⟨_, rfl⟩
  refine ⟨t, ht, ?_⟩
  by_cases hc : c = .powerOnReset
  · subst hc
    cases ht
    rfl
  · have hany : ClockKept fun _ => True :=
      ⟨fun _ _ _ _ _ _ _ _ => trivial, fun _ _ _ _ _ _ _ _ => trivial, fun _ _ _ _ _ _ _ => trivial,
        fun _ _ _ _ _ => trivial, fun _ _ => trivial⟩
    have hkept : QueueAndClock s.pending (fun _ => True) t := hany.kept.exec hc ⟨rfl, trivial⟩ ht
    exact hkept.1

/-- What the changes of the Stamp Clock keep, every step keeps but POWER_ON_RESET. -/
theorem ClockKept.step {C : StampClock → Prop} (hC : ClockKept C) {s u : State}
    (hne : s.pending.head? ≠ some .powerOnReset) (hs : C s.clock) (hu : step s = .next u) : C u.clock := by
  obtain ⟨-, rfl⟩ | ⟨c, rest, hq, hc⟩ := step_cases hu
  · exact hs
  · have hcmd : c ≠ .powerOnReset := fun he => hne (by rw [hq, he]; rfl)
    have hstart : QueueAndClock rest C { s with pending := rest } := ⟨rfl, hs⟩
    have hkept := hC.kept.exec hcmd hstart hc
    exact hkept.2

/-- The counter of a stamp issued, or of a merge, fits its 16 bits, and the time its 42 (R40, R43). -/
theorem issuePair_le {pt l c l' c' : Nat} {b : Bool} (hpt : pt ≤ Config.maxTime) (hl : l ≤ Config.maxTime)
    (h : issuePair pt l c = some (l', c', b)) : l' ≤ Config.maxTime ∧ c' ≤ 65535 := by
  unfold issuePair at h
  repeat' split at h
  all_goals cases h
  all_goals omega

theorem mergePair_le {pt l lm : Nat} (c cm : Nat) (hpt : pt ≤ Config.maxTime) (hl : l ≤ Config.maxTime)
    (hlm : lm ≤ Config.maxTime) :
    (mergePair pt l c lm cm).1 ≤ Config.maxTime ∧ (mergePair pt l c lm cm).2.1 ≤ 65535 := by
  unfold mergePair
  dsimp only
  repeat' split
  all_goals constructor <;> dsimp only <;> omega

/-- An issue raises the pair (Table 2-3). -/
theorem issuePair_raises {pt l c l' c' : Nat} {b : Bool} (h : issuePair pt l c = some (l', c', b)) :
    l < l' ∨ (l = l' ∧ c ≤ c') := by
  unfold issuePair at h
  repeat' split at h
  all_goals cases h
  all_goals omega

/-- A merge does not lower the pair while its counter is in range (Table 2-4). -/
theorem mergePair_raises (pt l c lm cm : Nat) (hc : c ≤ 65535) :
    l < (mergePair pt l c lm cm).1 ∨ (l = (mergePair pt l c lm cm).1 ∧ c ≤ (mergePair pt l c lm cm).2.1) := by
  unfold mergePair mergeCounter
  dsimp only
  repeat' split
  all_goals dsimp only
  all_goals omega

theorem clockOk_kept : ClockKept ClockOk where
  given _ _ _ _ htime hlow hhigh h := ⟨htime, h.time, h.counter, hlow, hhigh, h.ownSite⟩
  issued x pt l c b hpt hi h :=
    have hle := issuePair_le hpt h.time hi
    ⟨h.given, hle.1, hle.2, h.skewLow, h.skewHigh, h.ownSite⟩
  merged x pt lm cm hpt hlm h :=
    have hle := mergePair_le x.c cm hpt h.time hlm
    ⟨h.given, hle.1, hle.2, h.skewLow, h.skewHigh, h.ownSite⟩
  site x n i hn h := ⟨h.given, h.time, h.counter, h.skewLow, h.skewHigh, fun m hm => by cases hm; exact hn⟩
  restarted x h := ⟨h.given, h.time, h.counter, (by decide : 10 ≤ 1000), (by decide : 1000 ≤ 60000), fun _ hn => by cases hn⟩

theorem StampClock.reset_ok : ClockOk StampClock.reset :=
  ⟨by decide, by decide, by decide, by decide, by decide, fun _ h => by cases h⟩

/-- Settles O19: every change of the Stamp Clock keeps its ranges, and POWER_ON_RESET puts it at values in them. -/
theorem clockRangesKept : Obligations.ClockRangesKept := by
  intro s t hs ht
  by_cases hne : s.pending.head? = some .powerOnReset
  · obtain ⟨hq, -⟩ | ⟨c, rest, hq, hc⟩ := step_cases ht
    · rw [hq] at hne
      cases hne
    · rw [hq] at hne
      cases hne
      cases hc
      exact StampClock.reset_ok
  · exact clockOk_kept.step hne hs ht

theorem NotBelow.trans {a b c : StampClock} (hab : NotBelow a b) (hbc : NotBelow b c) : NotBelow a c := by
  unfold NotBelow at *
  omega

/-- Every change of a clock in its ranges leaves the pair not below the one it had. -/
theorem notBelow_kept (a : StampClock) : ClockKept fun x => ClockOk x ∧ NotBelow a x where
  given x time at' skew htime hlow hhigh h := ⟨clockOk_kept.given x time at' skew htime hlow hhigh h.1, h.2⟩
  issued x pt l c b hpt hi h := ⟨clockOk_kept.issued x pt l c b hpt hi h.1, h.2.trans (issuePair_raises hi)⟩
  merged x pt lm cm hpt hlm h :=
    ⟨clockOk_kept.merged x pt lm cm hpt hlm h.1, h.2.trans (mergePair_raises pt x.l x.c lm cm h.1.counter)⟩
  site x n i hn h := ⟨clockOk_kept.site x n i hn h.1, h.2⟩
  restarted x h := ⟨clockOk_kept.restarted x h.1, h.2⟩

/-- Settles O20: among the changes of the Stamp Clock only the issue and the merge write the pair, and each raises it. -/
theorem clockNeverGoesBack : Obligations.ClockNeverGoesBack := by
  intro s t hs hne ht
  have hsame : NotBelow s.clock s.clock := .inr ⟨rfl, Nat.le_refl _⟩
  have hkept := (notBelow_kept s.clock).step hne ⟨hs, hsame⟩ ht
  exact hkept.2

end Sys2Proof.Machine

/-! # The capacities: every step keeps them -/

namespace Sys2Proof.Machine

/-! ## The link -/

theorem Sli.replySent_reports (x : Sli) (h : x.reports.length ≤ 256) : x.replySent.reports.length ≤ 256 := by
  unfold Sli.replySent
  split
  · exact Nat.zero_le _
  · exact h

theorem Sli.restartSent_reports (x : Sli) (h : x.reports.length ≤ 256) : x.restartSent.reports.length ≤ 256 := by
  unfold Sli.restartSent
  split
  · exact x.replySent_reports h
  · exact h

theorem Sli.enterTag_reports (x : Sli) (r : LinkRecord) : (x.enterTag r).reports = x.reports := by
  unfold Sli.enterTag
  split
  · rfl
  · split <;> rfl

theorem Sli.sendNext_reports (x : Sli) (h : x.reports.length ≤ 256) : x.sendNext.reports.length ≤ 256 := by
  unfold Sli.sendNext
  split
  · next r rest hr =>
    rw [hr, List.length_cons] at h
    exact Nat.le_of_succ_le h
  · split
    · exact h
    · split
      · rw [Sli.enterTag_reports]
        exact h
      · exact h

theorem Capacities.linkKept : LinkKept Capacities where
  requestTaken _ h := h.setSli _ (Sli.replySent_reports _ h.reports)
  recordTaken _ h := h.setSli _ (Sli.restartSent_reports _ h.reports)
  queueReply _ _ h := h.setSli _ h.reports
  linkFault _ _ h := h.setSli _ (Sli.linkFault_length _ _ h.reports)
  latchLinkError _ h := h.setSli _ h.reports
  setAsm _ _ _ h := h.setSli _ h.reports
  dropTag _ _ h := h.setSli _ h.reports
  sendNext _ h := h.setSli _ (Sli.sendNext_reports _ h.reports)
  latchesRead _ h := h.setSli _ h.reports
  setMask _ _ h := h.setSli _ h.reports

/-! ## SUBMIT -/

/-- What the checks of R16 make sure of: a record or room in the map (step 6), a place in the journal for an append
(step 7), and outbound slots (step 8). -/
structure RoomForSubmit (s : State) (q : SubmitReq) : Prop where
  map : (s.findObj q.bucket q.digest).isSome = true ∨ s.mapHasRoom = true
  journal : s.unsealedOf q.bucket q.digest = none → (s.bucket q.bucket).hasTarget = true → s.journal.entries.length < 65536
  slots : (s.unsealedOf q.bucket q.digest).isSome = true ∨ (s.bucket q.bucket).hasTarget = true →
    s.body.outUse - ((s.unsealedOf q.bucket q.digest).map JEntry.slotsHeld).getD 0 + q.slotsNeeded ≤ 589824
      ∨ q.slotsNeeded = 0

/-- A SUBMIT that no check refuses finds room. -/
theorem State.roomForSubmit {s : State} {q : SubmitReq} (h : s.submitRefusal q = none) : RoomForSubmit s q := by
  unfold State.submitRefusal at h
  dsimp only at h
  repeat' split at h
  all_goals try cases h
  next hmap hfull hbody =>
  refine ⟨?_, fun hn ht => ?_, fun hs => ?_⟩
  · by_contra hno
    rw [not_or] at hno
    exact hmap ⟨by simpa using hno.1, by simpa using hno.2⟩
  · by_contra hno
    exact hfull ⟨by simp [hn], ht, Nat.le_of_not_lt hno⟩
  · by_contra hno
    rw [not_or] at hno
    exact hbody ⟨Nat.pos_of_ne_zero hno.2, hs, Nat.lt_of_not_le hno.1⟩

/-- Room is judged on the journal, the buckets, the map and the Body Store alone. -/
theorem RoomForSubmit.of_eq {s u : State} {q : SubmitReq} (h : RoomForSubmit s q) (hj : u.journal = s.journal)
    (hb : u.buckets = s.buckets) (hm : u.map = s.map) (hd : u.body = s.body) : RoomForSubmit u q := by
  have hobj : u.findObj = s.findObj := by unfold State.findObj; rw [hm]
  have hentry : u.entryAt = s.entryAt := by unfold State.entryAt; rw [hj]
  have huns : u.unsealedOf = s.unsealedOf := by unfold State.unsealedOf; rw [hobj, hentry]
  have hbucket : u.bucket = s.bucket := by unfold State.bucket; rw [hb]
  have hroom : u.mapHasRoom = s.mapHasRoom := by unfold State.mapHasRoom; rw [hm]
  refine ⟨?_, ?_, ?_⟩
  · rw [hobj, hroom]
    exact h.map
  · rw [huns, hbucket, hj]
    exact h.journal
  · rw [huns, hbucket, hd]
    exact h.slots

/-- An issue of a stamp changes the Stamp Clock and the link alone. -/
theorem State.issue_frame {s u : State} {site : Nat} {x : Stamp} (h : s.issue site = some (x, u)) :
    ∃ c y, u = (s.setClock c).setSli y := by
  unfold State.issue at h
  split at h
  · cases h
  · next l c b _ =>
    cases h
    split
    · exact ⟨_, _, rfl⟩
    · exact ⟨{ s.clock with l := l, c := c }, s.sli, rfl⟩

/-! ## The object a SUBMIT stamps -/

theorem touchObj_find (m : List ObjRec) (b : Nat) (d : Digest) {g : ObjRec → ObjRec}
    (hg : ∀ r, (g r).names b d = r.names b d) :
    (touchObj m b d g).find? (·.names b d) = (m.find? (·.names b d)).map g := by
  have hnone : (m.filter fun r => !r.names b d).find? (·.names b d) = none := by
    rw [List.find?_eq_none]
    intro r hr
    simpa using (List.mem_filter.mp hr).2
  have hcomp : (fun r : ObjRec => r.names b d) ∘ g = fun r => r.names b d := funext hg
  unfold touchObj
  rw [List.find?_append, hnone, Option.none_or, List.find?_map, hcomp, List.find?_filter]
  simp

theorem evictOne_sub {m : List ObjRec} {r : ObjRec} (h : r ∈ evictOne m) : r ∈ m := by
  induction m with
  | nil => exact h
  | cons x rest ih =>
    unfold evictOne at h
    split at h
    · exact List.mem_cons_of_mem _ h
    · rcases List.mem_cons.mp h with rfl | hr
      · exact List.mem_cons_self
      · exact List.mem_cons_of_mem _ (ih hr)

theorem makeRoom_sub {m : List ObjRec} {r : ObjRec} (h : r ∈ makeRoom m) : r ∈ m := by
  unfold makeRoom at h
  split at h
  · exact h
  · exact evictOne_sub h

/-- After a find-or-insert the object has its record, changed (R49, R50). -/
theorem State.findOrInsert_findObj (s : State) (b : Nat) (d : Digest) {g : ObjRec → ObjRec}
    (hg : ∀ r, (g r).names b d = r.names b d) :
    (s.findOrInsert b d g).findObj b d = some (g ((s.findObj b d).getD ⟨b, d, none, false, none, 0⟩)) := by
  unfold State.findOrInsert
  split
  · next r hr =>
    unfold State.findObj at hr ⊢
    rw [setMap_map, touchObj_find _ _ _ hg, hr]
    rfl
  · next hn =>
    have hroom : (makeRoom s.map).find? (·.names b d) = none := by
      rw [List.find?_eq_none]
      intro r hr
      exact List.find?_eq_none.mp hn r (makeRoom_sub hr)
    have hnew : (g ⟨b, d, none, false, none, 0⟩).names b d = true := by
      rw [hg]
      simp [ObjRec.names]
    rw [hn]
    unfold State.findObj
    rw [setMap_map, List.find?_append, hroom, Option.none_or, List.find?_cons_of_pos (p := fun r : ObjRec => r.names b d) hnew]
    rfl

theorem State.findOrInsert_entryAt (s : State) (b : Nat) (d : Digest) (g : ObjRec → ObjRec) :
    (s.findOrInsert b d g).entryAt = s.entryAt := by
  unfold State.entryAt
  rw [findOrInsert_journal]

/-- The stamp leaves the object's unsealed entry as it was (R17). -/
theorem State.stampObject_unsealedOf (s : State) (q : SubmitReq) (x : Stamp) :
    (s.stampObject q x).unsealedOf q.bucket q.digest = s.unsealedOf q.bucket q.digest := by
  have hfind := s.findOrInsert_findObj q.bucket q.digest
    (g := fun r => { r with stamp := some x, tombstone := q.kind == 3 }) fun _ => rfl
  unfold State.stampObject State.unsealedOf
  rw [hfind, findOrInsert_entryAt]
  cases s.findObj q.bucket q.digest <;> rfl

/-! ## The outcomes of SUBMIT -/

theorem slotsFor_pos {n : Nat} (h : n ≠ 0) : 0 < slotsFor n := by
  unfold slotsFor ceilDiv
  have hsize : Config.segBytes = 8128 := rfl
  rw [hsize]
  omega

/-- A change with a body needs the slots of its body. -/
theorem SubmitReq.slotsNeeded_of_body {q : SubmitReq} (h : q.change.length ≠ 0) :
    q.slotsNeeded = slotsFor q.change.length ∧ q.slotsNeeded ≠ 0 := by
  have hkind : q.kind = 1 := by
    by_contra hk
    unfold SubmitReq.change at h
    rw [if_neg hk] at h
    split at h <;> exact h rfl
  have heq : q.slotsNeeded = slotsFor q.change.length := by
    unfold SubmitReq.slotsNeeded SubmitReq.change
    rw [if_pos hkind, if_pos hkind]
    rfl
  exact ⟨heq, heq ▸ (slotsFor_pos h).ne'⟩

theorem Capacities.bumpGen {s : State} (h : Capacities s) (i g : Nat) : Capacities (s.bumpGen i g) :=
  h.setJournal _ h.journal

theorem State.releaseSlots_outUse (s : State) (e : JEntry) :
    (s.releaseSlots e).body.outUse = s.body.outUse - e.slotsHeld := by
  rw [State.releaseSlots_body]
  simp [bodyAfter]

theorem Capacities.supersede {s : State} (h : Capacities s) (e : JEntry) (c : Change) (x : Stamp)
    (hroom : c.length ≠ 0 → s.body.outUse - e.slotsHeld + slotsFor c.length ≤ 589824) :
    Capacities (s.supersede e c x).state := by
  have h1 := (((h.releaseSlots e).bumpGen e.index (nextGen e.gen)).putEntry
    { e with gen := nextGen e.gen, stamp := x, change := c, bodyState := c.firstState, fill := none, refillTag := none })
  refine Capacities.setStats (Capacities.refillRefresh (Capacities.reserveSlots (h1.changeObj _ _ _) _ fun hc => ?_)) _
  have huse := s.releaseSlots_outUse e
  simp only [State.changeObj_body, State.putEntry_body, State.bumpGen_body, huse]
  exact hroom hc

theorem Capacities.append {s : State} (h : Capacities s) (b : Nat) (d : Digest) (c : Change) (x : Stamp)
    (hj : s.journal.entries.length < 65536)
    (hroom : c.length ≠ 0 → s.body.outUse + slotsFor c.length ≤ 589824) : Capacities (s.append b d c x).state := by
  have h1 := (h.bumpGen s.freePosition (nextGen (s.journal.gens.get 0 s.freePosition))).setEntries (s.journal.entries ++
    [{ index := s.freePosition, gen := nextGen (s.journal.gens.get 0 s.freePosition), bucket := b, digest := d, stamp := x,
       change := c, bodyState := c.firstState, seq := none,
       peers := (s.bucket b).targets.map fun x => if x then some .queued else none, fill := none, framesOut := 0,
       refillTag := none }]) (by simpa using hj)
  exact Capacities.reserveSlots (h1.changeObj _ _ _) _ hroom

/-- The outcome of a SUBMIT that has room, its object stamped. -/
theorem Capacities.submitOutcome {s : State} (h : Capacities s) {q : SubmitReq} (hr : RoomForSubmit s q) (x : Stamp) :
    Capacities ((s.stampObject q x).submitOutcome q x).state := by
  have h1 : Capacities (s.stampObject q x) := h.findOrInsert _ _ _ hr.map
  have hbucket : (s.stampObject q x).bucket q.bucket = s.bucket q.bucket := by simp [State.bucket]
  unfold State.submitOutcome
  rw [State.stampObject_unsealedOf, hbucket]
  split
  · next e he =>
    split
    · exact (h1.putEntry _).setStats _
    · refine h1.supersede _ _ _ fun hc => ?_
      obtain ⟨hneed, hpos⟩ := SubmitReq.slotsNeeded_of_body hc
      have hslots := hr.slots (.inl (by simp [he]))
      rw [he, hneed] at hslots
      rw [State.stampObject_body]
      exact hslots.resolve_right (hneed ▸ hpos)
  · next hn =>
    split
    · next ht =>
      refine h1.append _ _ _ _ (by rw [State.stampObject_journal]; exact hr.journal hn ht) fun hc => ?_
      obtain ⟨hneed, hpos⟩ := SubmitReq.slotsNeeded_of_body hc
      have hslots := hr.slots (.inr ht)
      rw [hn, hneed] at hslots
      rw [State.stampObject_body]
      exact hslots.resolve_right (hneed ▸ hpos)
    · exact h1

theorem Capacities.submitAnswer {s : State} (h : Capacities s) (b : List Byte) : Capacities (answerSubmit b s).state := by
  unfold answerSubmit
  dsimp only
  split
  · unfold State.refuseSubmit
    exact ite_keeps h (h.latch _)
  · next hr =>
    split
    · exact h
    · next x u hi =>
      obtain ⟨c, y, rfl⟩ := State.issue_frame hi
      have hroom : RoomForSubmit ((s.setClock c).setSli y) (parseSubmit b) :=
        (State.roomForSubmit hr).of_eq rfl rfl rfl rfl
      exact ((h.issue hi).submitOutcome hroom x).setStats _

/-! ## The other requests -/

theorem Capacities.addTarget {s : State} (h : Capacities s) (b : Nat) (t : Trunk) : Capacities (State.addTarget b s t) :=
  (h.setBucket _ _).mapEntries _

theorem Capacities.removeTarget {s : State} (h : Capacities s) (b : Nat) (t : Trunk) :
    Capacities (State.removeTarget b s t) := by
  unfold State.removeTarget
  exact (h.setBucket _ _).dropSlotFrom t _

theorem Capacities.retarget {s : State} (h : Capacities s) (b : Nat) (targets : Quad Bool) :
    Capacities (s.retarget b targets) :=
  Capacities.foldl (fun _ e h => h.takeOut e) _
    (Capacities.foldl (fun _ t h => h.removeTarget b t) _ (Capacities.foldl (fun _ t h => h.addTarget b t) _ h))

theorem Capacities.setUpBucket {s : State} (h : Capacities s) (b : Nat) (state : BucketState) (targets : Quad Bool)
    (band : Band) : Capacities (s.setUpBucket b state targets band) := by
  unfold State.setUpBucket
  dsimp only
  split
  · exact h.setBucket _ _
  · exact ((((h.setBucket _ _).retarget b targets).setBucket _ _).drainTest b).refillRefresh

/-- BUCKET-SET either refuses or sets up the bucket. -/
theorem answerBucketSet_keeps {P : State → Prop} {s : State} (hs : P s)
    (hset : ∀ b state targets band, P (s.setUpBucket b state targets band)) (body : List Byte) :
    P (answerBucketSet body s).state := by
  unfold answerBucketSet
  dsimp only
  split
  · split
    · exact hs
    · split
      · exact hs
      · exact hset _ _ _ _
  · exact hs

/-- CHUNK either refuses, or writes the fill record of an entry, or completes the fill, or the fill fails. -/
theorem answerChunk_keeps {P : State → Prop} {s : State} (hs : P s)
    (hput : ∀ (e : JEntry) f st tag, e ∈ s.journal.entries →
      P (s.putEntry { e with fill := f, bodyState := st, refillTag := tag }))
    (hfail : ∀ e, e ∈ s.journal.entries → P ((s.fillFailed e).refillRefresh)) (body : List Byte) :
    P (answerChunk body s).state := by
  unfold answerChunk
  dsimp only
  split
  · exact hs
  · next e he =>
    have hmem : e ∈ s.journal.entries := List.mem_of_find?_eq_some (Option.filter_eq_some_iff.mp he).1
    split
    · exact hs
    · split
      · exact hs
      · split
        · exact hs
        · unfold State.fillWith State.fillComplete
          dsimp only
          split
          · split
            · exact hput _ _ _ _ hmem
            · exact hfail _ hmem
          · exact hput e _ e.bodyState e.refillTag hmem

theorem Capacities.fillFailed {s : State} (h : Capacities s) (e : JEntry) : Capacities (s.fillFailed e) := by
  unfold State.fillFailed
  split
  · exact h.removeEntry e
  · split
    · exact h.loseEntry e
    · exact h.convertVoid e

theorem Capacities.policyChange {s : State} (h : Capacities s) (t : Trunk) (old new : Bool) :
    Capacities (s.policyChange t old new) := ite_keeps h (h.setSli _ h.reports)

theorem Port.configured_store (p : Port) (q : ConfigReq) : (p.configured q).store = p.store := by
  unfold Port.configured Port.stagedInForce
  split <;> rfl

theorem Port.stagedInForce_store (p : Port) : p.stagedInForce.store = p.store := by
  rw [Port.stagedInForce_eq]

theorem Capacities.configure {s : State} (h : Capacities s) (t : Trunk) (q : ConfigReq) : Capacities (s.configure t q) := by
  have h1 := (h.keepPort t ((s.port t).configured q) (by rw [Port.configured_store])).policyChange t
    (s.port t).config.identifyPolicy q.identify
  exact ite_keeps h1 (h1.peerChange t)

/-- TRUNK-SET either refuses or writes the configuration. -/
theorem answerTrunkSet_keeps {P : State → Prop} {s : State} (hs : P s) (body : List Byte)
    (hset : ∀ t, (s.port t).setRefusal (parseConfig body) = none → P (s.configure t (parseConfig body).clamped)) :
    P (answerTrunkSet body s).state := by
  unfold answerTrunkSet
  dsimp only
  split
  · exact hs
  · split
    · exact hs
    · next hr => exact hset _ hr

theorem Capacities.finishHead {s : State} (h : Capacities s) (k : Nat) (e : InEntry) : Capacities (s.finishHead k e) :=
  (((h.setInRec _ _).discardInbound e).leaveList _).forwardTest k

theorem Capacities.headAnswer {s : State} (h : Capacities s) (k : Nat) (ok : Bool) : Capacities (s.headAnswer k ok) := by
  unfold State.headAnswer
  dsimp only
  split
  · exact (h.setInRec _ _).finishHead _ _
  · exact h.setInRec _ _
  · exact (h.setInRec _ _).latch _

theorem Capacities.applyAnswer {s : State} (h : Capacities s) (n : Nat) (ok : Bool) : Capacities (s.applyAnswer n ok) := by
  unfold State.applyAnswer
  split
  · exact h
  · dsimp only
    split
    · exact (h.freeSlot n).discardInbound _
    · exact (h.freeSlot n).headAnswer _ ok

theorem Capacities.bodyGone {s : State} (h : Capacities s) (e : JEntry) : Capacities (s.bodyGone e) :=
  ite_keeps (h.convertVoid e) (h.loseEntry e)

theorem Capacities.bodyAnswer {s : State} (h : Capacities s) (n : Nat) (ok : Bool) : Capacities (s.bodyAnswer n ok) := by
  unfold State.bodyAnswer
  split
  · exact h
  · have h1 : Capacities (s.setBody { s.body with refillTable := s.body.refillTable.filter (fun x => x.1 != n) }) :=
      h.setBody _ ⟨h.body.outbound, h.body.inbound, Nat.le_trans (List.length_filter_le _ _) h.body.table⟩
    dsimp only
    split
    · exact h1
    · split
      · exact h1
      · exact (h1.bodyGone _).refillRefresh

/-! ## Timers and the Apply Unit -/

theorem Capacities.takeRequest {s : State} (h : Capacities s) (t : Trunk) : Capacities (s.takeRequest t) := by
  unfold State.takeRequest
  split
  · exact h
  · next sig rest _ =>
    have h1 := h.setSup t { s.sup t with requests := rest }
    unfold State.consequence
    dsimp only
    split
    · exact ite_keeps h1 (h1.moveDown t)
    · split
      · exact h1.moveFaulted t _
      · exact ite_keeps h1 (h1.setSup t _)
    · split
      · exact h1.moveFaulted t _
      · exact ite_keeps h1 (h1.setSup t _)
    · exact h1

theorem Capacities.closePeriod {s : State} (h : Capacities s) (t : Trunk) : Capacities (s.closePeriod t) := by
  unfold State.closePeriod
  dsimp only
  split
  · exact (h.setSup t _).latchTrunk t _
  · split
    · exact h.setSup t _
    · exact (h.setSup t _).latchUnidentified t

theorem Capacities.stagedStart {s : State} (h : Capacities s) (t : Trunk) : Capacities (s.stagedStart t) := by
  have hlen : ((s.port t).stagedStarted s.now).store.length = (s.port t).store.length := by simp [Port.stagedStarted]
  exact (h.keepPort t ((s.port t).stagedStarted s.now) hlen.le).countEvents t _ _

theorem Capacities.countCycle {s : State} (h : Capacities s) (t : Trunk) : Capacities (s.countCycle t) := by
  unfold State.countCycle
  dsimp only
  split
  · split
    · exact h.enterRunning t
    · exact h.keepPort t _ (by exact Nat.le_refl _)
  · split
    · exact h.keepPort t _ (by exact Nat.le_refl _)
    · exact h

/-- A record that may take a slot has been handed one, or one is spare: it takes no more than there are (R145). -/
theorem ApplyCap.takeSlot {a : ApplyUnit} (h : ApplyCap a) (tag : Nat) (t : Trunk) (b : Nat)
    (hslot : a.slotFor (recKey t b) = true) : ApplyCap (a.takeSlot tag t b) := by
  refine ⟨h.backlog, ?_⟩
  have hs := h.slots
  simp only [ApplyUnit.takeSlot, List.length_append, List.length_singleton]
  rcases Bool.or_eq_true_iff.mp hslot with hgranted | hspare
  · have hmem : recKey t b ∈ a.granted := by simpa using hgranted
    have hlt : (a.granted.filter (· != recKey t b)).length < a.granted.length :=
      List.length_filter_lt_length_iff_exists.mpr ⟨_, hmem, by simp⟩
    omega
  · have hpos : 0 < a.spare := by simpa using hspare
    have hle := List.length_filter_le (· != recKey t b) a.granted
    simp only [ApplyUnit.spare, Config.applySlots] at hpos
    omega

theorem Capacities.touchMap {s : State} (h : Capacities s) (b : Nat) (d : Digest) (g : ObjRec → ObjRec) :
    Capacities (s.setMap (touchObj s.map b d g)) := h.setMap _ (by rw [touchObj_length]; exact h.map)

theorem Capacities.sendApply {s : State} (h : Capacities s) (t : Trunk) (b : Nat) (e : InEntry) (unchecked : Bool)
    (hslot : s.apply.slotFor (recKey t b) = true) : Capacities (s.sendApply t b e unchecked) := by
  have h1 : Capacities (s.adoptStamp e) := ite_keeps h (h.touchMap _ _ _)
  have h2 : Capacities ((s.adoptStamp e).setApply ((s.adoptStamp e).apply.takeSlot s.apply.nextTag t b)) :=
    h1.setApply _ (h1.apply.takeSlot _ _ _ (by rw [State.adoptStamp_apply]; exact hslot))
  exact (h2.setInRec _ _).setSli _ h2.reports

theorem Capacities.discardStale {s : State} (h : Capacities s) (k : Nat) (e : InEntry) :
    Capacities (s.discardStale k e) := by
  have h1 : Capacities (s.touch e) := ite_keeps h (h.touchMap _ _ _)
  exact (h1.setStats _).finishHead k e

theorem Capacities.forward {s : State} (h : Capacities s) (t : Trunk) (b : Nat) : Capacities (s.forward t b) := by
  unfold State.forward
  dsimp only
  split
  · split
    · exact h.finishHead _ _
    · split
      · next hslot =>
        unfold State.forwardEntry
        split
        · exact h.discardStale _ _
        · exact h.sendApply _ _ _ _ hslot
        · exact h.sendApply _ _ _ _ hslot
      · exact h.forwardTest _
  · exact h

theorem State.reserveSlots_refillTable (s : State) (e : JEntry) :
    (s.reserveSlots e).body.refillTable = s.body.refillTable := by
  unfold State.reserveSlots
  split
  · rfl
  · unfold State.parkStart
    split <;> rfl

theorem Capacities.setRefillTable {s : State} (h : Capacities s) (l : List (Nat × Handle)) (hl : l.length ≤ 64) :
    Capacities (s.setBody { s.body with refillTable := l }) := h.setBody _ ⟨h.body.outbound, h.body.inbound, hl⟩

theorem Capacities.wantBody {s : State} (h : Capacities s) (e : JEntry) (hfits : s.refillFits e = true) :
    Capacities (s.wantBody e) := by
  obtain ⟨htable, huse⟩ := Bool.and_eq_true_iff.mp hfits
  have hlt : s.body.refillTable.length < 64 := of_decide_eq_true htable
  have h1 := (h.putEntry { e with bodyState := .refilling, refillTag := some s.refillTagNext }).reserveSlots
    { e with bodyState := .refilling, refillTag := some s.refillTagNext } fun _ => of_decide_eq_true huse
  refine Capacities.refillRefresh (Capacities.setSli (h1.setRefillTable _ ?_) _ h1.reports)
  rw [State.reserveSlots_refillTable, List.length_append]
  exact hlt

theorem Capacities.refillHead {s : State} (h : Capacities s) : Capacities s.refillHead := by
  unfold State.refillHead
  split
  · exact h
  · split
    · exact h
    · split
      · next hfits => exact h.wantBody _ hfits
      · exact h

theorem Capacities.parkNext {s : State} (h : Capacities s) : Capacities s.parkNext := by
  unfold State.parkNext
  split
  · split
    · exact h
    · exact ((h.releaseSlots _).putEntry _).setStats _
  · exact h

theorem Capacities.partRestart {s : State} : Capacities s.partRestart where
  journal := Nat.zero_le _
  map := Nat.zero_le _
  body := ⟨Nat.zero_le _, Nat.zero_le _, Nat.zero_le _⟩
  apply := ⟨Nat.zero_le _, Nat.zero_le _⟩
  store t := by
    have hport : s.partRestart.port t = (s.port t).partRestarted := Quad.get_map _ _ _
    rw [hport]
    exact Nat.zero_le _
  reports := Nat.zero_le _

/-! ## Every command -/

theorem Capacities.kept : Kept Capacities where
  toLinkKept := Capacities.linkKept
  setClock _ _ h := h.setClock _
  setSite b s h := by
    unfold answerSetSite
    dsimp only
    split
    · exact h
    · split
      · exact h
      · next hi => exact (h.issue hi).setClock _
  bucketSet b _ h := answerBucketSet_keeps h (fun _ _ _ _ => h.setUpBucket _ _ _ _) b
  submit b _ h := h.submitAnswer b
  chunk b _ h := answerChunk_keeps h (fun _ _ _ _ _ => h.putEntry _) (fun e _ => (h.fillFailed e).refillRefresh) b
  trunkSet b _ h := answerTrunkSet_keeps h b fun _ _ => h.configure _ _
  trunkEnable _ s h := forTrunk_keeps _ _ h fun t => by
    split
    · exact h
    · refine Capacities.setSup (h.keepPort t _ ?_) t _
      exact (congrArg List.length (Port.stagedInForce_store (s.port t))).le
  trunkDisable _ _ h := forTrunk_keeps _ _ h fun t => by
    dsimp only
    split
    · exact h
    · exact h.trunkRestart t _ _
  trunkTest _ s h := forTrunk_keeps _ _ h fun t => by
    split
    · split
      · exact h
      · refine h.keepPort t _ ?_
        exact (congrArg List.length (Port.stagedInForce_store (s.port t))).le
    · exact h
  trunkRestart _ _ h := forTrunk_keeps _ _ h fun t => by
    dsimp only
    split
    · exact h.trunkRestart t _ _
    · exact h
  trunkClear _ _ h := forTrunk_keeps _ _ h fun t => by
    split
    · exact h
    · split
      · exact (h.trunkRestart t _ _).setSup t _
      · exact h
  counterWrite _ _ h := forTrunk_keeps _ _ h fun t => by
    dsimp only
    split
    · exact h
    · exact h.setSup t _
  applyResume b s h := by
    unfold answerApplyResume
    dsimp only
    split
    · exact ite_keeps h ((h.setInRec _ _).forwardTest _)
    · exact h
  restart b s h := by
    unfold answerRestart
    split
    · exact Capacities.partRestart
    · exact h
  applyAnswer _ n ok h := h.applyAnswer n ok
  bodyAnswer _ n ok h := h.bodyAnswer n ok
  advanceTo _ m h := h.advanceTo m
  beginCycle s t h := by
    have h1 := (h.advanceTo (s.port t).cycleDue).keepPort t (s.port t).cycleBegun (by exact Nat.le_refl _)
    exact ⟨h1.journal, h1.map, h1.body, h1.apply, h1.store, h1.reports⟩
  stagedStart _ t h := h.stagedStart t
  closePeriod _ t h := h.closePeriod t
  countCycle _ t h := h.countCycle t
  takeRequest _ t h := h.takeRequest t
  sendTest _ t h := Capacities.emit (h.keepPort t _ (by exact Nat.le_refl _)) t _
  positionDone _ t h := h.keepPort t _ (by exact Nat.le_refl _)
  emit _ t f h := h.emit t f
  sendAlign _ t n h := by
    unfold State.sendAlign
    dsimp only
    split
    · exact Capacities.emit (h.keepPort t _ (by exact Nat.le_refl _)) t _
    · exact h.emit t _
  sendService _ t h := h.sendService t
  dataSlot _ t c m _ h := h.dataSlot t c m
  sendProbe _ t h := Capacities.emit (h.keepPort t _ (by exact Nat.le_refl _)) t _
  joinResend _ t n h := Capacities.countEvent (h.keepPort t _ (by simp)) t _
  moveDown _ t h := h.moveDown t
  stalled _ t h := ((h.setSup t _).latchTrunk t _).moveFaulted t _
  countArrival _ t h := h.countArrival t
  reportArrival _ t v m h := h.reportArrival t v m
  testVerdict _ t _ h := h.keepPort t _ (by exact Nat.le_refl _)
  incarnationCheck _ t i h := h.incarnationCheck t i
  lockStep _ t k h := h.lockStep t k
  headFlags _ t f h := h.headFlags t f
  setPrevHead _ t _ h := h.keepPort t _ (by exact Nat.le_refl _)
  setPeerHears _ t _ h := h.keepPort t _ (by exact Nat.le_refl _)
  setHeard _ t h := h.keepPort t _ (by exact Nat.le_refl _)
  enterAlign _ t _ h := h.enterAlign t
  downToHunt _ t _ h := h.keepPort t _ (by exact Nat.le_refl _)
  protocolRestart _ t h := h.protocolRestart t
  serviceStore _ t f _ h := h.serviceStore t f
  entryAck _ t a h := h.entryAck t a
  holdFrame _ t _ _ _ _ h := h.keepPort t _ (by exact Nat.le_refl _)
  dispatch _ t b h := h.dispatch t b
  frameTaken _ t h := h.keepPort t _ (by exact Nat.le_refl _)
  forward _ t b h := h.forward t b
  refillHead _ h := h.refillHead
  parkNext _ h := h.parkNext

theorem Capacities.reset (n : Nat) (q : List Instr) : Capacities { State.reset with freeCount := n, pending := q } where
  journal := Nat.zero_le _
  map := Nat.zero_le _
  body := ⟨Nat.zero_le _, Nat.zero_le _, Nat.zero_le _⟩
  apply := ⟨Nat.zero_le _, Nat.zero_le _⟩
  store t := by cases t <;> exact Nat.zero_le _
  reports := Nat.zero_le _

/-- Settles O55: every operation keeps the capacities; a SUBMIT, a NOTICE, an APPLY and a BODY-WANTED take room only where
their checks have found it. -/
theorem capacitiesKept : Obligations.CapacitiesKept := fun _ _ hs ht =>
  Capacities.kept.step (fun _ _ h => ⟨h.journal, h.map, h.body, h.apply, h.store, h.reports⟩) Capacities.reset hs ht

end Sys2Proof.Machine

/-! # What every command keeps of each trunk and its supervisor -/

namespace Sys2Proof.Machine

/-! ## The changes of a trunk -/

/-- The states that a trunk restart goes into (R90). -/
def TrunkState.restartGoal (g : TrunkState) : Prop := g ∈ [TrunkState.off, .hunt, .down, .faulted]

/-- What a property of a trunk and its supervisor has to keep: all that the commands make of the configuration, the state,
the stores, the timers and the run. The other registers of a port and of a supervisor are those of same and supSame. -/
structure TrunkKept (Q : Port → Supervisor → Prop) : Prop where
  same : ∀ {p x}, Q p x → ∀ p', p'.state = p.state → p'.config = p.config → p'.staged = p.staged →
    p'.reorder = p.reorder → p'.expectedFrame = p.expectedFrame → (p'.store = [] ↔ p.store = []) → Q p' x
  supSame : ∀ {p x}, Q p x → ∀ x', x'.counters = x.counters → x'.history = x.history → x'.runLength = x.runLength →
    x'.faultCause = x.faultCause → x'.resync = x.resync → x'.stall = x.stall → Q p x'
  counters : ∀ p x k, (∀ c, k.get c = x.counters.get c ∨ k.get c ≤ 255) → Q p x → Q p { x with counters := k }
  closed : ∀ p x sig, Q p x → Q p (x.closed sig)
  restarted : ∀ p x now goal cause, goal.restartGoal → (goal = .faulted ↔ cause.isSome = true) → Q p x →
    Q (p.restarted now goal) (x.restarted cause)
  faultCause : ∀ p x sig, p.state = .faulted → Q p x → Q p { x with faultCause := some sig }
  stagedInForce : ∀ p x, Q p x → Q p.stagedInForce x
  configured : ∀ p x q, p.setRefusal q = none → Q p x → Q (p.configured q.clamped) x
  enabled : ∀ p x, p.state = .off → Q p x → Q { p with state := .hunt } x
  testing : ∀ p x, p.state = .off → Q p x → Q { p with state := .test } x
  aligned : ∀ p x m, p.state = .hunt → Q p x → Q { p with state := .align } { x with resync := some m }
  running : ∀ p x, p.state = .align → Q p x →
    Q { p with state := .running, expectedFrame := 0 } { x with resync := none }
  resync : ∀ p x m, p.state = .running → Q p x → Q { p with state := .resync } { x with resync := some m }
  regained : ∀ p x, p.state = .resync → Q p x → Q { p with state := .running } { x with resync := none }
  downToHunt : ∀ p x, p.state = .down → Q p x → Q { p with state := .hunt } x
  store : ∀ p x l m, p.state.up = true → (l ≠ [] ↔ m.isSome = true) → Q p x →
    Q { p with store := l } { x with stall := m }
  held : ∀ p x n b, p.state.up = true → p.discards n = false → Q p x → Q { p with reorder := p.reorder.put n b } x
  taken : ∀ p x, Q p x →
    Q { p with reorder := p.reorder.del p.expectedFrame, expectedFrame := p.expectedFrame + 1 } x
  partRestarted : ∀ p x, Q p x → Q p.partRestarted x.partRestarted

/-- A property of every trunk with its supervisor. -/
def AllTrunks (Q : Port → Supervisor → Prop) (s : State) : Prop := ∀ t, Q (s.port t) (s.sup t)

section
variable {Q : Port → Supervisor → Prop} {s u : State}

/-! ## One trunk written -/

theorem AllTrunks.of_eq (h : AllTrunks Q s) (hp : u.ports = s.ports) (hx : u.sups = s.sups) : AllTrunks Q u := by
  intro v
  unfold State.port State.sup
  rw [hp, hx]
  exact h v

theorem AllTrunks.write (h : AllTrunks Q s) (t : Trunk) {p : Port} {x : Supervisor} (hp : u.ports = s.ports.set t p)
    (hx : u.sups = s.sups.set t x) (hq : Q p x) : AllTrunks Q u := by
  intro v
  unfold State.port State.sup
  rw [hp, hx, Quad.get_set, Quad.get_set]
  by_cases hv : v = t
  · rw [if_pos hv, if_pos hv]
    exact hq
  · rw [if_neg hv, if_neg hv]
    exact h v

theorem AllTrunks.writePort (h : AllTrunks Q s) (t : Trunk) {p : Port} (hp : u.ports = s.ports.set t p)
    (hx : u.sups = s.sups) (hq : Q p (s.sup t)) : AllTrunks Q u :=
  h.write t hp (hx.trans (Quad.set_get s.sups t).symm) hq

theorem AllTrunks.writeSup (h : AllTrunks Q s) (t : Trunk) {x : Supervisor} (hp : u.ports = s.ports)
    (hx : u.sups = s.sups.set t x) (hq : Q (s.port t) x) : AllTrunks Q u :=
  h.write t (hp.trans (Quad.set_get s.ports t).symm) hx hq

/-- A port written in registers that no property of a trunk reads. -/
theorem AllTrunks.keepPort (hQ : TrunkKept Q) (h : AllTrunks Q s) (t : Trunk) {p : Port}
    (hstate : p.state = (s.port t).state) (hconfig : p.config = (s.port t).config) (hstaged : p.staged = (s.port t).staged)
    (hreorder : p.reorder = (s.port t).reorder) (hexpected : p.expectedFrame = (s.port t).expectedFrame)
    (hstore : p.store = [] ↔ (s.port t).store = []) : AllTrunks Q (s.setPort t p) :=
  h.writePort t rfl rfl (hQ.same (h t) _ hstate hconfig hstaged hreorder hexpected hstore)

/-- A supervisor written in registers that no property of a trunk reads. -/
theorem AllTrunks.keepSup (hQ : TrunkKept Q) (h : AllTrunks Q s) (t : Trunk) {x : Supervisor}
    (hcounters : x.counters = (s.sup t).counters) (hhistory : x.history = (s.sup t).history)
    (hrun : x.runLength = (s.sup t).runLength) (hcause : x.faultCause = (s.sup t).faultCause)
    (hresync : x.resync = (s.sup t).resync) (hstall : x.stall = (s.sup t).stall) : AllTrunks Q (s.setSup t x) :=
  h.writeSup t rfl rfl (hQ.supSame (h t) _ hcounters hhistory hrun hcause hresync hstall)

theorem Counters.get_put (k : Counters) (c d : CounterName) (n : Nat) :
    (k.put c n).get d = if d = c then n else k.get d := by
  cases c <;> cases d <;> rfl

theorem AllTrunks.countEvent (hQ : TrunkKept Q) (h : AllTrunks Q s) (t : Trunk) (c : CounterName) :
    AllTrunks Q (s.countEvent t c) := by
  unfold State.countEvent
  dsimp only
  split
  · next hlt =>
    refine h.writeSup t rfl rfl (hQ.counters _ _ _ (fun d => ?_) (h t))
    rw [Counters.get_put]
    split
    · exact .inr hlt
    · exact .inl rfl
  · exact h.of_eq rfl rfl

theorem AllTrunks.countEvents (hQ : TrunkKept Q) (t : Trunk) (c : CounterName) (n : Nat) :
    ∀ s : State, AllTrunks Q s → AllTrunks Q (s.countEvents t c n) := by
  induction n with
  | zero => exact fun _ h => h
  | succ n ih => exact fun s h => ih _ (h.countEvent hQ t c)

/-! ## Restarts and moves -/

theorem State.trunkRestart_ports (s : State) (t : Trunk) (g : TrunkState) (c : Option Signature) :
    (s.trunkRestart t g c).ports = s.ports.set t ((s.port t).restarted s.now g) := by
  unfold State.trunkRestart
  simp only [State.refillRefresh_ports, State.restartInbound_ports]
  rfl

theorem State.trunkRestart_sups (s : State) (t : Trunk) (g : TrunkState) (c : Option Signature) :
    (s.trunkRestart t g c).sups = s.sups.set t ((s.sup t).restarted c) := by
  unfold State.trunkRestart
  simp only [State.refillRefresh_sups, State.restartInbound_sups]
  rfl

theorem AllTrunks.trunkRestart (hQ : TrunkKept Q) (h : AllTrunks Q s) (t : Trunk) {g : TrunkState} {c : Option Signature}
    (hg : g.restartGoal) (hc : g = .faulted ↔ c.isSome = true) : AllTrunks Q (s.trunkRestart t g c) :=
  h.write t (s.trunkRestart_ports t g c) (s.trunkRestart_sups t g c) (hQ.restarted _ _ _ _ _ hg hc (h t))

theorem AllTrunks.restartHunt (hQ : TrunkKept Q) (h : AllTrunks Q s) (t : Trunk) : AllTrunks Q (s.trunkRestart t .hunt none) :=
  h.trunkRestart hQ t (by simp [TrunkState.restartGoal]) (by simp)

theorem AllTrunks.moveDown (hQ : TrunkKept Q) (h : AllTrunks Q s) (t : Trunk) : AllTrunks Q (s.moveDown t) :=
  (h.trunkRestart hQ t (g := .down) (c := none) (by simp [TrunkState.restartGoal]) (by simp)).of_eq rfl rfl

theorem AllTrunks.moveFaulted (hQ : TrunkKept Q) (h : AllTrunks Q s) (t : Trunk) (sig : Signature) :
    AllTrunks Q (s.moveFaulted t sig) :=
  (h.trunkRestart hQ t (g := .faulted) (c := some sig) (by simp [TrunkState.restartGoal]) (by simp)).of_eq rfl rfl

theorem AllTrunks.protocolRestart (hQ : TrunkKept Q) (h : AllTrunks Q s) (t : Trunk) : AllTrunks Q (s.protocolRestart t) := by
  unfold State.protocolRestart
  refine AllTrunks.restartHunt hQ ?_ t
  exact h.keepPort hQ t rfl rfl rfl rfl rfl Iff.rfl

theorem AllTrunks.enterResync (hQ : TrunkKept Q) (h : AllTrunks Q s) (t : Trunk) (hst : (s.port t).state = .running) :
    AllTrunks Q (s.enterResync t) := h.write t rfl rfl (hQ.resync _ _ _ hst (h t))

theorem AllTrunks.regainRunning (hQ : TrunkKept Q) (h : AllTrunks Q s) (t : Trunk) (hst : (s.port t).state = .resync) :
    AllTrunks Q (s.regainRunning t) := h.write t rfl rfl (hQ.regained _ _ hst (h t))

theorem AllTrunks.enterRunning (hQ : TrunkKept Q) (h : AllTrunks Q s) (t : Trunk) (hst : (s.port t).state = .align) :
    AllTrunks Q (s.enterRunning t) := by
  refine h.write t (p := { s.port t with state := .running, nextFrame := 0, expectedFrame := 0, runCycle := 0 })
    (x := { s.sup t with resync := none }) ?_ ?_ ?_
  · unfold State.enterRunning
    rw [State.refillRefresh_ports]
    rfl
  · unfold State.enterRunning
    rw [State.refillRefresh_sups]
    rfl
  · exact hQ.same (hQ.running _ _ hst (h t)) _ rfl rfl rfl rfl rfl Iff.rfl

theorem AllTrunks.takeRequest (hQ : TrunkKept Q) (h : AllTrunks Q s) (t : Trunk) : AllTrunks Q (s.takeRequest t) := by
  unfold State.takeRequest
  split
  · exact h
  · next sig rest _ =>
    have h1 := h.keepSup hQ t (x := { s.sup t with requests := rest }) rfl rfl rfl rfl rfl rfl
    unfold State.consequence
    dsimp only
    split
    · exact ite_keeps h1 (h1.moveDown hQ t)
    · split
      · exact h1.moveFaulted hQ t _
      · split
        · next hst => exact h1.writeSup t rfl rfl (hQ.faultCause _ _ _ hst (h1 t))
        · exact h1
    · split
      · exact h1.moveFaulted hQ t _
      · split
        · next hst => exact h1.writeSup t rfl rfl (hQ.faultCause _ _ _ hst (h1 t))
        · exact h1
    · exact h1

/-! ## Requests -/

theorem State.policyChange_eq (s : State) (t : Trunk) (old new : Bool) : ∃ y, s.policyChange t old new = s.setSli y := by
  unfold State.policyChange
  split
  · exact ⟨_, rfl⟩
  · exact ⟨s.sli, rfl⟩

theorem State.peerChange_ports (s : State) (t : Trunk) :
    (s.peerChange t).ports = s.ports.set t { s.port t with recorded := none, peerHears := false } := by
  have hremove : ∀ (l : List JEntry) (s : State), (l.foldl State.removeEntry s).ports = s.ports := by
    intro l
    induction l with
    | nil => exact fun _ => rfl
    | cons e l ih => exact fun s => by rw [List.foldl_cons, ih, State.removeEntry_ports]
  unfold State.peerChange State.port
  simp [hremove]

theorem AllTrunks.configure (hQ : TrunkKept Q) (h : AllTrunks Q s) (t : Trunk) (q : ConfigReq)
    (hr : (s.port t).setRefusal q = none) : AllTrunks Q (s.configure t q.clamped) := by
  have h1 : AllTrunks Q (s.setPort t ((s.port t).configured q.clamped)) :=
    h.writePort t rfl rfl (hQ.configured _ _ _ hr (h t))
  have h2 : AllTrunks Q ((s.setPort t ((s.port t).configured q.clamped)).policyChange t (s.port t).config.identifyPolicy
      q.clamped.identify) := h1.of_eq (State.policyChange_ports _ _ _ _) (State.policyChange_sups _ _ _ _)
  refine ite_keeps h2 (h2.writePort t (State.peerChange_ports _ t) (by simp) ?_)
  exact hQ.same (h2 t) _ rfl rfl rfl rfl rfl Iff.rfl

theorem AllTrunks.enable (hQ : TrunkKept Q) (h : AllTrunks Q s) (t : Trunk) (hst : (s.port t).state = .off) :
    AllTrunks Q (s.enable t) := by
  have hstate : (s.port t).stagedInForce.state = .off := by rw [Port.stagedInForce_eq]; exact hst
  have h1 := hQ.enabled _ _ hstate (hQ.stagedInForce _ _ (h t))
  have h2 : Q ((s.port t).enabled s.now) (s.sup t) := hQ.same h1 _ rfl rfl rfl rfl rfl Iff.rfl
  exact h.write t rfl rfl (hQ.supSame h2 _ rfl rfl rfl rfl rfl rfl)

theorem AllTrunks.startTest (hQ : TrunkKept Q) (h : AllTrunks Q s) (t : Trunk) (send check : Pattern) (c1 c2 : BitVec 64)
    (hst : (s.port t).state = .off) : AllTrunks Q (s.setPort t ((s.port t).testing s.now send check c1 c2)) := by
  have hstate : (s.port t).stagedInForce.state = .off := by rw [Port.stagedInForce_eq]; exact hst
  have h1 := hQ.testing _ _ hstate (hQ.stagedInForce _ _ (h t))
  exact h.writePort t rfl rfl (hQ.same h1 _ rfl rfl rfl rfl rfl Iff.rfl)

theorem written_or {b : Bool} {n m : Nat} (h : b = true → n ≤ 255) :
    (if b then n else m) = m ∨ (if b then n else m) ≤ 255 := by
  split
  · next hb => exact .inr (h hb)
  · exact .inl rfl

/-- Every value that a COUNTER-WRITE writes is in range (R158). -/
theorem CounterReq.written_get {q : CounterReq} (hq : ¬ q.tooLarge = true) (k : Counters) (c : CounterName) :
    (q.written k).get c = k.get c ∨ (q.written k).get c ≤ 255 := by
  simp only [CounterReq.tooLarge, Bool.or_eq_true, Bool.and_eq_true, decide_eq_true_eq, not_or, not_and, not_lt] at hq
  obtain ⟨⟨hframe, hhead⟩, hresend⟩ := hq
  cases c with
  | frameCheck => exact written_or hframe
  | headError => exact written_or hhead
  | resend => exact written_or hresend

theorem AllTrunks.submitOutcome (h : AllTrunks Q s) (q : SubmitReq) (x : Stamp) :
    AllTrunks Q (s.submitOutcome q x).state := by
  unfold State.submitOutcome
  split
  · split
    · exact h.of_eq rfl rfl
    · exact h.of_eq (by simp [State.supersede]) (by simp [State.supersede])
  · split
    · exact h.of_eq (by simp [State.append]) (by simp [State.append])
    · exact h

theorem AllTrunks.submitAnswer (h : AllTrunks Q s) (b : List Byte) : AllTrunks Q (answerSubmit b s).state := by
  unfold answerSubmit
  dsimp only
  split
  · exact h.of_eq (by simp) (by simp)
  · split
    · exact h
    · next x u hi =>
      obtain ⟨c, y, rfl⟩ := State.issue_frame hi
      have h1 : AllTrunks Q (((s.setClock c).setSli y).stampObject (parseSubmit b) x) := h.of_eq (by simp) (by simp)
      exact (h1.submitOutcome _ x).of_eq rfl rfl

/-! ## Timers -/

theorem AllTrunks.stagedStart (hQ : TrunkKept Q) (h : AllTrunks Q s) (t : Trunk) : AllTrunks Q (s.stagedStart t) := by
  unfold State.stagedStart
  refine AllTrunks.countEvents hQ t _ _ _ (h.writePort t rfl rfl ?_)
  exact hQ.same (hQ.stagedInForce _ _ (h t)) _ rfl rfl rfl rfl rfl (by simp [Port.stagedStarted, Port.stagedInForce_eq])

theorem AllTrunks.closePeriod (hQ : TrunkKept Q) (h : AllTrunks Q s) (t : Trunk) : AllTrunks Q (s.closePeriod t) := by
  have h1 := hQ.closed _ _ (s.sup t).tally.signature (h t)
  unfold State.closePeriod
  dsimp only
  split
  · exact h.writeSup t rfl rfl (hQ.supSame h1 _ rfl rfl rfl rfl rfl rfl)
  · split
    · exact h.writeSup t rfl rfl h1
    · exact h.writeSup t rfl rfl h1

theorem AllTrunks.countCycle (hQ : TrunkKept Q) (h : AllTrunks Q s) (t : Trunk) : AllTrunks Q (s.countCycle t) := by
  unfold State.countCycle
  dsimp only
  split
  · next hst =>
    split
    · exact h.enterRunning hQ t hst
    · exact h.keepPort hQ t rfl rfl rfl rfl rfl Iff.rfl
  · split
    · exact h.keepPort hQ t rfl rfl rfl rfl rfl Iff.rfl
    · exact h

theorem AllTrunks.emit (hQ : TrunkKept Q) (h : AllTrunks Q s) (t : Trunk) (f : Frame) : AllTrunks Q (s.emit t f) :=
  h.keepPort hQ t rfl rfl rfl rfl rfl Iff.rfl

theorem AllTrunks.fillSlot (hQ : TrunkKept Q) (h : AllTrunks Q s) (t : Trunk) : AllTrunks Q (s.fillSlot t) := by
  unfold State.fillSlot
  split <;> exact h.emit hQ t _

theorem AllTrunks.sendService (hQ : TrunkKept Q) (h : AllTrunks Q s) (t : Trunk) : AllTrunks Q (s.sendService t) := by
  unfold State.sendService
  dsimp only
  refine AllTrunks.emit hQ ?_ t _
  have h1 : AllTrunks Q (s.clearOwed t (ackScan ((s.recsByBucket t).from (s.port t).ackStart) Config.acksPerFrame).2) :=
    h.of_eq rfl rfl
  exact h1.keepPort hQ t rfl rfl rfl rfl rfl Iff.rfl

theorem AllTrunks.sendPiece (hQ : TrunkKept Q) (h : AllTrunks Q s) (t : Trunk) (m : Nat) (b : List Byte) (e : JEntry)
    (hup : (s.port t).state.up = true) : AllTrunks Q (s.sendPiece t m b e) := by
  unfold State.sendPiece
  dsimp only
  split
  · refine AllTrunks.emit hQ (h.write t rfl rfl ?_) t _
    have h1 := hQ.store _ _ ((s.port t).store ++
      [⟨(s.port t).nextFrame, carryFrame (s.port t).nextFrame b, e.handle, m, m, false⟩])
      (some ⟨s.now, (s.port t).config.stallTime * 1000 * Config.nsPerMs⟩) hup (by simp) (h t)
    rw [State.port_setPort_self]
    exact hQ.same h1 _ rfl rfl rfl rfl rfl Iff.rfl
  · next hne =>
    have h1 : AllTrunks Q (s.putEntry { e with framesOut := e.framesOut + 1 }) := h.of_eq rfl rfl
    refine AllTrunks.emit hQ ?_ t _
    refine h1.keepPort hQ t rfl rfl rfl rfl rfl ?_
    constructor
    · intro hnil
      exact absurd hnil (by simp)
    · intro hnil
      have hold : (s.port t).store = [] := hnil
      exact absurd (by rw [hold]; rfl) hne

theorem State.takePiece_frame (s : State) (t : Trunk) (e : JEntry) : (s.takePiece t e).2.2.sups = s.sups
    ∧ ∃ n, (s.takePiece t e).2.2.ports = s.ports.set t { s.port t with stats := n } := by
  refine ⟨State.takePiece_sups s t e, ?_⟩
  unfold State.takePiece
  split
  · exact ⟨(s.port t).stats, (Quad.set_get s.ports t).symm⟩
  · dsimp only
    split <;> exact ⟨_, rfl⟩

theorem AllTrunks.dataSlot (hQ : TrunkKept Q) (h : AllTrunks Q s) (t : Trunk) (c : Band) (m : Nat)
    (hup : (s.port t).state.up = true) : AllTrunks Q (s.dataSlot t c m) := by
  unfold State.dataSlot
  dsimp only
  split
  · refine AllTrunks.emit hQ ?_ t _
    exact h.keepPort hQ t rfl rfl rfl rfl rfl (by simp)
  · split
    · split
      · exact h.fillSlot hQ t
      · next c b _ =>
        split
        · exact h.fillSlot hQ t
        · next e _ =>
          split
          · exact (h.fillSlot hQ t).protocolRestart hQ t
          · have h1 : AllTrunks Q (s.setPort t ((s.port t).served c b)) := by
              cases c <;> exact h.keepPort hQ t rfl rfl rfl rfl rfl Iff.rfl
            obtain ⟨hsups, n, hports⟩ := State.takePiece_frame (s.setPort t ((s.port t).served c b)) t e
            have h2 := h1.writePort t hports hsups (hQ.same (h1 t) _ rfl rfl rfl rfl rfl Iff.rfl)
            refine (h2.sendPiece hQ t m _ _ ?_).of_eq (State.refillRefresh_ports _) (State.refillRefresh_sups _)
            have hport : ((s.setPort t ((s.port t).served c b)).takePiece t e).2.2.port t =
                { (s.port t).served c b with stats := n } := by
              unfold State.port at hports ⊢
              rw [hports, Quad.get_set_self, State.setPort_ports, Quad.get_set_self]
            rw [hport]
            cases c <;> exact hup
    · exact ite_keeps (h.fillSlot hQ t) ((h.fillSlot hQ t).of_eq rfl rfl)

/-! ## Arrivals -/

theorem AllTrunks.reportArrival (hQ : TrunkKept Q) (h : AllTrunks Q s) (t : Trunk) (v : Bool) (m : Marks) :
    AllTrunks Q (s.reportArrival t v m) := by
  have h1 := h.keepSup hQ t (x := { s.sup t with tally := (s.sup t).tally.add v m }) rfl rfl rfl rfl rfl rfl
  unfold State.reportArrival
  dsimp only
  split
  · exact h1
  · exact h1.countEvent hQ t _

theorem AllTrunks.incarnationCheck (hQ : TrunkKept Q) (h : AllTrunks Q s) (t : Trunk) (i : Stamp) :
    AllTrunks Q (s.incarnationCheck t i).1 := by
  unfold State.incarnationCheck
  split
  · exact h.keepPort hQ t rfl rfl rfl rfl rfl Iff.rfl
  · split
    · exact h
    · have h1 : AllTrunks Q (s.incarnationInbound t) := h.of_eq (by simp) (by simp)
      have h2 := h1.keepPort hQ t (p := { (s.incarnationInbound t).port t with recorded := some i }) rfl rfl rfl rfl rfl Iff.rfl
      dsimp only
      split
      · exact h2.protocolRestart hQ t
      · exact h2

theorem AllTrunks.headError (hQ : TrunkKept Q) (h : AllTrunks Q s) (t : Trunk) : AllTrunks Q (s.headError t) := by
  have h1 : AllTrunks Q (if (s.port t).state = .align ∨ (s.port t).state = .running then s.countEvent t .headError else s) :=
    ite_keeps h (h.countEvent hQ t _)
  have hport : (if (s.port t).state = .align ∨ (s.port t).state = .running then s.countEvent t .headError else s).port t =
      s.port t := by
    split <;> simp [State.port]
  have hlock : ∀ x : Lock, AllTrunks Q
      ((if (s.port t).state = .align ∨ (s.port t).state = .running then s.countEvent t .headError else s).setPort t
        { s.port t with lock := x }) := fun x =>
    h1.keepPort hQ t (by rw [hport]) (by rw [hport]) (by rw [hport]) (by rw [hport]) (by rw [hport]) (by rw [hport])
  unfold State.headError
  dsimp only
  split
  · exact hlock _
  · split
    · next hst => exact (hlock _).enterResync hQ t (by rw [State.port_setPort_self]; exact hst)
    · exact hlock _

theorem AllTrunks.lockArrival (hQ : TrunkKept Q) (h : AllTrunks Q s) (t : Trunk) (k : Option Nat) :
    AllTrunks Q (s.lockArrival t k) := by
  have hlock : ∀ x : Lock, AllTrunks Q (s.setPort t { s.port t with lock := x }) := fun x =>
    h.keepPort hQ t rfl rfl rfl rfl rfl Iff.rfl
  unfold State.lockArrival
  dsimp only
  split
  · split
    · split
      · exact hlock _
      · exact h.headError hQ t
    · exact h
  · split
    · exact h
    · split
      · next hst =>
        split
        · exact (hlock _).regainRunning hQ t (by rw [State.port_setPort_self]; exact hst)
        · exact hlock _
      · split
        · exact hlock _
        · exact hlock _

theorem Port.gapJoin_nil (p : Port) (f : ServiceFrame) : (p.gapJoin f).1 = [] ↔ p.store = [] := by
  rw [← List.length_eq_zero_iff, p.gapJoin_length f, List.length_eq_zero_iff]

/-- n events of a kind change the counters of the trunk, which stay as they were or in range (R156, R157). -/
theorem State.countEvents_sups (t : Trunk) (c : CounterName) (n : Nat) : ∀ s : State, ∃ k : Counters,
    (∀ d, k.get d = (s.sup t).counters.get d ∨ k.get d ≤ 255)
      ∧ (s.countEvents t c n).sups = s.sups.set t { s.sup t with counters := k } := by
  induction n with
  | zero => exact fun s => ⟨(s.sup t).counters, fun _ => .inl rfl, (Quad.set_get s.sups t).symm⟩
  | succ n ih =>
    intro s
    obtain ⟨k, hk, hsups⟩ := ih (s.countEvent t c)
    rw [show s.countEvents t c (n + 1) = (s.countEvent t c).countEvents t c n from rfl, hsups]
    unfold State.countEvent at hk ⊢
    dsimp only at hk ⊢
    split at hk <;> rename_i hlt
    · rw [if_pos hlt]
      refine ⟨k, fun d => ?_, by simp [State.sup]⟩
      have hd := hk d
      rw [State.sup_setSup_self, Counters.get_put] at hd
      split at hd
      · exact .inr (by omega)
      · exact hd
    · rw [if_neg hlt]
      exact ⟨k, hk, rfl⟩

/-- The port after the frame-level part of a SERVICE frame (R126 to R128). -/
def Port.serviced (p : Port) (f : ServiceFrame) (now : Nat) : Port :=
  { p with
    peerSeenRunning := true
    store := (p.gapJoin f).1.filter fun x => !serviceCovers f x.number
    peerThrough := if p.rises f.through then f.through else p.peerThrough
    peerThroughAt := if p.rises f.through then now else p.peerThroughAt }

/-- The stall timer then (R170): stopped with no frame in flight, started again where the received-through rises. -/
def Port.stallAfter (p : Port) (f : ServiceFrame) (now : Nat) (stall : Option Timer) : Option Timer :=
  if (p.serviced f now).store.isEmpty then none
  else if p.rises f.through then some ⟨now, p.config.stallTime * 1000 * Config.nsPerMs⟩
  else stall

/-- The frame-level part of a SERVICE frame: the port, the events counted, the frames that leave, the stall timer. -/
theorem State.serviceStore_eq (s : State) (t : Trunk) (f : ServiceFrame) :
    let p := (s.port t).serviced f s.now
    let u := ((s.setPort t p).countEvents t .resend ((s.port t).gapJoin f).2).framesLeave
      ((s.port t).store.filter fun x => serviceCovers f x.number)
    s.serviceStore t f =
      if p.store.isEmpty then u.setSup t { u.sup t with stall := none }
      else if (s.port t).rises f.through then u.startStall t
      else u := rfl

theorem State.serviceStore_ports (s : State) (t : Trunk) (f : ServiceFrame) :
    (s.serviceStore t f).ports = s.ports.set t ((s.port t).serviced f s.now) := by
  rw [State.serviceStore_eq]
  split
  · simp
  · split <;> simp

theorem State.serviceStore_sups (s : State) (t : Trunk) (f : ServiceFrame) : ∃ k : Counters,
    (∀ d, k.get d = (s.sup t).counters.get d ∨ k.get d ≤ 255)
      ∧ (s.serviceStore t f).sups = s.sups.set t
        { s.sup t with counters := k, stall := (s.port t).stallAfter f s.now (s.sup t).stall } := by
  have hconfig : ((s.port t).serviced f s.now).config = (s.port t).config := rfl
  rw [State.serviceStore_eq]
  unfold Port.stallAfter
  generalize (s.port t).serviced f s.now = p at hconfig
  generalize ((s.port t).gapJoin f).2 = n
  obtain ⟨k, hk, hcount⟩ := State.countEvents_sups t .resend n (s.setPort t p)
  refine ⟨k, hk, ?_⟩
  dsimp only
  split
  · simp [State.sup, hcount]
  · split
    · simp [State.startStall, State.sup, State.port, hcount, hconfig]
    · simp [hcount]

theorem AllTrunks.serviceStore (hQ : TrunkKept Q) (h : AllTrunks Q s) (t : Trunk) (f : ServiceFrame)
    (hup : (s.port t).state.up = true) : AllTrunks Q (s.serviceStore t f) := by
  obtain ⟨k, hk, hsups⟩ := s.serviceStore_sups t f
  refine h.write t (s.serviceStore_ports t f) hsups
    (hQ.counters _ { s.sup t with stall := (s.port t).stallAfter f s.now (s.sup t).stall } k hk ?_)
  unfold Port.stallAfter
  split
  · next hnil =>
    exact hQ.same (hQ.store _ _ [] none hup (by simp) (h t)) _ rfl rfl rfl rfl rfl (by simpa using hnil)
  · next hne =>
    have hleft : ((s.port t).serviced f s.now).store ≠ [] := by simpa using hne
    split
    · exact hQ.same (hQ.store _ _ ((s.port t).serviced f s.now).store (some _) hup (by simpa using hleft) (h t)) _
        rfl rfl rfl rfl rfl Iff.rfl
    · have hstore : (s.port t).store ≠ [] := by
        intro hnil
        refine hleft ?_
        unfold Port.serviced
        rw [(Port.gapJoin_nil _ _).mpr hnil]
        rfl
      exact hQ.same (h t) _ rfl rfl rfl rfl rfl (by simp [hstore, hleft])

theorem AllTrunks.entryAck (hQ : TrunkKept Q) (h : AllTrunks Q s) (t : Trunk) (a : EntryAck) :
    AllTrunks Q (State.entryAck t s a) := by
  have hremove : ∀ (l : List JEntry) (u : State), AllTrunks Q u → AllTrunks Q (l.foldl State.removeEntry u) := by
    intro l
    induction l with
    | nil => exact fun _ hu => hu
    | cons e l ih => exact fun u hu => ih _ (hu.of_eq (by simp) (by simp))
  unfold State.entryAck
  split
  · exact h.of_eq rfl rfl
  · unfold State.acceptAck
    dsimp only
    split
    · exact h
    · refine AllTrunks.of_eq (hremove _ _ ?_) (State.refillRefresh_ports _) (State.refillRefresh_sups _)
      refine h.writePort t rfl rfl ?_
      exact hQ.same (h t) _ rfl rfl rfl rfl rfl Iff.rfl

/-! ## Release -/

theorem AllTrunks.countDuplicate (hQ : TrunkKept Q) (h : AllTrunks Q s) (t : Trunk) : AllTrunks Q (s.countDuplicate t) :=
  h.keepPort hQ t rfl rfl rfl rfl rfl Iff.rfl

theorem AllTrunks.dispatchNotice (hQ : TrunkKept Q) (h : AllTrunks Q s) (t : Trunk) (n : Notice) :
    AllTrunks Q (s.dispatchNotice t n).state := by
  unfold State.dispatchNotice
  dsimp only
  split
  · exact h
  · split
    · exact h
    · split
      · exact h.of_eq (by simp) (by simp)
      · split
        · exact h
        · split
          · exact h.of_eq (by simp) (by simp)
          · split
            · exact (h.countDuplicate hQ t).of_eq (by simp [State.duplicateNotice]) (by simp [State.duplicateNotice])
            · exact h

theorem AllTrunks.dispatchSegment (hQ : TrunkKept Q) (h : AllTrunks Q s) (t : Trunk) (g : Segment) :
    AllTrunks Q (s.dispatchSegment t g).state := by
  unfold State.dispatchSegment
  dsimp only
  split
  · exact h
  · split
    · split
      · exact h.of_eq rfl rfl
      · exact h.of_eq (by simp) (by simp)
    · exact (h.countDuplicate hQ t).of_eq rfl rfl
    · exact h

theorem AllTrunks.dispatch (hQ : TrunkKept Q) (h : AllTrunks Q s) (t : Trunk) (b : List Byte) :
    AllTrunks Q (s.dispatch t b).state := by
  unfold State.dispatch
  split
  · exact h.dispatchNotice hQ t _
  · exact h.dispatchSegment hQ t _
  · exact h

/-! ## Every command -/

/-- What the changes of a trunk keep, every operation keeps of every trunk. -/
theorem TrunkKept.kept (hQ : TrunkKept Q) : Kept (AllTrunks Q) where
  toLinkKept := LinkKept.of_setSli fun _ _ h => h.of_eq rfl rfl
  setClock _ _ h := h.of_eq rfl rfl
  setSite b s h := by
    unfold answerSetSite
    dsimp only
    split
    · exact h
    · split
      · exact h
      · next hi =>
        obtain ⟨c, y, rfl⟩ := State.issue_frame hi
        exact h.of_eq rfl rfl
  bucketSet b _ h := answerBucketSet_keeps h (fun _ _ _ _ => h.of_eq (by simp) (by simp)) b
  submit b _ h := h.submitAnswer b
  chunk b _ h := answerChunk_keeps h (fun _ _ _ _ _ => h.of_eq rfl rfl) (fun _ _ => h.of_eq (by simp) (by simp)) b
  trunkSet b _ h := answerTrunkSet_keeps h b fun t hr => h.configure hQ t _ hr
  trunkEnable b s h := forTrunk_keeps _ _ h fun t => by
    split
    · exact h
    · next hr =>
      refine h.enable hQ t ?_
      by_contra hst
      unfold State.enableRefusal at hr
      rw [if_pos hst] at hr
      cases hr
  trunkDisable b s h := forTrunk_keeps _ _ h fun t => by
    dsimp only
    split
    · exact h
    · exact h.trunkRestart hQ t (by simp [TrunkState.restartGoal]) (by simp)
  trunkTest b s h := forTrunk_keeps _ _ h fun t => by
    split
    · split
      · exact h
      · next hst => exact h.startTest hQ t _ _ _ _ (not_not.mp hst)
    · exact h
  trunkRestart b s h := forTrunk_keeps _ _ h fun t => by
    dsimp only
    split
    · exact h.restartHunt hQ t
    · exact h
  trunkClear b s h := forTrunk_keeps _ _ h fun t => by
    split
    · exact h
    · split
      · refine AllTrunks.keepSup hQ (h.restartHunt hQ t) t ?_ ?_ ?_ ?_ ?_ ?_ <;> rfl
      · exact h
  counterWrite b s h := forTrunk_keeps _ _ h fun t => by
    dsimp only
    split
    · exact h
    · next hq => exact h.writeSup t rfl rfl (hQ.counters _ _ _ (CounterReq.written_get hq _) (h t))
  applyResume b s h := by
    unfold answerApplyResume
    dsimp only
    split
    · exact h.of_eq (by simp) (by simp)
    · exact h
  restart b s h := by
    unfold answerRestart
    split
    · intro t
      have hport : s.partRestart.port t = (s.port t).partRestarted := Quad.get_map _ _ _
      have hsup : s.partRestart.sup t = (s.sup t).partRestarted := Quad.get_map _ _ _
      rw [hport, hsup]
      exact hQ.partRestarted _ _ (h t)
    · exact h
  applyAnswer _ _ _ h := h.of_eq (by simp) (by simp)
  bodyAnswer _ _ _ h := h.of_eq (by simp) (by simp)
  advanceTo _ _ h := h
  beginCycle _ t h := h.writePort t rfl rfl (hQ.same (h t) _ rfl rfl rfl rfl rfl Iff.rfl)
  stagedStart _ t h := h.stagedStart hQ t
  closePeriod _ t h := h.closePeriod hQ t
  countCycle _ t h := h.countCycle hQ t
  takeRequest _ t h := h.takeRequest hQ t
  sendTest _ t h := by
    refine AllTrunks.emit hQ ?_ t _
    exact h.keepPort hQ t rfl rfl rfl rfl rfl Iff.rfl
  positionDone _ t h := h.keepPort hQ t rfl rfl rfl rfl rfl Iff.rfl
  emit _ t f h := h.emit hQ t f
  sendAlign _ t n h := by
    unfold State.sendAlign
    dsimp only
    split
    · refine AllTrunks.emit hQ ?_ t _
      exact h.keepPort hQ t rfl rfl rfl rfl rfl Iff.rfl
    · exact h.emit hQ t _
  sendService _ t h := h.sendService hQ t
  dataSlot _ t c m hup h := h.dataSlot hQ t c m hup
  sendProbe _ t h := by
    refine AllTrunks.emit hQ ?_ t _
    exact h.keepPort hQ t rfl rfl rfl rfl rfl Iff.rfl
  joinResend _ t n h := by
    refine AllTrunks.countEvent hQ ?_ t _
    exact h.keepPort hQ t rfl rfl rfl rfl rfl (by simp)
  moveDown _ t h := h.moveDown hQ t
  stalled _ t h := by
    refine AllTrunks.moveFaulted hQ ?_ t _
    have h1 := h.keepSup hQ t (x := { State.sup _ t with lastIdentified := some .stalled }) rfl rfl rfl rfl rfl rfl
    exact h1.of_eq rfl rfl
  countArrival _ t h := h.keepPort hQ t rfl rfl rfl rfl rfl Iff.rfl
  reportArrival _ t v m h := h.reportArrival hQ t v m
  testVerdict _ t _ h := h.keepPort hQ t rfl rfl rfl rfl rfl Iff.rfl
  incarnationCheck _ t i h := h.incarnationCheck hQ t i
  lockStep _ t k h := ite_keeps h (h.lockArrival hQ t k)
  headFlags s t f h := by
    have h1 : AllTrunks Q (s.setPort t { s.port t with
        lock := { (s.port t).lock with peerLocked := f.locked }
        lastCycle := f.cycle.toNat
        filter := (s.port t).filter.take f.alarm }) := h.keepPort hQ t rfl rfl rfl rfl rfl Iff.rfl
    exact ite_keeps h1 (h1.of_eq rfl rfl)
  setPrevHead _ t _ h := h.keepPort hQ t rfl rfl rfl rfl rfl Iff.rfl
  setPeerHears _ t _ h := h.keepPort hQ t rfl rfl rfl rfl rfl Iff.rfl
  setHeard _ t h := h.keepPort hQ t rfl rfl rfl rfl rfl Iff.rfl
  enterAlign s t hst h := by
    have h1 : Q { s.port t with state := .align, alignCycle := 0, alignDelay := (s.port t).config.alignDelay, headCycles := 0 }
        { s.sup t with resync := some (timerMs s.now (s.port t).config.resyncTimeout) } :=
      hQ.same (hQ.aligned _ _ _ hst (h t)) _ rfl rfl rfl rfl rfl Iff.rfl
    exact h.write t rfl rfl h1
  downToHunt _ t hst h := h.writePort t rfl rfl (hQ.downToHunt _ _ hst (h t))
  protocolRestart _ t h := h.protocolRestart hQ t
  serviceStore _ t f hup h := h.serviceStore hQ t f hup
  entryAck _ t a h := h.entryAck hQ t a
  holdFrame _ t n b hup hd h := h.writePort t rfl rfl (hQ.held _ _ n b hup hd (h t))
  dispatch _ t b h := h.dispatch hQ t b
  frameTaken _ t h := h.writePort t rfl rfl (hQ.taken _ _ (h t))
  forward _ _ _ h := h.of_eq (by simp) (by simp)
  refillHead _ h := h.of_eq (by simp) (by simp)
  parkNext _ h := h.of_eq (by simp) (by simp)

/-- What the changes of a trunk keep and a trunk at reset has, every step keeps of every trunk. -/
theorem TrunkKept.step (hQ : TrunkKept Q) (hreset : Q .reset .reset) (hs : AllTrunks Q s) (hu : step s = .next u) :
    AllTrunks Q u := by
  refine hQ.kept.step (fun _ _ h => h) (fun _ _ t => ?_) hs hu
  cases t <;> exact hreset

end

end Sys2Proof.Machine

/-! # Every trunk stays legal -/

namespace Sys2Proof.Machine

/-! ## Configurations -/

theorem clampTo_mem {lo hi : Nat} (v : Nat) (h : lo ≤ hi) : lo ≤ clampTo lo hi v ∧ clampTo lo hi v ≤ hi := by
  rw [clampTo_eq]
  omega

/-- What the checks of R85 leave: the peer and the choices in their domains, and a plan that fits the new K. -/
structure ConfigReq.Accepted (q : ConfigReq) : Prop where
  peer : q.peer ≤ 63 ∨ q.peer = 255
  echoM : q.m ∈ [1, 2, 4, 8]
  probe : q.probePeriod ∈ [10, 25, 50, 100, 250, 500, 1000, 2500]
  plan : q.paced.plan.fits q.clamped.k = true

theorem Port.accepted_of_setRefusal {p : Port} {q : ConfigReq} (h : p.setRefusal q = none) :
    q.Accepted ∧ (p.state = .off ∨ p.changes q = false) := by
  unfold Port.setRefusal at h
  split at h
  · cases h
  · next hdomain =>
    split at h
    · cases h
    · next hchange =>
      split at h
      · next hfits =>
        simp only [ConfigReq.outOfDomain, Bool.or_eq_true, Bool.and_eq_true, decide_eq_true_eq, not_or, not_and,
          bne_iff_ne, Bool.not_eq_true', Bool.not_eq_false, List.contains_iff_mem] at hdomain
        obtain ⟨⟨hpeer, hm⟩, hprobe⟩ := hdomain
        refine ⟨⟨?_, hm, hprobe, hfits⟩, ?_⟩
        · by_cases h63 : 63 < q.peer
          · exact .inr (not_not.mp (hpeer h63))
          · exact .inl (Nat.le_of_not_lt h63)
        · by_cases hoff : p.state = .off
          · exact .inl hoff
          · exact .inr (by simpa using fun hc => hchange ⟨hoff, hc⟩)
      · cases h

theorem ConfigReq.clamped_paced {q : ConfigReq} (h : q.Accepted) : PacedOk q.clamped.k q.clamped.paced where
  rate := clampTo_mem _ (by decide)
  divider := clampTo_mem _ (by decide)
  rtt := clampTo_mem _ (by decide)
  plan := h.plan
  echo := ⟨h.echoM, clampTo_mem _ (by decide)⟩

/-- The configuration that an accepted TRUNK-SET writes is in its ranges if the staged fields in force fit its K. -/
theorem ConfigReq.clamped_config {q : ConfigReq} (h : q.Accepted) {c : TrunkConfig} (hpaced : PacedOk q.clamped.k c.paced) :
    ConfigOk (q.clamped.unstaged c) where
  peer n hn := by
    have hsome : peerOf q.peer = some n := hn
    unfold peerOf at hsome
    rcases h.peer with hp | hp
    · split at hsome
      · cases hsome
      · cases hsome
        exact hp
    · rw [if_pos hp] at hsome
      cases hsome
  k := clampTo_mem _ (by decide)
  paced := hpaced
  alignDelay := (clampTo_mem _ (by decide)).2
  resync := clampTo_mem _ (by decide)
  stall := clampTo_mem _ (by decide)
  probe := h.probe

theorem TrunkState.unpaced_iff (x : TrunkState) : x.unpaced = true ↔ x = .off ∨ x = .test := by
  cases x <;> decide

/-! ## A port by itself -/

theorem ConfigOk.withPaced {c : TrunkConfig} (h : ConfigOk c) {x : Paced} (hx : PacedOk c.k x) :
    ConfigOk { c with paced := x } := ⟨h.peer, h.k, hx, h.alignDelay, h.resync, h.stall, h.probe⟩

/-- The staged fields in force: the configuration stays in its ranges, and nothing is staged (R111). -/
theorem PortOk.stagedInForce_config {p : Port} (h : PortOk p) :
    ConfigOk p.stagedInForce.config ∧ p.stagedInForce.staged = none := by
  rw [Port.stagedInForce_eq]
  refine ⟨h.config.withPaced ?_, rfl⟩
  cases hs : p.staged with
  | none => exact h.config.paced
  | some c => exact h.staged c hs

theorem PortOk.stagedInForce {p : Port} (h : PortOk p) : PortOk p.stagedInForce where
  config := h.stagedInForce_config.1
  staged c hc := by
    rw [h.stagedInForce_config.2] at hc
    cases hc
  unpaced _ := h.stagedInForce_config.2
  store := by
    rw [Port.stagedInForce_eq]
    exact h.store

/-- A port in another state, with frames in flight only where they may be. -/
theorem PortOk.withState {p : Port} (h : PortOk p) {st : TrunkState}
    (hunpaced : st = .off ∨ st = .test → p.staged = none) (hstore : p.store ≠ [] → st = .running ∨ st = .resync) :
    PortOk { p with state := st } := ⟨h.config, h.staged, hunpaced, hstore⟩

theorem PortOk.configured {p : Port} (h : PortOk p) {q : ConfigReq} (hr : p.setRefusal q = none) :
    PortOk (p.configured q.clamped) := by
  obtain ⟨hq, hoff⟩ := Port.accepted_of_setRefusal hr
  have hpaced := ConfigReq.clamped_paced hq
  unfold Port.configured
  split
  · next hunpaced =>
    exact ⟨ConfigReq.clamped_config hq (c := { p.config with paced := q.clamped.paced }) hpaced,
      fun _ hc => (by cases hc), fun _ => rfl, h.store⟩
  · next hup =>
    have hnot : ¬ (p.state = .off ∨ p.state = .test) := fun hst => hup ((TrunkState.unpaced_iff _).mpr hst)
    have hsame : p.changes q = false := hoff.resolve_left fun ho => hnot (.inl ho)
    have hk : p.config.k = q.clamped.k := by
      unfold Port.changes at hsame
      rw [Bool.or_eq_false_iff] at hsame
      simpa using hsame.2
    refine ⟨ConfigReq.clamped_config hq (hk ▸ h.config.paced), fun c hc => ?_, fun hst => absurd hst hnot, h.store⟩
    cases hc
    exact hpaced

/-! ## A trunk and its supervisor -/

theorem Supervisor.closed_ok {x : Supervisor} (h : SupOk x) (sig : Signature) : SupOk (x.closed sig) where
  frameCheck := h.frameCheck
  headError := h.headError
  resend := h.resend
  history := by
    show (List.take 5 _).length ≤ 5
    exact List.length_take_le _ _
  run := by
    show (nextRun _ _ _).2 ≤ 5
    unfold nextRun
    split
    · exact Nat.zero_le _
    · split
      · exact Nat.min_le_right _ _
      · exact (by decide : 1 ≤ 5)

theorem SupOk.counters {x : Supervisor} (h : SupOk x) {k : Counters}
    (hk : ∀ c, k.get c = x.counters.get c ∨ k.get c ≤ 255) : SupOk { x with counters := k } where
  frameCheck := (hk .frameCheck).elim (fun he => he.le.trans h.frameCheck) id
  headError := (hk .headError).elim (fun he => he.le.trans h.headError) id
  resend := (hk .resend).elim (fun he => he.le.trans h.resend) id
  history := h.history
  run := h.run

theorem TrunkState.up_iff (x : TrunkState) : x.up = true ↔ x = .running ∨ x = .resync := by
  cases x <;> decide

/-- A trunk in a state without frames in flight has none, and no stall timer. -/
theorem TrunkOk.idle {p : Port} {x : Supervisor} (h : TrunkOk p x) (hst : ¬ (p.state = .running ∨ p.state = .resync)) :
    p.store = [] ∧ x.stall = none := by
  have hnil : p.store = [] := by
    by_contra hne
    exact hst (h.port.store hne)
  refine ⟨hnil, ?_⟩
  cases hs : x.stall with
  | none => rfl
  | some m => exact absurd hnil (h.stall.mpr (by rw [hs]; rfl))

theorem TrunkOk.cause_none {p : Port} {x : Supervisor} (h : TrunkOk p x) (hst : p.state ≠ .faulted) : x.faultCause = none := by
  cases hc : x.faultCause with
  | none => rfl
  | some c => exact absurd (h.cause.mpr (by rw [hc]; rfl)) hst

/-- A move of a trunk between two states other than FAULTED, with the resync timer that belongs to the new one. -/
theorem TrunkOk.moved {p : Port} {x : Supervisor} (h : TrunkOk p x) {st : TrunkState} {m : Option Timer}
    (hfrom : p.state ≠ .faulted) (hto : st ≠ .faulted) (hresync : st = .align ∨ st = .resync ↔ m.isSome = true)
    (hunpaced : st = .off ∨ st = .test → p.staged = none) (hstore : p.store ≠ [] → st = .running ∨ st = .resync) :
    TrunkOk { p with state := st } { x with resync := m } where
  port := h.port.withState hunpaced hstore
  sup := ⟨h.sup.frameCheck, h.sup.headError, h.sup.resend, h.sup.history, h.sup.run⟩
  cause := by
    rw [h.cause_none hfrom]
    simpa using hto
  resync := hresync
  stall := h.stall

/-- A move that leaves the resync timer as it is. -/
theorem TrunkOk.movedOnly {p : Port} {x : Supervisor} (h : TrunkOk p x) {st : TrunkState}
    (hfrom : p.state ∈ [TrunkState.off, .hunt, .down]) (hto : st ∈ [TrunkState.hunt, .test])
    (hunpaced : st = .test → p.staged = none) : TrunkOk { p with state := st } x := by
  simp only [List.mem_cons, List.not_mem_nil, or_false] at hfrom hto
  have hidle := h.idle (by rcases hfrom with hs | hs | hs <;> simp [hs])
  have hnone : x.resync.isSome = false := by
    rw [Bool.eq_false_iff]
    intro hsome
    have hst := h.resync.mpr hsome
    rcases hfrom with hs | hs | hs <;> simp [hs] at hst
  refine h.moved (m := x.resync) ?_ ?_ ?_ ?_ fun hne => absurd hidle.1 hne
  · rcases hfrom with hs | hs | hs <;> simp [hs]
  · rcases hto with rfl | rfl <;> decide
  · rw [hnone]
    rcases hto with rfl | rfl <;> simp
  · rcases hto with rfl | rfl
    · simp
    · exact fun _ => hunpaced rfl

theorem TrunkConfig.reset_ok : ConfigOk TrunkConfig.reset where
  peer _ h := by cases h
  k := by decide
  paced := ⟨by decide, by decide, by decide, by decide, by decide⟩
  alignDelay := by decide
  resync := by decide
  stall := by decide
  probe := by decide

theorem Port.reset_ok (line : List Frame) : PortOk { Port.reset with line := line } :=
  ⟨TrunkConfig.reset_ok, fun _ h => (by cases h), fun _ => rfl, fun h => absurd rfl h⟩

/-- A trunk as a reset leaves it, whose counters are in range. -/
theorem TrunkOk.atReset (line : List Frame) {k : Counters} (hframe : k.frameCheck ≤ 255) (hhead : k.headError ≤ 255)
    (hresend : k.resend ≤ 255) : TrunkOk { Port.reset with line := line } { Supervisor.reset with counters := k } where
  port := Port.reset_ok line
  sup := ⟨hframe, hhead, hresend, Nat.zero_le _, Nat.zero_le _⟩
  cause := by simp [Port.reset, Supervisor.reset]
  resync := by simp [Port.reset, Supervisor.reset]
  stall := by simp [Port.reset, Supervisor.reset]

theorem TrunkOk.kept : TrunkKept TrunkOk where
  same h p' hstate hconfig hstaged _ _ hstore :=
    { port := {
        config := hconfig ▸ h.port.config
        staged := by rw [hconfig, hstaged]; exact h.port.staged
        unpaced := by rw [hstate, hstaged]; exact h.port.unpaced
        store := by rw [hstate, Ne, hstore]; exact h.port.store }
      sup := h.sup
      cause := by rw [hstate]; exact h.cause
      resync := by rw [hstate]; exact h.resync
      stall := by rw [Ne, hstore]; exact h.stall }
  supSame h x' hcounters hhistory hrun hcause hresync hstall :=
    { port := h.port
      sup := ⟨hcounters ▸ h.sup.frameCheck, hcounters ▸ h.sup.headError, hcounters ▸ h.sup.resend, hhistory ▸ h.sup.history,
        hrun ▸ h.sup.run⟩
      cause := hcause ▸ h.cause
      resync := hresync ▸ h.resync
      stall := hstall ▸ h.stall }
  counters _ _ _ hk h := ⟨h.port, h.sup.counters hk, h.cause, h.resync, h.stall⟩
  closed _ _ sig h := ⟨h.port, Supervisor.closed_ok h.sup sig, h.cause, h.resync, h.stall⟩
  restarted p x now goal cause hgoal hcause h :=
    { port := {
        config := h.port.stagedInForce_config.1
        staged := h.port.stagedInForce.staged
        unpaced := fun _ => h.port.stagedInForce_config.2
        store := fun hne => absurd rfl hne }
      sup := ⟨h.sup.frameCheck, h.sup.headError, h.sup.resend, Nat.zero_le _, Nat.zero_le _⟩
      cause := hcause
      resync := by
        unfold TrunkState.restartGoal at hgoal
        simp only [List.mem_cons, List.not_mem_nil, or_false] at hgoal
        show goal = .align ∨ goal = .resync ↔ _
        rcases hgoal with rfl | rfl | rfl | rfl <;> simp [Supervisor.restarted]
      stall := ⟨fun hne => absurd rfl hne, fun hs => by cases hs⟩ }
  faultCause _ _ _ hst h :=
    { port := h.port
      sup := ⟨h.sup.frameCheck, h.sup.headError, h.sup.resend, h.sup.history, h.sup.run⟩
      cause := ⟨fun _ => rfl, fun _ => hst⟩
      resync := h.resync
      stall := h.stall }
  stagedInForce p x h :=
    { port := h.port.stagedInForce
      sup := h.sup
      cause := by rw [Port.stagedInForce_eq]; exact h.cause
      resync := by rw [Port.stagedInForce_eq]; exact h.resync
      stall := by rw [Port.stagedInForce_eq]; exact h.stall }
  configured p x q hr h :=
    have hstate : (p.configured q.clamped).state = p.state := by
      unfold Port.configured Port.stagedInForce
      split <;> rfl
    { port := h.port.configured hr
      sup := h.sup
      cause := by rw [hstate]; exact h.cause
      resync := by rw [hstate]; exact h.resync
      stall := by rw [Port.configured_store]; exact h.stall }
  enabled p x hst h := h.movedOnly (by simp [hst]) (by simp) (by simp)
  testing p x hst h := h.movedOnly (by simp [hst]) (by simp) fun _ => h.port.unpaced (.inl hst)
  aligned p x m hst h :=
    h.moved (by simp [hst]) (by decide) (by simp) (by simp) fun hne => absurd (h.idle (by simp [hst])).1 hne
  running p x hst h :=
    have h1 := h.moved (st := .running) (m := none) (by simp [hst]) (by decide) (by simp) (by simp) (by simp)
    ⟨⟨h1.port.config, h1.port.staged, h1.port.unpaced, h1.port.store⟩, h1.sup, h1.cause, h1.resync, h1.stall⟩
  resync p x m hst h := h.moved (by simp [hst]) (by decide) (by simp) (by simp) (by simp)
  regained p x hst h := h.moved (by simp [hst]) (by decide) (by simp) (by simp) (by simp)
  downToHunt p x hst h := h.movedOnly (by simp [hst]) (by simp) (by simp)
  store p x l m hup hlm h :=
    { port := ⟨h.port.config, h.port.staged, h.port.unpaced, fun _ => (TrunkState.up_iff _).mp hup⟩
      sup := ⟨h.sup.frameCheck, h.sup.headError, h.sup.resend, h.sup.history, h.sup.run⟩
      cause := h.cause
      resync := h.resync
      stall := hlm }
  held _ _ _ _ _ _ h := ⟨⟨h.port.config, h.port.staged, h.port.unpaced, h.port.store⟩, h.sup, h.cause, h.resync, h.stall⟩
  taken _ _ h := ⟨⟨h.port.config, h.port.staged, h.port.unpaced, h.port.store⟩, h.sup, h.cause, h.resync, h.stall⟩
  partRestarted p x h := TrunkOk.atReset p.line h.sup.frameCheck h.sup.headError h.sup.resend

theorem TrunkOk.reset : TrunkOk Port.reset Supervisor.reset :=
  TrunkOk.atReset [] (Nat.zero_le _) (Nat.zero_le _) (Nat.zero_le _)

/-- Settles O56: every change of a trunk keeps it legal, and every operation changes a trunk by these alone. -/
theorem trunksKept : Obligations.TrunksKept := fun _ _ hs ht =>
  TrunkOk.kept.step TrunkOk.reset hs ht

end Sys2Proof.Machine

/-! # The form of the journal and of the sparse tables -/

namespace Sys2Proof.Machine

/-! ## The entry list -/

theorem EntriesOk.filter {es : List JEntry} (h : EntriesOk es) (p : JEntry → Bool) : EntriesOk (es.filter p) where
  positions := h.positions.sublist ((List.filter_sublist).map _)
  pending e he := h.pending e (List.mem_filter.mp he).1

/-- Entries changed in place, each keeping its position and a pending slot. -/
theorem EntriesOk.map {es : List JEntry} (h : EntriesOk es) {g : JEntry → JEntry} (hindex : ∀ e, (g e).index = e.index)
    (hpending : ∀ e, e.noPending = false → (g e).noPending = false) : EntriesOk (es.map g) where
  positions := by
    have hcomp : (fun e : JEntry => e.index) ∘ g = fun e => e.index := funext hindex
    rw [List.map_map, hcomp]
    exact h.positions
  pending e he := by
    obtain ⟨x, hx, rfl⟩ := List.mem_map.mp he
    exact hpending x (h.pending x hx)

theorem EntriesOk.put {es : List JEntry} (h : EntriesOk es) {e : JEntry} (he : e.noPending = false) :
    EntriesOk (es.map fun x => if x.index = e.index then e else x) := by
  refine h.map (fun x => ?_) fun x hx => ?_
  · split
    · next hi => exact hi.symm
    · rfl
  · split
    · exact he
    · exact hx

theorem EntriesOk.append {es : List JEntry} (h : EntriesOk es) {e : JEntry} (hnew : e.index ∉ es.map (·.index))
    (he : e.noPending = false) : EntriesOk (es ++ [e]) where
  positions := by
    rw [List.map_append, List.map_singleton]
    exact List.nodup_append'.mpr ⟨h.positions, List.nodup_singleton _, by simpa using hnew⟩
  pending x hx := by
    rcases List.mem_append.mp hx with hx | hx
    · exact h.pending x hx
    · rw [List.mem_singleton.mp hx]
      exact he

/-- A slot pending for one trunk at least. -/
theorem JEntry.noPending_iff (e : JEntry) : e.noPending = false ↔ ∃ t, (e.peers.get t).isSome = true := by
  have hall : e.noPending = Trunk.all.all fun t => (e.peers.get t).isNone := rfl
  rw [hall, ← Bool.not_eq_true, List.all_eq_true]
  constructor
  · intro h
    by_contra hno
    refine h fun t _ => ?_
    by_contra hsome
    exact hno ⟨t, by simpa [Option.isSome_iff_ne_none] using hsome⟩
  · rintro ⟨t, ht⟩ h
    have hnone := h t (by cases t <;> simp [Trunk.all])
    rw [Option.isNone_iff_eq_none] at hnone
    rw [hnone] at ht
    cases ht

/-- A slot that takes a per-peer state leaves the pending set non-empty. -/
theorem JEntry.noPending_set (e : JEntry) (t : Trunk) (p : PeerState) :
    { e with peers := e.peers.set t (some p) }.noPending = false :=
  (JEntry.noPending_iff _).mpr ⟨t, by rw [Quad.get_set_self]; rfl⟩

/-- An entry queued for the targets of its bucket has a pending slot when the bucket has a target. -/
theorem JEntry.noPending_of_targets (e : JEntry) {q : Quad Bool}
    (he : e.peers = q.map fun x => if x then some .queued else none) (hq : q.toList.any id = true) : e.noPending = false := by
  rw [JEntry.noPending_iff, he]
  obtain ⟨b, hb, hset⟩ := List.any_eq_true.mp hq
  simp only [Quad.toList, List.mem_cons, List.not_mem_nil, or_false, id] at hb hset
  rcases hb with rfl | rfl | rfl | rfl
  · exact ⟨.t0, by simp [Quad.map, Quad.get, hset]⟩
  · exact ⟨.t1, by simp [Quad.map, Quad.get, hset]⟩
  · exact ⟨.t2, by simp [Quad.map, Quad.get, hset]⟩
  · exact ⟨.t3, by simp [Quad.map, Quad.get, hset]⟩

theorem JEntry.requeue_index (t : Trunk) (e : JEntry) : (e.requeue t).index = e.index := by
  unfold JEntry.requeue
  split <;> rfl

theorem JEntry.requeue_pending (t : Trunk) {e : JEntry} (h : e.noPending = false) : (e.requeue t).noPending = false := by
  unfold JEntry.requeue
  split
  · exact h
  · exact e.noPending_set t _

/-! ## The lowest free number -/

/-- No list uses all of one number more than it has places. -/
theorem lowestFree_spec (lo : Nat) (used : List Nat) : lowestFree lo used ∉ used := by
  unfold lowestFree
  cases hfind : ((List.range (used.length + 1)).map (lo + ·)).find? (fun n => !used.contains n) with
  | some n =>
    have hn := List.find?_some hfind
    simpa using hn
  | none =>
    exfalso
    have hall : ∀ n ∈ (List.range (used.length + 1)).map (lo + ·), n ∈ used := by
      intro n hn
      simpa using List.find?_eq_none.mp hfind n hn
    have hnodup : ((List.range (used.length + 1)).map (lo + ·)).Nodup :=
      List.nodup_range.map fun _ _ h => Nat.add_left_cancel h
    have hlen := (hnodup.subperm hall).length_le
    simp at hlen

/-! ## The journal and the tables -/

/-- The form of the journal, of the bucket table and of the inbound records. -/
structure JournalForm (s : State) : Prop where
  entries : EntriesOk s.journal.entries
  gens : Table.wf 0 s.journal.gens = true
  buckets : Table.wf .reset s.buckets = true
  records : Table.wf .reset s.apply.records = true

section
variable {s u : State}

theorem JournalForm.of_eq (h : JournalForm s) (hj : u.journal = s.journal) (hb : u.buckets = s.buckets)
    (hr : u.apply.records = s.apply.records) : JournalForm u :=
  ⟨hj ▸ h.entries, hj ▸ h.gens, hb ▸ h.buckets, hr ▸ h.records⟩

theorem JournalForm.setEntries (h : JournalForm s) {es : List JEntry} (he : EntriesOk es) : JournalForm (s.setEntries es) :=
  ⟨he, h.gens, h.buckets, h.records⟩

theorem JournalForm.putEntry (h : JournalForm s) {e : JEntry} (he : e.noPending = false) : JournalForm (s.putEntry e) :=
  ⟨h.entries.put he, h.gens, h.buckets, h.records⟩

theorem JournalForm.setBucket (h : JournalForm s) (b : Nat) (r : Bucket) : JournalForm (s.setBucket b r) :=
  ⟨h.entries, h.gens, Table.wf_set _ _ _ _ h.buckets, h.records⟩

theorem JournalForm.setInRec (h : JournalForm s) (k : Nat) (r : InRec) : JournalForm (s.setInRec k r) :=
  ⟨h.entries, h.gens, h.buckets, Table.wf_set _ _ _ _ h.records⟩

theorem JournalForm.bumpGen (h : JournalForm s) (i g : Nat) : JournalForm (s.bumpGen i g) :=
  ⟨h.entries, Table.wf_set _ _ _ _ h.gens, h.buckets, h.records⟩

theorem JournalForm.refillRefresh (h : JournalForm s) : JournalForm s.refillRefresh :=
  ⟨h.entries, h.gens, h.buckets, h.records⟩

theorem JournalForm.setPort (h : JournalForm s) (t : Trunk) (p : Port) : JournalForm (s.setPort t p) :=
  ⟨h.entries, h.gens, h.buckets, h.records⟩

theorem JournalForm.mapInRecs (h : JournalForm s) (t : Trunk) (g : InRec → InRec) : JournalForm (s.mapInRecs t g) :=
  ⟨h.entries, h.gens, h.buckets, Table.wf_mapOn _ _ _ _ h.records⟩

theorem JournalForm.leaveList (h : JournalForm s) (gone : Nat → Bool) : JournalForm (s.leaveList gone) :=
  ⟨h.entries, h.gens, h.buckets, h.records⟩

theorem JournalForm.setStats (h : JournalForm s) (x : PartStats) : JournalForm (s.setStats x) :=
  ⟨h.entries, h.gens, h.buckets, h.records⟩

/-! ## Slots, removal and conversion -/

theorem JournalForm.releaseSlots (h : JournalForm s) {e : JEntry} (he : e.noPending = false) :
    JournalForm (s.releaseSlots e) := by
  unfold State.releaseSlots
  split
  · exact h
  · exact (h.putEntry (e := { e with fill := none }) he).of_eq rfl rfl rfl

theorem JournalForm.reserveSlots (h : JournalForm s) {e : JEntry} (he : e.noPending = false) :
    JournalForm (s.reserveSlots e) := by
  unfold State.reserveSlots
  split
  · exact h
  · refine (h.putEntry (e := { e with fill := some ⟨slotsFor e.change.length, [], photoStart⟩ }) he).of_eq ?_ ?_ ?_
    · simp
    · simp
    · simp

theorem JournalForm.drainTest (h : JournalForm s) (b : Nat) : JournalForm (s.drainTest b) :=
  ite_keeps h (h.setBucket _ _)

theorem JournalForm.takeOut (h : JournalForm s) (e : JEntry) : JournalForm (s.takeOut e) := by
  rw [State.takeOut_eq]
  exact ⟨h.entries.filter _, h.gens, h.buckets, h.records⟩

theorem JournalForm.removeEntry (h : JournalForm s) (e : JEntry) : JournalForm (s.removeEntry e) :=
  (h.takeOut e).drainTest _

theorem JournalForm.convertVoid (h : JournalForm s) {e : JEntry} (he : e.noPending = false) :
    JournalForm (s.convertVoid e) :=
  ((h.releaseSlots he).putEntry (by exact he)).setStats _

theorem JournalForm.loseEntry (h : JournalForm s) (e : JEntry) : JournalForm (s.loseEntry e) := (h.removeEntry e).setStats _

theorem State.foldTake_journal (l : List JEntry) : ∀ s : State, (l.foldl State.takeOut s).journal = { s.journal with
    entries := s.journal.entries.filter fun y => !l.any fun e => e.index == y.index } := by
  induction l with
  | nil => exact fun s => by simp
  | cons e l ih =>
    intro s
    rw [List.foldl_cons, ih, State.takeOut_eq]
    simp only [List.filter_filter, List.any_cons, Bool.not_or]
    congr 2
    funext y
    rw [Bool.and_comm]
    congr 1
    exact congrArg (! ·) (Bool.beq_comm)

theorem State.foldTake_rest (l : List JEntry) : ∀ s : State, (l.foldl State.takeOut s).buckets = s.buckets
    ∧ (l.foldl State.takeOut s).apply = s.apply := by
  induction l with
  | nil => exact fun _ => ⟨rfl, rfl⟩
  | cons e l ih =>
    intro s
    obtain ⟨hb, ha⟩ := ih (s.takeOut e)
    rw [State.takeOut_eq] at hb ha
    exact ⟨by rw [List.foldl_cons, State.takeOut_eq]; exact hb, by rw [List.foldl_cons, State.takeOut_eq]; exact ha⟩

theorem State.foldRemove_journal (l : List JEntry) : ∀ s : State, (l.foldl State.removeEntry s).journal = { s.journal with
    entries := s.journal.entries.filter fun y => !l.any fun e => e.index == y.index } := by
  induction l with
  | nil => exact fun s => by simp
  | cons e l ih =>
    intro s
    rw [List.foldl_cons, ih, State.removeEntry_eq]
    simp only [List.filter_filter, List.any_cons, Bool.not_or]
    congr 2
    funext y
    rw [Bool.and_comm]
    congr 1
    exact congrArg (! ·) (Bool.beq_comm)

/-- Entries of which those with an empty pending set are taken out by their positions. -/
theorem EntriesOk.withoutEmptied {es : List JEntry} {l : List JEntry} (hpositions : (es.map (·.index)).Nodup)
    (hl : ∀ e ∈ es, e.noPending = true → ∃ x ∈ l, x.index = e.index) :
    EntriesOk (es.filter fun y => !l.any fun e => e.index == y.index) where
  positions := hpositions.sublist ((List.filter_sublist).map _)
  pending e he := by
    obtain ⟨hmem, hkeep⟩ := List.mem_filter.mp he
    by_contra hempty
    obtain ⟨x, hx, hi⟩ := hl e hmem (by simpa using hempty)
    have hany : (l.any fun x => x.index == e.index) = true := List.any_eq_true.mpr ⟨x, hx, by simpa using hi⟩
    rw [hany] at hkeep
    cases hkeep

theorem JEntry.map_index {es : List JEntry} {g : JEntry → JEntry} (hindex : ∀ e, (g e).index = e.index) :
    (es.map g).map (·.index) = es.map (·.index) := by
  rw [List.map_map]
  exact congrArg (es.map ·) (funext hindex)

/-! ## The buckets -/

/-- The form without the pending sets, while a target change is under way. -/
structure TargetsForm (s : State) : Prop where
  positions : (s.journal.entries.map (·.index)).Nodup
  gens : Table.wf 0 s.journal.gens = true
  buckets : Table.wf .reset s.buckets = true
  records : Table.wf .reset s.apply.records = true

theorem JournalForm.targets (h : JournalForm s) : TargetsForm s := ⟨h.entries.positions, h.gens, h.buckets, h.records⟩

theorem TargetsForm.mapEntries (h : TargetsForm s) {g : JEntry → JEntry} (hindex : ∀ e, (g e).index = e.index) :
    TargetsForm (s.setEntries (s.journal.entries.map g)) :=
  ⟨(JEntry.map_index hindex).symm ▸ h.positions, h.gens, h.buckets, h.records⟩

theorem TargetsForm.setBucket (h : TargetsForm s) (b : Nat) (r : Bucket) : TargetsForm (s.setBucket b r) :=
  ⟨h.positions, h.gens, Table.wf_set _ _ _ _ h.buckets, h.records⟩

theorem TargetsForm.dropSlotFrom (h : TargetsForm s) (t : Trunk) (g : Nat → Bool) : TargetsForm (s.dropSlotFrom t g) :=
  h.mapEntries fun e => by split <;> rfl

theorem TargetsForm.addTarget (h : TargetsForm s) (b : Nat) (t : Trunk) : TargetsForm (State.addTarget b s t) := by
  unfold State.addTarget
  exact (h.setBucket _ _).mapEntries fun e => by split <;> rfl

theorem TargetsForm.removeTarget (h : TargetsForm s) (b : Nat) (t : Trunk) : TargetsForm (State.removeTarget b s t) := by
  unfold State.removeTarget
  exact (h.setBucket _ _).dropSlotFrom _ _

theorem State.emptied_covers (s : State) : ∀ e ∈ s.journal.entries, e.noPending = true → ∃ x ∈ s.emptied, x.index = e.index :=
  fun e he hempty => ⟨e, List.mem_filter.mpr ⟨he, hempty⟩, rfl⟩

theorem TargetsForm.takeEmptied (h : TargetsForm s) : JournalForm (s.emptied.foldl State.takeOut s) where
  entries := by
    rw [State.foldTake_journal]
    exact EntriesOk.withoutEmptied h.positions s.emptied_covers
  gens := by rw [State.foldTake_journal]; exact h.gens
  buckets := by rw [(State.foldTake_rest _ s).1]; exact h.buckets
  records := by rw [(State.foldTake_rest _ s).2]; exact h.records

theorem foldl_keeps {P : State → Prop} {β : Type} {op : State → β → State} (hop : ∀ s b, P s → P (op s b)) (bs : List β) :
    ∀ s : State, P s → P (bs.foldl op s) := by
  induction bs with
  | nil => exact fun _ h => h
  | cons b bs ih => exact fun s h => ih _ (hop s b h)

theorem JournalForm.retarget (h : JournalForm s) (b : Nat) (targets : Quad Bool) : JournalForm (s.retarget b targets) := by
  unfold State.retarget
  dsimp only
  refine TargetsForm.takeEmptied ?_
  exact foldl_keeps (fun s t h => h.removeTarget b t) _ _ (foldl_keeps (fun s t h => h.addTarget b t) _ _ h.targets)

theorem JournalForm.setUpBucket (h : JournalForm s) (b : Nat) (state : BucketState) (targets : Quad Bool) (band : Band) :
    JournalForm (s.setUpBucket b state targets band) := by
  unfold State.setUpBucket
  dsimp only
  split
  · exact h.setBucket _ _
  · exact ((((h.setBucket _ _).retarget b targets).setBucket _ _).drainTest b).refillRefresh

/-- A fold of removals of entries that cover those without a pending slot. -/
theorem TargetsForm.removeAll (h : TargetsForm s) {l : List JEntry}
    (hl : ∀ e ∈ s.journal.entries, e.noPending = true → ∃ x ∈ l, x.index = e.index) :
    JournalForm (l.foldl State.removeEntry s) where
  entries := by
    rw [State.foldRemove_journal]
    exact EntriesOk.withoutEmptied h.positions hl
  gens := by rw [State.foldRemove_journal]; exact h.gens
  buckets := by
    refine foldl_keeps (P := fun s => Table.wf .reset s.buckets = true) (fun s e h => ?_) l s h.buckets
    unfold State.removeEntry State.drainTest
    dsimp only
    split
    · exact Table.wf_set _ _ _ _ (by rw [State.takeOut_eq]; exact h)
    · rw [State.takeOut_eq]
      exact h
  records := by
    refine foldl_keeps (P := fun s => Table.wf .reset s.apply.records = true) (fun s e h => ?_) l s h.records
    rw [State.removeEntry_eq]
    exact h

theorem JournalForm.peerChangeInbound (h : JournalForm s) (t : Trunk) : JournalForm (s.peerChangeInbound t) := by
  have hrecords : (s.peerChangeInbound t).apply.records = s.apply.records.filter fun e => !keyOf t e.1 := by
    unfold State.peerChangeInbound
    dsimp only
    rw [State.returnSlots_apply_records, State.discardAll_eq]
    rfl
  refine ⟨?_, ?_, ?_, ?_⟩
  · rw [State.peerChangeInbound_journal]
    exact h.entries
  · rw [State.peerChangeInbound_journal]
    exact h.gens
  · rw [State.peerChangeInbound_buckets]
    exact h.buckets
  · rw [hrecords]
    exact Table.wf_filter _ _ _ h.records

theorem JournalForm.drainAll (h : JournalForm s) : JournalForm s.drainAll :=
  foldl_keeps (P := JournalForm) (op := State.drainTest) (fun _ b hs => hs.drainTest b) _ _ h

theorem JournalForm.peerChange (h : JournalForm s) (t : Trunk) : JournalForm (s.peerChange t) := by
  unfold State.peerChange
  dsimp only
  have h1 : TargetsForm (s.setBuckets (s.buckets.mapOn .reset (fun _ => true) (Bucket.dropTarget t))) :=
    ⟨h.entries.positions, h.gens, Table.wf_mapOn .reset (fun _ => true) (Bucket.dropTarget t) s.buckets h.buckets, h.records⟩
  refine JournalForm.refillRefresh (JournalForm.setPort ?_ t _)
  refine JournalForm.peerChangeInbound (JournalForm.drainAll ?_) t
  exact TargetsForm.removeAll (h1.dropSlotFrom t fun _ => true) (State.emptied_covers _)

/-! ## SUBMIT -/

theorem State.entryAt_mem {h : Handle} {e : JEntry} (he : s.entryAt h = some e) : e ∈ s.journal.entries :=
  List.mem_of_find?_eq_some he

theorem State.unsealedOf_mem {b : Nat} {d : Digest} {e : JEntry} (he : s.unsealedOf b d = some e) :
    e ∈ s.journal.entries := by
  unfold State.unsealedOf at he
  obtain ⟨r, -, hr⟩ := Option.bind_eq_some_iff.mp he
  obtain ⟨n, -, hn⟩ := Option.bind_eq_some_iff.mp hr
  exact State.entryAt_mem hn

theorem JournalForm.submitOutcome (h : JournalForm s) (q : SubmitReq) (x : Stamp) :
    JournalForm (s.submitOutcome q x).state := by
  unfold State.submitOutcome
  split
  · next e he =>
    have hpending := h.entries.pending e (State.unsealedOf_mem he)
    split
    · exact (h.putEntry (by exact hpending)).setStats _
    · unfold State.supersede
      refine JournalForm.setStats (JournalForm.refillRefresh (JournalForm.reserveSlots ?_ (by exact hpending))) _
      exact (((h.releaseSlots hpending).bumpGen _ _).putEntry (by exact hpending)).of_eq rfl rfl rfl
  · split
    · next ht =>
      have hpending : ∀ e : JEntry, e.peers = ((s.bucket q.bucket).targets.map fun x => if x then some .queued else none) →
          e.noPending = false := fun e he => e.noPending_of_targets he ht
      unfold State.append
      refine JournalForm.reserveSlots ?_ (hpending _ rfl)
      have h1 := h.bumpGen s.freePosition (nextGen (s.journal.gens.get 0 s.freePosition))
      refine JournalForm.of_eq (s := State.setEntries _ _) (h1.setEntries (h1.entries.append ?_ (hpending _ rfl))) rfl rfl rfl
      exact lowestFree_spec _ _
    · exact h

theorem JournalForm.submitAnswer (h : JournalForm s) (b : List Byte) : JournalForm (answerSubmit b s).state := by
  unfold answerSubmit
  dsimp only
  split
  · exact h.of_eq (by simp) (by simp) (by simp)
  · split
    · exact h
    · next x u hi =>
      obtain ⟨c, y, rfl⟩ := State.issue_frame hi
      have h1 : JournalForm (((s.setClock c).setSli y).stampObject (parseSubmit b) x) := h.of_eq (by simp) (by simp) (by simp)
      exact (h1.submitOutcome _ x).setStats _

/-! ## Restarts -/

theorem JournalForm.discardAll (h : JournalForm s) (l : List InEntry) : JournalForm (s.discardAll l) := by
  rw [State.discardAll_eq]
  exact ⟨h.entries, h.gens, h.buckets, h.records⟩

theorem JournalForm.discardInbound (h : JournalForm s) (e : InEntry) : JournalForm (s.discardInbound e) := by
  rw [State.discardInbound_eq]
  exact ⟨h.entries, h.gens, h.buckets, h.records⟩

theorem JournalForm.trunkRestart (h : JournalForm s) (t : Trunk) (g : TrunkState) (c : Option Signature) :
    JournalForm (s.trunkRestart t g c) := by
  unfold State.trunkRestart State.restartInbound
  have h1 : EntriesOk ((s.framesLeave (s.port t).store).journal.entries.map (JEntry.requeue t)) := by
    refine EntriesOk.map ?_ (JEntry.requeue_index t) fun _ => JEntry.requeue_pending t
    exact h.entries.map (fun _ => rfl) fun _ hp => hp
  have h2 : JournalForm ((s.framesLeave (s.port t).store).setEntries
      ((s.framesLeave (s.port t).store).journal.entries.map (JEntry.requeue t))) := ⟨h1, h.gens, h.buckets, h.records⟩
  refine JournalForm.refillRefresh (JournalForm.mapInRecs (JournalForm.discardAll ?_ _) t _)
  exact h2.of_eq rfl rfl rfl

theorem JournalForm.moveDown (h : JournalForm s) (t : Trunk) : JournalForm (s.moveDown t) :=
  (h.trunkRestart t _ _).of_eq rfl rfl rfl

theorem JournalForm.moveFaulted (h : JournalForm s) (t : Trunk) (c : Signature) : JournalForm (s.moveFaulted t c) :=
  (h.trunkRestart t _ _).of_eq rfl rfl rfl

theorem JournalForm.protocolRestart (h : JournalForm s) (t : Trunk) : JournalForm (s.protocolRestart t) := by
  unfold State.protocolRestart
  refine JournalForm.trunkRestart ?_ t _ _
  exact h.of_eq rfl rfl rfl

theorem JournalForm.takeRequest (h : JournalForm s) (t : Trunk) : JournalForm (s.takeRequest t) := by
  unfold State.takeRequest
  split
  · exact h
  · next sig rest _ =>
    have h1 : JournalForm (s.setSup t { s.sup t with requests := rest }) := h.of_eq rfl rfl rfl
    unfold State.consequence
    dsimp only
    split
    · exact ite_keeps h1 (h1.moveDown t)
    · split
      · exact h1.moveFaulted t _
      · exact ite_keeps h1 (h1.of_eq rfl rfl rfl)
    · split
      · exact h1.moveFaulted t _
      · exact ite_keeps h1 (h1.of_eq rfl rfl rfl)
    · exact h1

theorem JournalForm.incarnationInbound (h : JournalForm s) (t : Trunk) : JournalForm (s.incarnationInbound t) := by
  unfold State.incarnationInbound
  exact JournalForm.leaveList (JournalForm.mapInRecs (h.discardAll _) t _) _

theorem JournalForm.incarnationCheck (h : JournalForm s) (t : Trunk) (i : Stamp) : JournalForm (s.incarnationCheck t i).1 := by
  unfold State.incarnationCheck
  split
  · exact h.of_eq rfl rfl rfl
  · split
    · exact h
    · have h1 : JournalForm ((s.incarnationInbound t).setPort t { (s.incarnationInbound t).port t with recorded := some i }) :=
        (h.incarnationInbound t).of_eq rfl rfl rfl
      dsimp only
      split
      · exact h1.protocolRestart t
      · exact h1

/-! ## Sending -/

theorem State.sendable_mem {b : Nat} {t : Trunk} {e : JEntry} (he : s.sendable b t = some e) : e ∈ s.journal.entries := by
  unfold State.sendable at he
  split at he
  · cases he
  · next x hx =>
    obtain ⟨-, hxe⟩ := Option.ite_none_right_eq_some.mp he
    cases hxe
    unfold State.cursor State.entriesOf at hx
    exact (List.mem_filter.mp (List.mem_of_find?_eq_some hx)).1

/-- A take leaves the form, and the entry it answers has a pending slot (R24, R25). -/
theorem JournalForm.takePiece (h : JournalForm s) (t : Trunk) {e : JEntry} (he : e.noPending = false) :
    JournalForm (s.takePiece t e).2.2 ∧ (s.takePiece t e).2.1.noPending = false := by
  unfold State.takePiece
  split
  · exact ⟨h.putEntry (e.noPending_set t _), e.noPending_set t _⟩
  · dsimp only
    have h1 : JournalForm (s.seal e) := ((h.setBucket _ _).putEntry (by exact he)).of_eq rfl rfl rfl
    have hafter : ((s.sealedEntry e).afterNotice t).noPending = false := (s.sealedEntry e).noPending_set t _
    refine ⟨?_, hafter⟩
    split
    · exact (h1.putEntry hafter).of_eq rfl rfl rfl
    · exact (h.putEntry hafter).of_eq rfl rfl rfl

theorem JournalForm.fillSlot (h : JournalForm s) (t : Trunk) : JournalForm (s.fillSlot t) :=
  h.of_eq (by simp) (by simp) (by simp)

theorem JournalForm.sendPiece (h : JournalForm s) (t : Trunk) (m : Nat) (b : List Byte) {e : JEntry} (he : e.noPending = false) :
    JournalForm (s.sendPiece t m b e) := by
  have h1 := h.putEntry (e := { e with framesOut := e.framesOut + 1 }) he
  unfold State.sendPiece
  dsimp only
  split
  · exact h1.of_eq rfl rfl rfl
  · exact h1.of_eq rfl rfl rfl

theorem JournalForm.dataSlot (h : JournalForm s) (t : Trunk) (c : Band) (m : Nat) : JournalForm (s.dataSlot t c m) := by
  unfold State.dataSlot
  dsimp only
  split
  · exact h.of_eq rfl rfl rfl
  · split
    · split
      · exact h.fillSlot t
      · next c b _ =>
        split
        · exact h.fillSlot t
        · next e he =>
          have hpending := h.entries.pending e (State.sendable_mem he)
          split
          · exact (h.fillSlot t).protocolRestart t
          · have h1 : JournalForm (s.setPort t ((s.port t).served c b)) := h.of_eq rfl rfl rfl
            obtain ⟨h2, he2⟩ := h1.takePiece t hpending
            exact (h2.sendPiece t m _ he2).refillRefresh
    · exact ite_keeps (h.fillSlot t) ((h.fillSlot t).of_eq rfl rfl rfl)

theorem JournalForm.entryAck (h : JournalForm s) (t : Trunk) (a : EntryAck) : JournalForm (State.entryAck t s a) := by
  unfold State.entryAck
  split
  · exact h.setStats _
  · unfold State.acceptAck
    dsimp only
    split
    · exact h
    · refine JournalForm.refillRefresh (TargetsForm.removeAll ?_ ?_)
      · refine TargetsForm.mapEntries (TargetsForm.setBucket ?_ _ _) fun e => ?_
        · exact ⟨h.entries.positions, h.gens, h.buckets, h.records⟩
        · split <;> rfl
      · intro e he hempty
        obtain ⟨x, hx, rfl⟩ := List.mem_map.mp he
        have hx' : x ∈ s.journal.entries := hx
        split at hempty
        · next hc =>
          refine ⟨x.dropSlot t, List.mem_filter.mpr ⟨List.mem_map_of_mem (List.mem_filter.mpr ⟨hx', hc⟩), hempty⟩, ?_⟩
          rw [if_pos hc]
        · rw [h.entries.pending x hx'] at hempty
          cases hempty

theorem JournalForm.serviceStore (h : JournalForm s) (t : Trunk) (f : ServiceFrame) : JournalForm (s.serviceStore t f) := by
  have hmap : ∀ (u : State) (gone : List SentFrame), JournalForm u → JournalForm (u.framesLeave gone) := fun u gone hu =>
    hu.setEntries (hu.entries.map (fun _ => rfl) fun _ hp => hp)
  have hcount : ∀ (p : Port) (n : Nat), JournalForm ((s.setPort t p).countEvents t .resend n) := fun p n =>
    h.of_eq (by simp) (by simp) (by simp)
  rw [State.serviceStore_eq]
  split
  · exact (hmap _ _ (hcount _ _)).of_eq rfl rfl rfl
  · split
    · exact (hmap _ _ (hcount _ _)).of_eq rfl rfl rfl
    · exact hmap _ _ (hcount _ _)

/-! ## The Apply Unit -/

theorem JournalForm.forwardTest (h : JournalForm s) (k : Nat) : JournalForm (s.forwardTest k) :=
  h.of_eq (by simp) (by simp) (by simp)

theorem JournalForm.completeEntry (h : JournalForm s) (k : Nat) (e : InEntry) : JournalForm (s.completeEntry k e).state := by
  unfold State.completeEntry
  dsimp only
  split
  · exact (h.setInRec _ _).forwardTest k
  · exact (h.setInRec _ _).discardInbound e

theorem JournalForm.acceptNotice (h : JournalForm s) (k : Nat) (n : Notice) : JournalForm (s.acceptNotice k n).state := by
  unfold State.acceptNotice
  split
  · have h1 : JournalForm (((s.takeRoom n).merge n.stamp).pinForNotice n.bucket n.digest).2 :=
      h.of_eq (by simp) (by simp) (by simp [State.takeRoom])
    dsimp only
    split
    · exact h1.setInRec _ _
    · exact (h1.setInRec _ _).completeEntry _ _
  · exact h

theorem JournalForm.dispatch (h : JournalForm s) (t : Trunk) (b : List Byte) : JournalForm (s.dispatch t b).state := by
  have hdup : JournalForm (s.countDuplicate t) := h.of_eq rfl rfl rfl
  unfold State.dispatch
  split
  · next n _ =>
    have h1 : JournalForm (s.adopt (recKey t n.bucket) n) := (h.discardAll _).setInRec _ _
    unfold State.dispatchNotice
    dsimp only
    repeat' split
    all_goals first
      | exact h
      | exact h1.acceptNotice _ _
      | exact h.acceptNotice _ _
      | exact hdup.setInRec _ _
  · unfold State.dispatchSegment
    dsimp only
    repeat' split
    all_goals first
      | exact h
      | exact h.setInRec _ _
      | exact h.completeEntry _ _
      | exact hdup.setInRec _ _
  · exact h

theorem JournalForm.finishHead (h : JournalForm s) (k : Nat) (e : InEntry) : JournalForm (s.finishHead k e) := by
  unfold State.finishHead
  refine JournalForm.forwardTest ?_ k
  exact ((h.setInRec _ _).discardInbound e).of_eq rfl rfl rfl

theorem JournalForm.forward (h : JournalForm s) (t : Trunk) (b : Nat) : JournalForm (s.forward t b) := by
  have hsend : ∀ e unchecked, JournalForm (s.sendApply t b e unchecked) := by
    intro e unchecked
    have h1 : JournalForm ((s.adoptStamp e).setApply ((s.adoptStamp e).apply.takeSlot s.apply.nextTag t b)) :=
      h.of_eq (by simp) (by simp) (by simp [ApplyUnit.takeSlot])
    exact (h1.setInRec _ _).of_eq rfl rfl rfl
  unfold State.forward
  dsimp only
  split
  · split
    · exact h.finishHead _ _
    · split
      · unfold State.forwardEntry
        split
        · refine JournalForm.finishHead (JournalForm.setStats ?_ _) _ _
          exact h.of_eq (by simp) (by simp) (by simp)
        · exact hsend _ _
        · exact hsend _ _
      · exact h.forwardTest _
  · exact h

theorem JournalForm.applyAnswer (h : JournalForm s) (n : Nat) (ok : Bool) : JournalForm (s.applyAnswer n ok) := by
  have h1 : JournalForm (s.freeSlot n) := h.of_eq (by simp) (by simp) (by simp)
  unfold State.applyAnswer
  split
  · exact h
  · dsimp only
    split
    · exact h1.discardInbound _
    · unfold State.headAnswer
      dsimp only
      split
      · exact (h1.setInRec _ _).finishHead _ _
      · exact h1.setInRec _ _
      · exact (h1.setInRec _ _).of_eq rfl rfl rfl

/-! ## The Body Store -/

theorem JournalForm.fillFailed (h : JournalForm s) {e : JEntry} (he : e.noPending = false) : JournalForm (s.fillFailed e) := by
  unfold State.fillFailed
  split
  · exact h.removeEntry e
  · split
    · exact h.loseEntry e
    · exact h.convertVoid he

theorem JournalForm.bodyAnswer (h : JournalForm s) (n : Nat) (ok : Bool) : JournalForm (s.bodyAnswer n ok) := by
  unfold State.bodyAnswer
  split
  · exact h
  · have h1 : JournalForm (s.setBody { s.body with refillTable := s.body.refillTable.filter (fun x => x.1 != n) }) :=
      h.of_eq rfl rfl rfl
    dsimp only
    split
    · exact h1
    · split
      · exact h1
      · next e he =>
        have hmem : e ∈ s.journal.entries := State.entryAt_mem (Option.filter_eq_some_iff.mp he).1
        exact (ite_keeps (h1.convertVoid (h.entries.pending e hmem)) (h1.loseEntry e)).refillRefresh

theorem State.entryOf_mem {i : Nat} {e : JEntry} (he : s.entryOf i = some e) : e ∈ s.journal.entries :=
  List.mem_of_find?_eq_some he

theorem JournalForm.refillHead (h : JournalForm s) : JournalForm s.refillHead := by
  unfold State.refillHead
  split
  · exact h
  · split
    · exact h
    · next e he =>
      have hpending := h.entries.pending e (State.entryOf_mem he)
      split
      · unfold State.wantBody
        refine JournalForm.refillRefresh ?_
        exact ((h.putEntry (by exact hpending)).reserveSlots (by exact hpending)).of_eq rfl rfl rfl
      · exact h

theorem State.parkCandidate_mem {e : JEntry} (he : s.parkCandidate = some e) : e ∈ s.journal.entries := by
  unfold State.parkCandidate at he
  obtain ⟨i, -, hi⟩ := List.exists_of_findSome?_eq_some he
  exact State.entryOf_mem (Option.filter_eq_some_iff.mp hi).1

theorem JournalForm.parkNext (h : JournalForm s) : JournalForm s.parkNext := by
  unfold State.parkNext
  split
  · split
    · exact h
    · next e he =>
      have hpending := h.entries.pending e (State.parkCandidate_mem he)
      exact ((h.releaseSlots hpending).putEntry (by exact hpending)).setStats _
  · exact h

end

/-! ## Every command -/

theorem JournalForm.empty {s : State} (hj : s.journal = .reset) (hb : s.buckets = []) (ha : s.apply.records = []) :
    JournalForm s := by
  refine ⟨?_, ?_, ?_, ?_⟩
  · rw [hj]
    exact ⟨List.nodup_nil, fun _ he => by cases he⟩
  · rw [hj]
    rfl
  · rw [hb]
    rfl
  · rw [ha]
    rfl

theorem JournalForm.kept : Kept JournalForm where
  toLinkKept := LinkKept.of_setSli fun _ _ h => h.of_eq rfl rfl rfl
  setClock _ _ h := h.of_eq rfl rfl rfl
  setSite b s h := by
    unfold answerSetSite
    dsimp only
    split
    · exact h
    · split
      · exact h
      · next hi =>
        obtain ⟨c, y, rfl⟩ := State.issue_frame hi
        exact h.of_eq rfl rfl rfl
  bucketSet b _ h := answerBucketSet_keeps h (fun _ _ _ _ => h.setUpBucket _ _ _ _) b
  submit b _ h := h.submitAnswer b
  chunk b _ h := answerChunk_keeps h (fun e _ _ _ he => h.putEntry (h.entries.pending e he))
    (fun e he => (h.fillFailed (h.entries.pending e he)).refillRefresh) b
  trunkSet b s h := answerTrunkSet_keeps h b fun t _ => by
    have h1 : JournalForm ((s.setPort t ((s.port t).configured (parseConfig b).clamped)).policyChange t
        (s.port t).config.identifyPolicy (parseConfig b).clamped.identify) := h.of_eq (by simp) (by simp) (by simp)
    exact ite_keeps h1 (h1.peerChange t)
  trunkEnable _ _ h := forTrunk_keeps _ _ h fun t => by
    split
    · exact h
    · exact h.of_eq rfl rfl rfl
  trunkDisable _ _ h := forTrunk_keeps _ _ h fun t => by
    dsimp only
    split
    · exact h
    · exact h.trunkRestart t _ _
  trunkTest _ _ h := forTrunk_keeps _ _ h fun t => by
    split
    · split
      · exact h
      · exact h.of_eq rfl rfl rfl
    · exact h
  trunkRestart _ _ h := forTrunk_keeps _ _ h fun t => by
    dsimp only
    split
    · exact h.trunkRestart t _ _
    · exact h
  trunkClear _ _ h := forTrunk_keeps _ _ h fun t => by
    split
    · exact h
    · split
      · exact (h.trunkRestart t _ _).of_eq rfl rfl rfl
      · exact h
  counterWrite _ _ h := forTrunk_keeps _ _ h fun t => by
    dsimp only
    split
    · exact h
    · exact h.of_eq rfl rfl rfl
  applyResume b s h := by
    unfold answerApplyResume
    dsimp only
    split
    · exact ite_keeps h ((h.setInRec _ _).forwardTest _)
    · exact h
  restart b s h := by
    unfold answerRestart
    split
    · exact JournalForm.empty rfl rfl rfl
    · exact h
  applyAnswer _ n ok h := h.applyAnswer n ok
  bodyAnswer _ n ok h := h.bodyAnswer n ok
  advanceTo _ _ h := h.of_eq rfl rfl rfl
  beginCycle _ _ h := h.of_eq rfl rfl rfl
  stagedStart _ _ h := h.of_eq (by simp) (by simp) (by simp)
  closePeriod _ _ h := h.of_eq (by simp) (by simp) (by simp)
  countCycle _ _ h := h.of_eq (by simp) (by simp) (by simp)
  takeRequest _ t h := h.takeRequest t
  sendTest _ _ h := h.of_eq rfl rfl rfl
  positionDone _ _ h := h.of_eq rfl rfl rfl
  emit _ _ _ h := h.of_eq rfl rfl rfl
  sendAlign _ _ _ h := h.of_eq (by simp) (by simp) (by simp)
  sendService s t h := by
    have h1 : ∀ bs, JournalForm (s.clearOwed t bs) := fun bs =>
      ⟨h.entries, h.gens, h.buckets, Table.wf_mapOn .reset (fun k => keyOf t k && bs.contains (k % Config.buckets))
        (fun r => { r with ackOwed := false }) s.apply.records h.records⟩
    exact (h1 _).of_eq rfl rfl rfl
  dataSlot _ t c m _ h := h.dataSlot t c m
  sendProbe _ _ h := h.of_eq rfl rfl rfl
  joinResend _ _ _ h := h.of_eq (by simp) (by simp) (by simp)
  moveDown _ t h := h.moveDown t
  stalled _ t h := by
    refine JournalForm.moveFaulted ?_ t _
    exact h.of_eq rfl rfl rfl
  countArrival _ _ h := h.of_eq rfl rfl rfl
  reportArrival _ _ _ _ h := h.of_eq (by simp) (by simp) (by simp)
  testVerdict _ _ _ h := h.of_eq rfl rfl rfl
  incarnationCheck _ t i h := h.incarnationCheck t i
  lockStep _ _ _ h := h.of_eq (by simp) (by simp) (by simp)
  headFlags _ _ _ h := h.of_eq (by simp) (by simp) (by simp)
  setPrevHead _ _ _ h := h.of_eq rfl rfl rfl
  setPeerHears _ _ _ h := h.of_eq rfl rfl rfl
  setHeard _ _ h := h.of_eq rfl rfl rfl
  enterAlign _ _ _ h := h.of_eq rfl rfl rfl
  downToHunt _ _ _ h := h.of_eq rfl rfl rfl
  protocolRestart _ t h := h.protocolRestart t
  serviceStore _ t f _ h := h.serviceStore t f
  entryAck _ t a h := h.entryAck t a
  holdFrame _ _ _ _ _ _ h := h.of_eq rfl rfl rfl
  dispatch _ t b h := h.dispatch t b
  frameTaken _ _ h := h.of_eq rfl rfl rfl
  forward _ t b h := h.forward t b
  refillHead _ h := h.refillHead
  parkNext _ h := h.parkNext

/-! ## The reorder stores -/

/-- The window is counted from the expected frame, and an empty store has every form. -/
theorem ReorderOk.nil {p : Port} (h : p.reorder = []) : ReorderOk p := by
  refine ⟨?_, fun hne => absurd h hne, fun e he => ?_⟩
  · rw [h]
    rfl
  · rw [h] at he
    cases he

/-- A trunk that is neither RUNNING nor in RESYNC holds no frame. -/
theorem ReorderOk.idle {p : Port} (h : ReorderOk p) (hst : ¬ (p.state = .running ∨ p.state = .resync)) : p.reorder = [] := by
  by_contra hne
  exact hst (h.up hne)

theorem ReorderOk.of_eq {p p' : Port} (h : ReorderOk p) (hreorder : p'.reorder = p.reorder)
    (hexpected : p'.expectedFrame = p.expectedFrame)
    (hup : p.state = .running ∨ p.state = .resync → p'.state = .running ∨ p'.state = .resync) : ReorderOk p' :=
  ⟨hreorder ▸ h.sorted, fun hne => hup (h.up (hreorder ▸ hne)), by rw [hreorder, hexpected]; exact h.window⟩

/-- Case 4 of Table 7-1: the frame held lies in the window (R132). -/
theorem ReorderOk.held {p : Port} (h : ReorderOk p) {n : Nat} (b : List Byte) (hup : p.state.up = true)
    (hd : p.discards n = false) : ReorderOk { p with reorder := p.reorder.put n b } where
  sorted := Table.sorted_put _ _ _ h.sorted
  up _ := (TrunkState.up_iff _).mp hup
  window e he := by
    have hstore : Config.storeFrames = 32768 := rfl
    simp only [Port.discards, Bool.or_eq_false_iff, decide_eq_false_iff_not, hstore] at hd
    obtain ⟨⟨⟨hlow, -⟩, hhigh⟩, -⟩ := hd
    rcases Table.mem_put he with rfl | he
    · exact ⟨Nat.le_of_not_lt hlow, Nat.lt_of_not_le hhigh⟩
    · exact h.window e he

/-- Frame E leaves the store as E rises (R133). -/
theorem ReorderOk.taken {p : Port} (h : ReorderOk p) :
    ReorderOk { p with reorder := p.reorder.del p.expectedFrame, expectedFrame := p.expectedFrame + 1 } where
  sorted := Table.sorted_filter _ _ h.sorted
  up hne := h.up fun hnil => hne (by rw [hnil]; rfl)
  window e he := by
    obtain ⟨hmem, hne⟩ := List.mem_filter.mp he
    have hw := h.window e hmem
    have hne' : e.1 ≠ p.expectedFrame := by simpa using hne
    show p.expectedFrame + 1 ≤ e.1 ∧ e.1 < p.expectedFrame + 1 + 32768
    omega

theorem ReorderOk.kept : TrunkKept fun p _ => ReorderOk p where
  same h p' hstate _ _ hreorder hexpected _ := h.of_eq hreorder hexpected (by rw [hstate]; exact id)
  supSame h _ _ _ _ _ _ _ := h
  counters _ _ _ _ h := h
  closed _ _ _ h := h
  restarted _ _ _ _ _ _ _ _ := ReorderOk.nil rfl
  faultCause _ _ _ _ h := h
  stagedInForce p _ h := by
    rw [Port.stagedInForce_eq]
    exact h.of_eq rfl rfl id
  configured p _ q _ h := by
    have hsame : (p.configured q.clamped).reorder = p.reorder ∧ (p.configured q.clamped).expectedFrame = p.expectedFrame
        ∧ (p.configured q.clamped).state = p.state := by
      unfold Port.configured Port.stagedInForce
      split <;> exact ⟨rfl, rfl, rfl⟩
    obtain ⟨hreorder, hexpected, hstate⟩ := hsame
    exact h.of_eq hreorder hexpected (by rw [hstate]; exact id)
  enabled p _ hst h := ReorderOk.nil (h.idle (by simp [hst]))
  testing p _ hst h := ReorderOk.nil (h.idle (by simp [hst]))
  aligned p _ _ hst h := ReorderOk.nil (h.idle (by simp [hst]))
  running p _ hst h := ReorderOk.nil (h.idle (by simp [hst]))
  resync _ _ _ _ h := h.of_eq rfl rfl fun _ => .inr rfl
  regained _ _ _ h := h.of_eq rfl rfl fun _ => .inl rfl
  downToHunt p _ hst h := ReorderOk.nil (h.idle (by simp [hst]))
  store _ _ _ _ _ _ h := h.of_eq rfl rfl id
  held _ _ _ b hup hd h := h.held b hup hd
  taken _ _ h := h.taken
  partRestarted _ _ _ := ReorderOk.nil rfl

/-- Settles O57: the journal's and the tables' part, and the reorder stores as a property of every trunk. -/
theorem formKept : Obligations.FormKept := by
  intro s t hs ht
  have hform : JournalForm t := JournalForm.kept.step (fun _ _ h => h.of_eq rfl rfl rfl)
    (fun _ _ => JournalForm.empty rfl rfl rfl) ⟨hs.entries, hs.gens, hs.buckets, hs.records⟩ ht
  have hreorder : AllTrunks (fun p _ => ReorderOk p) t := ReorderOk.kept.step (ReorderOk.nil rfl) hs.reorder ht
  exact ⟨hform.entries, hform.gens, hform.buckets, hform.records, hreorder⟩

end Sys2Proof.Machine

/-! # The site link: steps, requests taken, the send arbiter, the latches and the assembler -/

namespace Sys2Proof.Machine

/-! ## Steps and reset -/

/-- Settles O1: both cases of the queue. -/
theorem stepTakesFrontCommand : Obligations.StepTakesFrontCommand := by
  refine ⟨fun _ _ _ => rfl, fun s hempty => ?_⟩
  unfold step
  split
  · rfl
  · next hqueue =>
    rw [hempty] at hqueue
    cases hqueue

/-- Settles O4: the reset values are read off the definitions, slot by slot for ports and supervisors. -/
theorem powerOnReset : Obligations.PowerOnReset := by
  intro s
  refine ⟨_, rfl, rfl, fun _ => rfl, fun _ => rfl, rfl, rfl, rfl, rfl, fun u => ?_, fun u => ?_, fun _ => rfl, rfl, rfl, rfl, rfl,
    rfl, rfl, rfl, rfl, LatchSet.clear_vector, LatchSet.clear_vector, rfl, rfl⟩
  · have hport : State.port { State.reset with freeCount := s.freeCount, pending := s.pending } u = .reset := by cases u <;> rfl
    rw [hport]
    exact ⟨rfl, rfl, rfl, rfl, rfl, rfl, rfl, rfl, rfl, rfl, rfl, rfl, rfl, rfl, rfl, rfl, rfl, rfl, rfl, rfl, rfl⟩
  · cases u <;> rfl

/-- Settles O58: a part just reset holds nothing, and its trunks are OFF with their reset configuration. -/
theorem invariantsHoldAtReset : Obligations.InvariantsHoldAtReset := by
  have htrunk : ∀ t, State.reset.port t = .reset ∧ State.reset.sup t = .reset := fun t => by cases t <;> exact ⟨rfl, rfl⟩
  have hform : JournalForm State.reset := JournalForm.empty rfl rfl rfl
  refine ⟨StampClock.reset_ok, Capacities.reset 0 [], fun t => ?_, hform.entries, hform.gens, hform.buckets, hform.records,
    fun t => ?_⟩
  · rw [(htrunk t).1, (htrunk t).2]
    exact TrunkOk.reset
  · rw [(htrunk t).1]
    exact ReorderOk.nil rfl

/-! ## The send arbiter -/

theorem Sli.sendNext_of_report {x : Sli} {r : Report} {rest : List Report} (h : x.reports = r :: rest) :
    x.sendNext = { x with reports := rest, sent := x.sent ++ [r.record] } := by
  unfold Sli.sendNext
  split <;> simp_all

theorem Sli.sendNext_of_reply {x : Sli} {r : LinkRecord} {rest : List LinkRecord} (hreports : x.reports = [])
    (h : x.replies = r :: rest) : x.sendNext = { x with replies := rest, sent := x.sent ++ [r] } := by
  unfold Sli.sendNext
  split
  · simp_all
  · split <;> simp_all

theorem Sli.sendNext_of_part {x : Sli} {r : LinkRecord} {rest : List LinkRecord} (hreports : x.reports = [])
    (hreplies : x.replies = []) (h : x.partQueue = r :: rest) :
    x.sendNext = Sli.enterTag { x with partQueue := rest, sent := x.sent ++ [r] } r := by
  unfold Sli.sendNext
  split
  · simp_all
  · split
    · simp_all
    · split <;> simp_all

theorem Sli.sendNext_of_empty {x : Sli} (hreports : x.reports = []) (hreplies : x.replies = []) (h : x.partQueue = []) :
    x.sendNext = x := by
  unfold Sli.sendNext
  split
  · simp_all
  · split
    · simp_all
    · split <;> simp_all

/-- Only an APPLY or a BODY-WANTED enters the tag table (R181, R183). -/
theorem Sli.enterTag_eq (x : Sli) (r : LinkRecord) : x.enterTag r = { x with
    tags := if r.kind = 0x40#8 then Table.put r.tag .apply x.tags
      else if r.kind = 0x41#8 then Table.put r.tag .bodyWanted x.tags
      else x.tags } := by
  by_cases happly : r.kind = 0x40#8
  · rw [if_pos happly]
    exact if_pos happly
  · rw [if_neg happly]
    refine (if_neg happly).trans ?_
    by_cases hwanted : r.kind = 0x41#8
    · rw [if_pos hwanted]
      exact if_pos hwanted
    · rw [if_neg hwanted]
      exact if_neg hwanted

/-- Settles O9: the three queues in their order, and the tag of an APPLY or a BODY-WANTED. -/
theorem recordSendOrder : Obligations.RecordSendOrder := by
  have hexec : ∀ s : State, exec .recordSend s = .next (s.setSli s.sli.sendNext) := fun _ => rfl
  intro s
  refine ⟨fun r rest hreports => ?_, fun r rest hreports hreplies => ?_, fun r rest hreports hreplies hqueue => ?_,
    fun hreports hreplies hqueue => ?_⟩
  · rw [hexec, Sli.sendNext_of_report hreports]
    rfl
  · rw [hexec, Sli.sendNext_of_reply hreports hreplies]
    rfl
  · rw [hexec, Sli.sendNext_of_part hreports hreplies hqueue, Sli.enterTag_eq]
    rfl
  · rw [hexec, Sli.sendNext_of_empty hreports hreplies hqueue]
    rfl

/-! ## The latches -/

theorem Sli.report_eq (x : Sli) (r : Report) :
    x.report r = { x with reports := if x.reports.length < 256 then x.reports ++ [r] else x.reports } := by
  have hlimit : Config.reportLimit = 256 := rfl
  unfold Sli.report
  rw [hlimit]
  by_cases hroom : x.reports.length < 256
  · rw [if_pos hroom, if_pos hroom]
  · rw [if_neg hroom, if_neg hroom]

/-- A report under a condition goes to the end of a queue with room, and nowhere else. -/
theorem Sli.reportIf_eq (x : Sli) (c : Bool) (r : Report) :
    x.reportIf c r = { x with reports := if c = true ∧ x.reports.length < 256 then x.reports ++ [r] else x.reports } := by
  unfold Sli.reportIf
  cases c with
  | false => simp
  | true => simp [Sli.report_eq]

theorem PartLatches.get_put (x : PartLatches) (l k : PartLatch) (v : Bool) :
    (x.put l v).get k = if k = l then v else x.get k := by
  cases l <;> cases k <;> rfl

theorem TrunkLatches.get_put (x : TrunkLatches) (l k : TrunkLatch) (v : Bool) :
    (x.put l v).get k = if k = l then v else x.get k := by
  cases l <;> cases k <;> rfl

/-- A latch that is set is left as it stands by an event. -/
theorem LatchSet.putTrunk_of_set {x : LatchSet} {t : Trunk} {l : TrunkLatch} (h : (x.trunk.get t).get l = true) :
    x.putTrunk t l true = x := by
  have hput : (x.trunk.get t).put l true = x.trunk.get t := by
    revert h
    generalize x.trunk.get t = y
    intro h
    cases l <;> exact congrArg _ h.symm
  unfold LatchSet.putTrunk
  rw [hput, Quad.set_get]

/-- Settles O10: the passage of a latch, and what a latch written leaves of the others. -/
theorem latchesReportTheirPassage : Obligations.LatchesReportTheirPassage := by
  refine ⟨fun x l hset => if_pos hset, fun x l hclear => ?_, fun x t l hset => if_pos hset, fun x t l hclear => ?_,
    fun x t l => ?_, fun x l k v => x.part.get_put l k v, fun _ _ _ => rfl, fun x t u l k v => ?_, fun _ _ _ _ => rfl⟩
  · rw [Sli.latch, if_neg (by simp [hclear]), Sli.reportIf_eq]
  · rw [Sli.latchTrunk, if_neg (by simp [hclear]), Sli.reportIf_eq]
    simp
  · unfold Sli.latchTrunk
    split
    · next hset => rw [LatchSet.putTrunk_of_set hset]
    · rw [Sli.reportIf_eq]
      simp
  · show ((x.trunk.set t ((x.trunk.get t).put l v)).get u).get k = _
    rw [Quad.get_set]
    split
    · next hu => rw [TrunkLatches.get_put]; simp [hu]
    · next hu => simp [hu]

/-! ## A request taken -/

theorem throughReply_append {xs ys : List LinkRecord} {r : LinkRecord} (hr : r.partTag = false)
    (hys : ∀ y ∈ ys, y.partTag = true) : throughReply (xs ++ r :: ys) = xs ++ [r] := by
  unfold throughReply
  rw [List.reverse_append, List.reverse_cons, List.append_assoc, List.dropWhile_append_of_pos (by simpa using hys)]
  simp [hr]

theorem afterReply_append {xs ys : List LinkRecord} {r : LinkRecord} (hr : r.partTag = false)
    (hys : ∀ y ∈ ys, y.partTag = true) : afterReply (xs ++ r :: ys) = ys := by
  unfold afterReply
  rw [List.reverse_append, List.reverse_cons, List.append_assoc, List.takeWhile_append_of_pos (by simpa using hys)]
  simp [hr]

/-- A host request that arrives is taken whole, or is the next bytes of the stream. -/
theorem exec_hostRequest : ∀ c ∈ hostRequests, ∀ (w : Wire) (s : State),
    exec (c.2 w) s = .next (s.recordIn (c.2 w) (recordBytes c.1 0 0 w)) := by
  unfold hostRequests
  simp only [List.forall_mem_cons]
  and_intros
  all_goals first
    | exact fun _ _ => rfl
    | exact nofun

/-- Every host request taken whole goes through the tests of R180. -/
theorem act_hostRequest : ∀ c ∈ hostRequests, ∃ fits act, ∀ (w : Wire) (s : State),
    s.act (c.2 w) = request c.1 fits act w s := by
  unfold hostRequests
  simp only [List.forall_mem_cons]
  and_intros
  all_goals first
    | exact ⟨_, _, fun _ _ => rfl⟩
    | exact nofun

/-- Settles O3: when an earlier reply has left, and what a reply and a request among held bytes are. -/
theorem requestTakenAndReplied : Obligations.RequestTakenAndReplied := by
  refine ⟨fun s hpart => ?_, fun s xs ys r hsplit hr hys => ?_, fun s hrestart => ?_, fun s hnone => ?_, fun _ _ _ _ _ => rfl,
    fun c hc w s hheld => ?_⟩
  · have hany : s.sli.recordEnds.replies.any (fun r => !r.partTag) = false := by
      rw [List.any_eq_false]
      intro r hr
      simp [hpart r hr]
    simp only [State.requestTaken, Sli.replySent, hany]
    rfl
  · have hreplies : s.sli.recordEnds.replies = xs ++ r :: ys := hsplit
    have hany : s.sli.recordEnds.replies.any (fun r => !r.partTag) = true := by
      rw [hreplies]
      simp [hr]
    have hsent : s.sli.recordEnds.replySent = { s.sli.recordEnds with
        sent := s.sli.sent ++ s.sli.reports.map Report.record ++ throughReply (xs ++ r :: ys)
        reports := []
        replies := afterReply (xs ++ r :: ys) } := by
      rw [← hreplies]
      exact if_pos hany
    rw [State.requestTaken, hsent, throughReply_append hr hys, afterReply_append hr hys, ← List.append_assoc]
    rfl
  · have hany : s.sli.recordEnds.replies.any (·.answersRestart) = true := by
      obtain ⟨r, hmem, htag, hkind, hok⟩ := hrestart
      exact List.any_eq_true.mpr ⟨r, hmem, by simp [LinkRecord.answersRestart, htag, hkind, hok, kindRestart]⟩
    simp only [State.recordTaken, Sli.restartSent, hany]
    rfl
  · have hany : s.sli.recordEnds.replies.any (·.answersRestart) = false := by
      rw [List.any_eq_false]
      intro r hr
      have hr' := hnone r hr
      simpa [LinkRecord.answersRestart, kindRestart, and_assoc] using hr'
    simp only [State.recordTaken, Sli.restartSent, hany]
    rfl
  · rw [exec_hostRequest c hc w s, State.recordIn_held s _ _ hheld]
    rfl

/-! ## RESTART with scope PART -/

theorem answerRestart_part {b : List Byte} {s : State} (h : fieldAt b 0 1 = 1) : answerRestart b s = ⟨s.partRestart, .ok, []⟩ :=
  if_pos h

theorem answerRestart_other {b : List Byte} {s : State} (h : fieldAt b 0 1 ≠ 1) : answerRestart b s = ⟨s, .badArgument, []⟩ :=
  if_neg h

/-- Settles O5: both answers of RESTART; what is left of a part restarted is read off its definition. -/
theorem partRestart : Obligations.PartRestart := by
  intro w s hw
  refine ⟨fun hpart => ?_, fun hother => ?_⟩
  · rw [hw.exec_eq rfl rfl, answerRestart_part hpart]
    rfl
  · rw [hw.exec_eq rfl rfl, answerRestart_other hother]
    rfl

/-! ## Damaged and misfit requests -/

theorem damaged_iff (w : Wire) : damaged w = true ↔ bodyCheck w.body ≠ w.check := by simp [damaged]

theorem request_of_damaged (kind : Byte) (fits : List Byte → Bool) (act : List Byte → State → Answer) {w : Wire} (s : State)
    (h : bodyCheck w.body ≠ w.check) :
    request kind fits act w s = (s.requestTaken.linkFault .bodyCheck).reply kind w .badCheck [] :=
  if_pos ((damaged_iff w).mpr h)

theorem request_of_misfit (kind : Byte) {fits : List Byte → Bool} (act : List Byte → State → Answer) {w : Wire} (s : State)
    (hcheck : bodyCheck w.body = w.check) (hfits : fits w.body = false) :
    request kind fits act w s = s.requestTaken.reply kind w .badArgument [] := by
  have hsound : damaged w = false := by simp [damaged, hcheck]
  simp [request, hsound, hfits]

/-- A request of a wrong length, where no bytes are held (R194). -/
theorem exec_of_misfit {c : Instr} {bytes : List Byte} {kind : Byte} {fits : List Byte → Bool}
    {act : List Byte → State → Answer} {w : Wire} {s : State} (hexec : exec c s = .next (s.recordIn c bytes))
    (hact : s.act c = request kind fits act w s) (hbuf : s.sli.asm.buf = []) (hcheck : bodyCheck w.body = w.check)
    (hfits : fits w.body = false) :
    exec c s = .next { s with sli := s.replied w kind .badArgument [] } := by
  rw [hexec, State.recordIn_clear s c bytes hbuf, hact, request_of_misfit kind act s hcheck hfits]
  rfl

theorem fitsSize_eq_false {n : Nat} {b : List Byte} (h : b.length ≠ n) : fitsSize n b = false := by simp [fitsSize, h]

theorem Sli.linkFault_eq (x : Sli) (e : LinkErrorType) : x.linkFault e = { x with
    latches := { x.latches with part := { x.latches.part with linkError := true } }
    reports := if x.mask.part.linkError = true ∧ x.reports.length < 256 then x.reports ++ [.linkError e] else x.reports } := by
  rw [Sli.linkFault, Sli.reportIf_eq]
  rfl

theorem Sli.linkFault_replies (x : Sli) (e : LinkErrorType) : (x.linkFault e).replies = x.replies := by
  rw [Sli.linkFault_eq]

/-- Settles O6: the two tests of R180 before an owner sees the request. -/
theorem damagedAndMisfitRequests : Obligations.DamagedAndMisfitRequests := by
  refine ⟨Sli.linkFault_eq, fun c hc w s hbuf hbad => ?_, ?_, fun w s hbuf hcheck hlen => ?_, fun w s hbuf hcheck hpatches => ?_⟩
  · obtain ⟨fits, act, hact⟩ := act_hostRequest c hc
    rw [exec_hostRequest c hc w s, State.recordIn_clear s _ _ hbuf, hact, request_of_damaged _ _ _ _ hbad,
      ← Sli.linkFault_replies _ .bodyCheck]
    rfl
  · simp only [List.forall_mem_cons]
    and_intros
    all_goals first
      | exact fun w s hbuf hcheck hlen => exec_of_misfit rfl rfl hbuf hcheck (fitsSize_eq_false hlen)
      | exact nofun
  · refine exec_of_misfit (fits := fitsChunk) rfl rfl hbuf hcheck ?_
    have hlimit : Config.recordBody = 65520 := rfl
    simp only [fitsChunk, hlimit, Bool.and_eq_false_iff, decide_eq_false_iff_not]
    omega
  · refine exec_of_misfit (fits := fitsSubmit) rfl rfl hbuf hcheck ?_
    unfold fitsSubmit
    split
    · rfl
    · next ps hps =>
      rw [beq_eq_false_iff_ne]
      intro hend
      exact hpatches ps.1 (hps.trans (congrArg some (Prod.ext rfl hend)))

end Sys2Proof.Machine

/-! # The stream from the host: stray records and the assembler's moves -/

namespace Sys2Proof.Machine

/-! ## What taking a record leaves of the link -/

theorem Sli.replySent_latches (x : Sli) : x.replySent.latches = x.latches := by
  unfold Sli.replySent
  split <;> rfl

theorem Sli.replySent_tags (x : Sli) : x.replySent.tags = x.tags := by
  unfold Sli.replySent
  split <;> rfl

theorem Sli.restartSent_latches (x : Sli) : x.restartSent.latches = x.latches := by
  unfold Sli.restartSent
  split
  · exact x.replySent_latches
  · rfl

theorem Sli.restartSent_tags (x : Sli) : x.restartSent.tags = x.tags := by
  unfold Sli.restartSent
  split
  · exact x.replySent_tags
  · rfl

theorem State.recordTaken_latches (s : State) : s.recordTaken.sli.latches = s.sli.latches := s.sli.recordEnds.restartSent_latches

theorem State.recordTaken_tags (s : State) : s.recordTaken.sli.tags = s.sli.tags := s.sli.recordEnds.restartSent_tags

/-! ## Stray records -/

theorem isHostRequestKind_iff (kind : Byte) : isHostRequestKind kind = true ↔ 1 ≤ kind.toNat ∧ kind.toNat ≤ 21 := by
  simp [isHostRequestKind]

theorem exec_unknownKindRequest {kind : Byte} (w : Wire) (s : State) (h : ¬ (1 ≤ kind.toNat ∧ kind.toNat ≤ 21)) :
    exec (.unknownKindRequest kind w) s = .next (s.recordIn (.unknownKindRequest kind w) (recordBytes kind 0 0 w)) :=
  congrArg Host.Outcome.next (if_neg fun hk => h ((isHostRequestKind_iff kind).mp hk))

theorem takeUnknownKind_sound {kind : Byte} {w : Wire} (s : State) (h : bodyCheck w.body = w.check) :
    takeUnknownKind kind w s = s.requestTaken.reply kind w .unknownKind [] :=
  if_neg fun hd => (damaged_iff w).mp hd h

theorem takeUnknownKind_damaged {kind : Byte} {w : Wire} (s : State) (h : bodyCheck w.body ≠ w.check) :
    takeUnknownKind kind w s = (s.requestTaken.linkFault .bodyCheck).reply kind w .badCheck [] :=
  if_pos ((damaged_iff w).mpr h)

theorem takeRoleFault_sound {w : Wire} (s : State) (h : bodyCheck w.body = w.check) :
    takeRoleFault w s = s.recordTaken.setSli s.recordTaken.sli.latchLinkError :=
  if_neg fun hd => (damaged_iff w).mp hd h

/-- A link fault sets the latch that a role fault has set already. -/
theorem takeRoleFault_damaged {w : Wire} (s : State) (h : bodyCheck w.body ≠ w.check) :
    takeRoleFault w s = s.recordTaken.linkFault .bodyCheck := by
  refine (if_pos ((damaged_iff w).mpr h)).trans ?_
  rw [State.linkFault, State.linkFault, Sli.linkFault_eq, Sli.linkFault_eq]
  rfl

theorem State.hostReply_damaged {w : Wire} (s : State) (kind : Byte) (result : BitVec 16) (h : bodyCheck w.body ≠ w.check) :
    s.hostReply kind result w =
      (s.recordTaken.linkFault .bodyCheck).queueReply ⟨kind, true, true, w.tag.toNat, .badCheck, []⟩ :=
  if_pos ((damaged_iff w).mpr h)

/-- A sound host reply goes by the tag table (R182). -/
theorem State.hostReply_sound {w : Wire} (s : State) (kind : Byte) (result : BitVec 16) (h : bodyCheck w.body = w.check) :
    s.hostReply kind result w = match s.recordTaken.sli.outstanding kind w.tag.toNat with
      | none => s.recordTaken.linkFault .partTag
      | some k => (s.recordTaken.dropTag w.tag.toNat).ownerAnswer k w.tag.toNat (resultOk result) :=
  if_neg fun hd => (damaged_iff w).mp hd h

theorem State.outstanding_none {s : State} {kind : Byte} {tag : Nat}
    (h : ∀ k, s.sli.tags.lookup tag = some k → k.code ≠ kind) : s.recordTaken.sli.outstanding kind tag = none := by
  unfold Sli.outstanding
  rw [State.recordTaken_tags, Option.filter_eq_none_iff]
  intro k hk
  simpa using h k hk

theorem exec_hostReply : ∀ c ∈ [Instr.applyReply, Instr.bodyWantedReply],
    ∀ (kind : Byte) (result : BitVec 16) (w : Wire) (s : State), s.sli.asm.buf = [] →
      exec (c kind result w) s = .next (s.hostReply kind result w) := by
  intro c hc kind result w s hbuf
  simp only [List.mem_cons, List.not_mem_nil, or_false] at hc
  rcases hc with rfl | rfl
  · exact congrArg Host.Outcome.next (State.recordIn_clear s _ _ hbuf)
  · exact congrArg Host.Outcome.next (State.recordIn_clear s _ _ hbuf)

/-- Settles O7: each stray record where no bytes are held, and all of them where some are. -/
theorem strayRecords : Obligations.StrayRecords := by
  refine ⟨fun kind w s hkind hbuf => ⟨fun hcheck => ?_, fun hbad => ?_⟩, fun role w s hbuf => ⟨fun hcheck => ?_, fun hbad => ?_⟩,
    fun c hc kind result w s hbuf => ⟨fun hbad => ?_, fun hcheck htag => ?_⟩, fun kind result role w s hheld => ?_⟩
  · rw [exec_unknownKindRequest w s hkind, State.recordIn_clear s _ _ hbuf]
    exact congrArg Host.Outcome.next (takeUnknownKind_sound s hcheck)
  · rw [exec_unknownKindRequest w s hkind, State.recordIn_clear s _ _ hbuf, ← Sli.linkFault_replies _ .bodyCheck]
    exact congrArg Host.Outcome.next (takeUnknownKind_damaged s hbad)
  · have hexec : exec (.roleFaultRecord role w) s = .next (takeRoleFault w s) :=
      congrArg Host.Outcome.next (State.recordIn_clear s _ _ hbuf)
    rw [hexec, takeRoleFault_sound s hcheck, ← State.recordTaken_latches s]
    rfl
  · have hexec : exec (.roleFaultRecord role w) s = .next (takeRoleFault w s) :=
      congrArg Host.Outcome.next (State.recordIn_clear s _ _ hbuf)
    rw [hexec, takeRoleFault_damaged s hbad]
    rfl
  · rw [exec_hostReply c hc kind result w s hbuf, State.hostReply_damaged s kind result hbad,
      ← Sli.linkFault_replies _ .bodyCheck]
    rfl
  · rw [exec_hostReply c hc kind result w s hbuf, State.hostReply_sound s kind result hcheck, State.outstanding_none htag]
    rfl
  · have hflags : wrongRoleFlags role = if role = .replyToHost then 2 else 1 := by cases role <;> rfl
    refine ⟨fun hkind => ?_, ?_, ?_, ?_⟩
    · rw [exec_unknownKindRequest w s hkind, State.recordIn_held s _ _ hheld]
      rfl
    · rw [← hflags]
      exact congrArg Host.Outcome.next (State.recordIn_held s _ _ hheld)
    · exact congrArg Host.Outcome.next (State.recordIn_held s _ _ hheld)
    · exact congrArg Host.Outcome.next (State.recordIn_held s _ _ hheld)

/-! ## The assembler's moves -/

theorem headerOk_iff (h : List Byte) : headerOk h = true ↔ fieldAt h 0 2 = 0xC35A
    ∧ fieldAt h 10 2 = (headerCheck (slice h 0 10 ++ slice h 12 4)).toNat ∧ fieldAt h 8 2 ≤ 65520 := by
  have hmarker : Config.marker = 0xC35A := rfl
  have hlimit : Config.recordBody = 65520 := rfl
  simp only [headerOk, hmarker, hlimit, Bool.and_eq_true, beq_iff_eq, decide_eq_true_eq, and_assoc]

section
variable {s : State}

theorem State.assembled_wait (h : s.sli.asm.move = .wait) : s.assembled = s := by
  rw [State.assembled_move, h]

theorem State.assembled_pass (h : s.sli.asm.move = .pass) :
    s.assembled = (s.setAsm false (s.sli.asm.buf.drop 1)).assembled := by
  conv_lhs => rw [State.assembled_move, h]

theorem State.assembled_candidateFails (h : s.sli.asm.move = .candidateFails) :
    s.assembled = ((s.setSli s.sli.latchLinkError).setAsm false (s.sli.asm.buf.drop 1)).assembled := by
  conv_lhs => rw [State.assembled_move, h]

theorem State.assembled_headerFound (h : s.sli.asm.move = .headerFound) :
    s.assembled = (s.setAsm true s.sli.asm.buf).assembled := by
  conv_lhs => rw [State.assembled_move, h]

theorem State.assembled_headerFault (h : s.sli.asm.move = .headerFault) :
    s.assembled = ((s.linkFault .header).setAsm false (s.sli.asm.buf.drop 1)).assembled := by
  conv_lhs => rw [State.assembled_move, h]

theorem State.assembled_record {c : Instr} {n : Nat} (h : s.sli.asm.move = .record c n) :
    s.assembled = ((s.act c).setAsm true (s.sli.asm.buf.drop n)).assembled := by
  conv_lhs => rw [State.assembled_move, h]

theorem Assembler.move_inStep {x : Assembler} (h : x.inStep = true) : x.move = moveInStep x.buf := if_pos h

theorem Assembler.move_search {x : Assembler} (h : x.inStep = false) : x.move = moveInSearch x.buf :=
  if_neg (by rw [h]; exact Bool.false_ne_true)

theorem moveInStep_short {buf : List Byte} (h : buf.length < 16) : moveInStep buf = .wait := if_pos h

theorem moveInStep_fault {buf : List Byte} (hlen : 16 ≤ buf.length) (h : headerOk (buf.take 16) = false) :
    moveInStep buf = .headerFault := by
  rw [moveInStep, if_neg (Nat.not_lt.mpr hlen), h]
  rfl

theorem moveInStep_incomplete {buf : List Byte} (hlen : 16 ≤ buf.length) (h : headerOk (buf.take 16) = true)
    (hshort : buf.length < recordLength buf) : moveInStep buf = .wait := by
  rw [moveInStep, if_neg (Nat.not_lt.mpr hlen), if_pos h, if_pos hshort]

theorem moveInStep_whole {buf : List Byte} (hlen : 16 ≤ buf.length) (h : headerOk (buf.take 16) = true)
    (hwhole : recordLength buf ≤ buf.length) : moveInStep buf = .record (frontRecord buf) (recordLength buf) := by
  rw [moveInStep, if_neg (Nat.not_lt.mpr hlen), if_pos h, if_neg (Nat.not_lt.mpr hwhole)]

theorem moveInSearch_noMarker {b0 b1 : Byte} (rest : List Byte) (h : ¬ (b0 = 0xC3#8 ∧ b1 = 0x5A#8)) :
    moveInSearch (b0 :: b1 :: rest) = .pass := if_neg h

/-- What follows the marker in SEARCH. -/
theorem moveInSearch_marker (rest : List Byte) : moveInSearch (0xC3#8 :: 0x5A#8 :: rest) =
    if (0xC3#8 :: 0x5A#8 :: rest).length < 16 then .wait
    else if headerOk ((0xC3#8 :: 0x5A#8 :: rest).take 16) then .headerFound
    else .candidateFails := by
  rw [moveInSearch, if_pos ⟨rfl, rfl⟩]

/-- SEARCH, move by move. -/
theorem State.assembled_search (hsearch : s.sli.asm.inStep = false) :
    (s.sli.asm.buf = [] → s.assembled = s)
    ∧ (∀ b, s.sli.asm.buf = [b] → s.assembled = if b = 0xC3#8 then s else s.setAsm false [])
    ∧ ∀ b0 b1 rest, s.sli.asm.buf = b0 :: b1 :: rest →
      (¬ (b0 = 0xC3#8 ∧ b1 = 0x5A#8) → s.assembled = (s.setAsm false (b1 :: rest)).assembled)
      ∧ (b0 = 0xC3#8 → b1 = 0x5A#8 →
        (s.sli.asm.buf.length < 16 → s.assembled = s)
        ∧ (16 ≤ s.sli.asm.buf.length → headerOk (s.sli.asm.buf.take 16) = false →
          s.assembled = ((s.setSli s.sli.latchLinkError).setAsm false (b1 :: rest)).assembled)
        ∧ (16 ≤ s.sli.asm.buf.length → headerOk (s.sli.asm.buf.take 16) = true →
          s.assembled = (s.setAsm true s.sli.asm.buf).assembled)) := by
  have hmove := Assembler.move_search hsearch
  refine ⟨fun hbuf => ?_, fun b hbuf => ?_, fun b0 b1 rest hbuf => ⟨fun hmarker => ?_, ?_⟩⟩
  · exact State.assembled_wait (by rw [hmove, hbuf]; rfl)
  · rw [hbuf] at hmove
    by_cases hb : b = 0xC3#8
    · rw [if_pos hb]
      exact State.assembled_wait (hmove.trans (if_pos hb))
    · rw [if_neg hb, State.assembled_pass (hmove.trans (if_neg hb)), hbuf]
      exact State.assembled_wait rfl
  · rw [State.assembled_pass (by rw [hmove, hbuf, moveInSearch_noMarker rest hmarker]), hbuf]
    rfl
  · rintro rfl rfl
    rw [hbuf] at hmove ⊢
    rw [moveInSearch_marker] at hmove
    refine ⟨fun hshort => ?_, fun hlen hbad => ?_, fun hlen hgood => ?_⟩
    · exact State.assembled_wait (hmove.trans (if_pos hshort))
    · rw [if_neg (Nat.not_lt.mpr hlen), hbad] at hmove
      rw [State.assembled_candidateFails hmove, hbuf]
      rfl
    · rw [if_neg (Nat.not_lt.mpr hlen), if_pos hgood] at hmove
      rw [State.assembled_headerFound hmove, hbuf]

/-- IN-STEP, move by move. -/
theorem State.assembled_inStep (hstep : s.sli.asm.inStep = true) :
    (s.sli.asm.buf.length < 16 → s.assembled = s)
    ∧ (16 ≤ s.sli.asm.buf.length → headerOk (s.sli.asm.buf.take 16) = false →
      s.assembled = ((s.linkFault .header).setAsm false (s.sli.asm.buf.drop 1)).assembled)
    ∧ (16 ≤ s.sli.asm.buf.length → headerOk (s.sli.asm.buf.take 16) = true →
      (s.sli.asm.buf.length < recordLength s.sli.asm.buf → s.assembled = s)
      ∧ (recordLength s.sli.asm.buf ≤ s.sli.asm.buf.length → s.assembled =
        ((s.act (frontRecord s.sli.asm.buf)).setAsm true (s.sli.asm.buf.drop (recordLength s.sli.asm.buf))).assembled)) := by
  have hmove := Assembler.move_inStep hstep
  exact ⟨fun hshort => State.assembled_wait (hmove.trans (moveInStep_short hshort)),
    fun hlen hbad => State.assembled_headerFault (hmove.trans (moveInStep_fault hlen hbad)),
    fun hlen hgood => ⟨fun hshort => State.assembled_wait (hmove.trans (moveInStep_incomplete hlen hgood hshort)),
      fun hwhole => State.assembled_record (hmove.trans (moveInStep_whole hlen hgood hwhole))⟩⟩

end

/-- What a record does when it is taken whole does not depend on the bytes that the assembler holds: taking it ends them. -/
theorem State.act_recordCommand_setAsm (s : State) (inStep : Bool) (buf header body check : List Byte) :
    (s.setAsm inStep buf).act (recordCommand header body check) = s.act (recordCommand header body check) := by
  have hite : ∀ {c : Prop} [Decidable c] {a b : Instr}, (s.setAsm inStep buf).act a = s.act a →
      (s.setAsm inStep buf).act b = s.act b → (s.setAsm inStep buf).act (if c then a else b) = s.act (if c then a else b) := by
    intro c _ a b ha hb
    by_cases hc : c
    · rw [if_pos hc, ha]
    · rw [if_neg hc, hb]
  have hrequest : ∀ kind w, (s.setAsm inStep buf).act (requestCommand kind w) = s.act (requestCommand kind w) := by
    intro kind w
    unfold requestCommand
    repeat refine hite rfl ?_
    rfl
  unfold recordCommand
  dsimp only
  split
  · exact hrequest _ _
  · rfl
  · rfl
  · split <;> rfl

/-- Settles O8: bytes that arrive, the assembler's moves in SEARCH and IN-STEP, and records where no bytes are held. -/
theorem headerFaultSearch : Obligations.HeaderFaultSearch := by
  refine ⟨fun _ _ => rfl, fun _ _ => rfl, headerOk_iff, fun s => ⟨State.assembled_search, State.assembled_inStep⟩,
    fun c hc w s hbuf => ?_, fun kind result role w s hbuf => ⟨fun hkind => ?_, ?_, ?_, ?_⟩, ?_, rfl, fun _ => rfl⟩
  · rw [exec_hostRequest c hc w s, State.recordIn_clear s _ _ hbuf]
  · rw [exec_unknownKindRequest w s hkind, State.recordIn_clear s _ _ hbuf]
  · exact congrArg Host.Outcome.next (State.recordIn_clear s _ _ hbuf)
  · exact congrArg Host.Outcome.next (State.recordIn_clear s _ _ hbuf)
  · exact congrArg Host.Outcome.next (State.recordIn_clear s _ _ hbuf)
  · rintro c s inStep bs xs ys rfl
    exact s.act_recordCommand_setAsm inStep bs bs xs ys

end Sys2Proof.Machine

/-! # Reading requests, the error counters and the Stamp Clock -/

namespace Sys2Proof.Machine

/-! ## Bits and lengths -/

theorem bitsToNat_lt (bs : List Bool) : bitsToNat bs < 2 ^ bs.length := by
  induction bs with
  | nil => exact Nat.one_pos
  | cons b bs ih =>
    rw [List.length_cons, pow_succ', bitsToNat]
    split <;> omega

/-- Bit i of the number is the i-th of the bits. -/
theorem bitsToNat_testBit_getD (bs : List Bool) : ∀ i, (bitsToNat bs).testBit i = bs.getD i false := by
  induction bs with
  | nil => exact fun i => by simp [bitsToNat]
  | cons b bs ih =>
    intro i
    have hlow : (bitsToNat (b :: bs)).testBit 0 = b := by
      rw [bitsToNat, Nat.testBit_zero]
      cases b <;> simp
    have hhigh : bitsToNat (b :: bs) / 2 = bitsToNat bs := by
      rw [bitsToNat]
      split <;> omega
    cases i with
    | zero => exact hlow
    | succ i => rw [Nat.testBit_succ, hhigh, ih i, List.getD_cons_succ]

theorem bitsToNat_two (a b : Bool) : bitsToNat [a, b] = (if a then 1 else 0) + 2 * (if b then 1 else 0) := by
  cases a <;> cases b <;> rfl

theorem bitsToNat_three (a b c : Bool) :
    bitsToNat [a, b, c] = (if a then 1 else 0) + (if b then 2 else 0) + (if c then 4 else 0) := by
  cases a <;> cases b <;> cases c <;> rfl

theorem bitsToNat_five (a b c d e : Bool) : bitsToNat [a, b, c, d, e] =
    (if a then 1 else 0) + 2 * (if b then 1 else 0) + 4 * (if c then 1 else 0) + 8 * (if d then 1 else 0)
      + 16 * (if e then 1 else 0) := by
  simp only [bitsToNat]
  omega

theorem configBlock_length (t : Trunk) (c : TrunkConfig) : (configBlock t c).length = 28 := by simp [configBlock]

theorem zeroBody_length (n : Nat) : (zeroBody n).length = n := List.length_replicate

theorem stagedBlock_length (t : Trunk) (p : Port) : (p.stagedBlock t).length = 28 := by
  unfold Port.stagedBlock
  split
  · exact zeroBody_length 28
  · exact configBlock_length _ _

theorem headCyclesBytes_eq (n : Nat) :
    headCyclesBytes n = beBytes 2 (if n < 65536 then n else (Config.headCyclesField n).toNat) := by
  unfold headCyclesBytes
  by_cases h : n < 65536
  · rw [if_pos h, if_pos h]
  · rw [if_neg h, if_neg h]

theorem Sli.replySent_stats (x : Sli) : x.replySent.stats = x.stats := by
  unfold Sli.replySent
  split <;> rfl

theorem State.requestTaken_stats (s : State) : s.requestTaken.sli.stats = s.sli.stats := s.sli.recordEnds.replySent_stats

theorem State.requestTaken_latches (s : State) : s.requestTaken.sli.latches = s.sli.latches :=
  s.sli.recordEnds.replySent_latches

/-! ## STATUS_READ and STATUS_PEEK -/

theorem LatchSet.vector_lt (x : LatchSet) : x.vector < 2 ^ 38 := bitsToNat_lt x.bits

theorem LatchSet.vector_testBit_part (x : LatchSet) (l : PartLatch) : x.vector.testBit l.number = x.part.get l := by
  rw [LatchSet.vector, bitsToNat_testBit_getD]
  cases l <;> rfl

theorem LatchSet.vector_testBit_trunk (x : LatchSet) (t : Trunk) (l : TrunkLatch) :
    x.vector.testBit (TrunkLatch.number t l) = (x.trunk.get t).get l := by
  rw [LatchSet.vector, bitsToNat_testBit_getD]
  cases t <;> cases l <;> rfl

theorem LatchSet.keep_part_get (x c : LatchSet) (l : PartLatch) : (x.keep c).part.get l = (x.part.get l && c.part.get l) := by
  cases l <;> rfl

theorem LatchSet.keep_trunk_get (x c : LatchSet) (t : Trunk) (l : TrunkLatch) :
    ((x.keep c).trunk.get t).get l = ((x.trunk.get t).get l && (c.trunk.get t).get l) := by
  cases t <;> cases l <;> rfl

theorem State.conditions_part_get (s : State) (l : PartLatch) : s.conditions.part.get l = match l with
    | .parking => s.body.parkOn
    | .applyHeld => s.apply.records.any fun e => e.2.held
    | _ => false := by
  cases l <;> rfl

theorem State.conditions_trunk_get (s : State) (t : Trunk) : s.conditions.trunk.get t = s.trunkConditions t := by
  cases t <;> rfl

/-- The standing conditions of a trunk's latches (Table 9-3). -/
theorem State.trunkConditions_get (s : State) (t : Trunk) (l : TrunkLatch) : (s.trunkConditions t).get l = match l with
    | .unidentified => (match (s.sup t).latest with
      | some sig => sig != .clean
      | none => false) && (s.sup t).runLength != 5
    | .identified => (s.sup t).runLength == 5
    | .remoteAlarm => (s.port t).filter.alarm
    | .resync => (s.port t).state == .resync
    | .down => (s.port t).state == .down
    | .faulted => (s.port t).state == .faulted
    | .counterSat => (s.sup t).counters.frameCheck == 255 || (s.sup t).counters.headError == 255
      || (s.sup t).counters.resend == 255
    | .windowFull => decide ((s.port t).window ≤ (s.port t).store.length) := by
  cases l with
  | unidentified =>
    show (s.sup t).unidentifiedNow = _
    unfold Supervisor.unidentifiedNow
    cases (s.sup t).latest with
    | none => rfl
    | some sig => cases sig <;> rfl
  | _ => rfl

/-- The reply body of STATUS-READ and STATUS-PEEK, field by field (Table 10-9). -/
theorem State.statusBody_eq (s : State) : s.statusBody =
    beBytes 8 s.sli.latches.vector
    ++ beBytes 8 s.siteClock ++ beBytes 8 s.clock.l ++ beBytes 2 s.clock.c
    ++ beBytes 1 ((if s.clock.set then 1 else 0) + (if s.clock.site.isSome then 2 else 0)
      + (if s.clock.incarnation.isSome then 4 else 0))
    ++ beBytes 1 (s.clock.site.getD 0) ++ beBytes 4 s.clock.skew ++ beBytes 8 (s.clock.incarnation.getD 0#64).toNat
    ++ beBytes 4 s.map.length ++ beBytes 4 (s.map.countP fun x => decide (0 < x.pins))
    ++ beBytes 4 s.body.outUse ++ beBytes 4 s.body.inUse ++ beBytes 1 (if s.body.parkOn then 1 else 0) ++ beBytes 3 0
    ++ beBytes 4 (s.journal.entries.countP fun e => decide (e.bodyState = .parked))
    ++ beBytes 4 s.body.refillQueue.length ++ beBytes 4 s.body.refillTable.length
    ++ beBytes 4 s.apply.backlog ++ beBytes 4 s.apply.slots.length
    ++ beBytes 4 (s.apply.records.countP fun e => e.2.held) ++ beBytes 4 s.apply.waitList.length
    ++ Trunk.all.flatMap (fun t => beBytes 1 (s.port t).state.code) ++ beBytes 4 s.sli.reports.length := by
  have hports : s.ports.toList.flatMap (fun p => beBytes 1 p.state.code) =
      Trunk.all.flatMap fun t => beBytes 1 (s.port t).state.code := rfl
  rw [← bitsToNat_three]
  simp only [State.statusBody, State.clockStatus, State.storeStatus, State.applyStatus, State.ownSite,
    State.ownIncarnation, State.pinned, State.parkedCount, State.heldCount, flag, hports, List.append_assoc]

/-- Settles O11: the layout, the latch numbers, and what a read leaves of the latches. -/
theorem statusReplies : Obligations.StatusReplies := by
  refine ⟨fun s => ⟨?_, s.statusBody_eq⟩,
    fun x => ⟨x.vector_lt, x.vector_testBit_part, x.vector_testBit_trunk⟩, fun w s hw => ⟨?_, ?_⟩⟩
  · rw [State.statusBody_eq]
    simp [Trunk.all]
  · rw [hw.exec_eq rfl rfl]
    rfl
  · refine ⟨s.requestTaken.sli.latches.keep s.requestTaken.conditions, ?_, fun l => ?_, fun t l => ?_⟩
    · rw [hw.exec_eq rfl rfl]
      rfl
    · rw [LatchSet.keep_part_get, State.conditions_part_get, State.requestTaken_latches]
      rfl
    · rw [LatchSet.keep_trunk_get, State.conditions_trunk_get, State.trunkConditions_get, State.requestTaken_latches]
      rfl

/-! ## STATS_READ and TRUNK_QUERY -/

theorem State.statsBody_eq (s : State) : s.statsBody =
    (([s.sli.stats.submits, s.sli.stats.supersedes, s.sli.stats.merges, s.sli.stats.parks, s.sli.stats.refills,
          s.sli.stats.lostBodies, s.sli.stats.voids, s.sli.stats.staleDiscards, s.sli.stats.uncheckedApplies,
          s.sli.stats.skewClamps, s.sli.stats.borrowAheads, s.sli.stats.badAcks]
        ++ Trunk.all.flatMap fun t => [(s.port t).stats.framesSent, (s.port t).stats.framesReceived,
          (s.port t).stats.entriesBegun, (s.port t).stats.entriesAcked, (s.port t).stats.duplicates,
          (s.port t).stats.protocolRestarts]).flatMap fun v => beBytes 4 v.toNat) := rfl

theorem State.queryBody_length (s : State) (t : Trunk) : (s.queryBody t).length = 148 := by
  simp [State.queryBody, State.budgetStatus, Port.lockStatus, Port.peerStatus, Supervisor.status, TestUnit.status,
    configBlock_length, stagedBlock_length, headCyclesBytes_eq]

theorem answerTrunkQuery_ok {body : List Byte} (s : State) {t : Trunk} (ht : fieldAt body 0 1 = t.index) :
    answerTrunkQuery body s = ⟨s, .ok, s.queryBody t⟩ := by
  rw [answerTrunkQuery, parseFirst, ht, forTrunk_index]

/-- Settles O12: the statistics in order, and the query's items in the order of Table 10-9. -/
theorem statsAndTrunkQuery : Obligations.StatsAndTrunkQuery := by
  refine ⟨fun w s hw => ?_, fun w s t hw ht => ?_, fun w s hw habove => ?_⟩
  · rw [hw.exec_eq rfl rfl, ← State.requestTaken_stats]
    rfl
  · intro p x bit left
    refine ⟨s.requestTaken.queryBody t, ?_, s.requestTaken.queryBody_length t, ?_⟩
    · rw [hw.exec_eq rfl rfl, answerTrunkQuery_ok s.requestTaken ht]
      rfl
    · have htimer : ∀ y, timerLeft s.now y = left y := fun y => by cases y <;> rfl
      simp only [State.queryBody, State.budgetStatus, Port.lockStatus, Port.peerStatus, Supervisor.status, TestUnit.status,
        headCyclesBytes_eq, bitsToNat_two, bitsToNat_five, List.append_assoc]
      rfl
  · rw [hw.exec_eq rfl rfl, answerTrunkQuery, parseFirst, forTrunk_above _ _ _ habove]
    rfl

/-! ## COUNTER_READ and COUNTER_WRITE -/

theorem answerCounterRead_ok {body : List Byte} (s : State) {t : Trunk} (ht : fieldAt body 0 1 = t.index) :
    answerCounterRead body s = ⟨s, .ok, s.counterBody t⟩ := by
  rw [answerCounterRead, parseFirst, ht, forTrunk_index]

/-- Some value that is to be written is above 255. -/
theorem CounterReq.tooLarge_iff (b : List Byte) : (parseCounter b).tooLarge = true ↔
    ∃ i, i < 3 ∧ (fieldAt b 1 1).testBit i = true ∧ 255 < fieldAt b (4 + 2 * i) 2 := by
  simp only [CounterReq.tooLarge, parseCounter, bitOf, Bool.or_eq_true, Bool.and_eq_true]
  constructor
  · rintro ((⟨hon, hv⟩ | ⟨hon, hv⟩) | ⟨hon, hv⟩)
    · exact ⟨0, by omega, hon, of_decide_eq_true hv⟩
    · exact ⟨1, by omega, hon, of_decide_eq_true hv⟩
    · exact ⟨2, by omega, hon, of_decide_eq_true hv⟩
  · rintro ⟨i, hi, hon, hv⟩
    match i, hi with
    | 0, _ => exact .inl (.inl ⟨hon, decide_eq_true hv⟩)
    | 1, _ => exact .inl (.inr ⟨hon, decide_eq_true hv⟩)
    | 2, _ => exact .inr ⟨hon, decide_eq_true hv⟩

theorem answerCounterWrite_refused {body : List Byte} (s : State) {t : Trunk} (ht : fieldAt body 0 1 = t.index)
    (h : (parseCounter body).tooLarge = true) : answerCounterWrite body s = ⟨s, .badArgument, zeroBody 4⟩ := by
  have htrunk : (parseCounter body).trunk = t.index := ht
  simp only [answerCounterWrite, htrunk, forTrunk_index, h, if_true]

theorem answerCounterWrite_ok {body : List Byte} (s : State) {t : Trunk} (ht : fieldAt body 0 1 = t.index)
    (h : ¬ (parseCounter body).tooLarge = true) : answerCounterWrite body s =
      ⟨s.setSup t { s.sup t with counters := (parseCounter body).written (s.sup t).counters }, .ok,
        (s.setSup t { s.sup t with counters := (parseCounter body).written (s.sup t).counters }).counterBody t⟩ := by
  have htrunk : (parseCounter body).trunk = t.index := ht
  simp only [answerCounterWrite, htrunk, forTrunk_index, if_neg h]

/-- Settles O14: the trunk number, then the values to be written. -/
theorem counterReadAndWrite : Obligations.CounterReadAndWrite := by
  refine ⟨fun w s t hw ht => ?_, fun w s t hw ht => ⟨fun hlarge => ?_, fun hsmall => ?_⟩, fun w s hw habove => ?_,
    fun w s hw habove => ?_⟩
  · rw [hw.exec_eq rfl rfl, answerCounterRead_ok s.requestTaken ht]
    rfl
  · rw [hw.exec_eq rfl rfl, answerCounterWrite_refused s.requestTaken ht ((CounterReq.tooLarge_iff _).mpr hlarge)]
    rfl
  · have hfits : ¬ (parseCounter w.body).tooLarge = true := by
      rw [CounterReq.tooLarge_iff]
      rintro ⟨i, hi, hon, hv⟩
      exact absurd hv (Nat.not_lt.mpr (hsmall i hi hon))
    rw [hw.exec_eq rfl rfl, answerCounterWrite_ok s.requestTaken ht hfits]
    simp only [Answer.replied, State.counterBody, State.sup_setSup_self]
    rfl
  · rw [hw.exec_eq rfl rfl, answerCounterRead, parseFirst, forTrunk_above _ _ _ habove]
    rfl
  · have htrunk : 3 < (parseCounter w.body).trunk := habove
    rw [hw.exec_eq rfl rfl, answerCounterWrite, forTrunk_above _ _ _ htrunk]
    rfl

/-! ## The issue of a stamp and SET_SITE -/

/-- The issue, from the pair that Table 2-3 gives. -/
theorem State.issue_eq {s : State} (site : Nat) {l c : Nat} {borrow : Bool}
    (h : issuePair s.siteClock s.clock.l s.clock.c = some (l, c, borrow)) :
    s.issue site = some (packStamp l c site,
      if borrow then (s.setClock { s.clock with l := l, c := c }).borrowed else s.setClock { s.clock with l := l, c := c }) := by
  simp only [State.issue, h]

theorem answerSetSite_refused {body : List Byte} {s : State} {r : Result} (h : s.siteRefusal (fieldAt body 0 1) = some r) :
    answerSetSite body s = ⟨s, r, zeroBody 16⟩ := by
  simp only [answerSetSite, parseFirst, h]

theorem State.siteRefusal_none {s : State} {site : Nat} (hsite : site ≤ 63) (hnone : s.clock.site = none)
    (hset : s.clock.set = true) : s.siteRefusal site = none := by
  rw [State.siteRefusal, if_neg (Nat.not_lt.mpr hsite), hnone, hset]
  rfl

theorem answerSetSite_exhausted {body : List Byte} {s : State} (h : s.siteRefusal (fieldAt body 0 1) = none)
    (hissue : s.issue (fieldAt body 0 1) = none) : answerSetSite body s = ⟨s, .clockExhausted, zeroBody 16⟩ := by
  simp only [answerSetSite, parseFirst, h, hissue]

theorem answerSetSite_ok {body : List Byte} {s s1 : State} {x : Stamp} (h : s.siteRefusal (fieldAt body 0 1) = none)
    (hissue : s.issue (fieldAt body 0 1) = some (x, s1)) : answerSetSite body s =
      ⟨s1.setClock { s1.clock with site := some (fieldAt body 0 1), incarnation := some x }, .ok,
        beBytes 1 (fieldAt body 0 1) ++ beBytes 7 0 ++ beBytes 8 x.toNat⟩ := by
  simp only [answerSetSite, parseFirst, h, hissue]

/-- Settles O17: the rows of Table 2-3, and the checks of R37 in their order. -/
theorem stampIssueAndSetSite : Obligations.StampIssueAndSetSite := by
  refine ⟨fun _ => rfl, fun s site hl => ?_, fun s site hl hc => ?_, fun s site hl hc hmax => ?_, fun s site hl hc hmax => ?_,
    fun w s hw => ⟨fun habove => ?_, fun hsite hset => ?_, fun hsite hnone hclear => ?_, fun hsite hnone hset hissue => ?_,
      fun x s1 hsite hnone hset hissue => ?_⟩⟩
  · rw [State.issue_eq site (if_pos hl)]
    rfl
  · rw [State.issue_eq site ((if_neg (Nat.not_lt.mpr hl)).trans (if_pos hc))]
    rfl
  · have hpair : issuePair s.siteClock s.clock.l s.clock.c = some (s.clock.l + 1, 0, true) := by
      rw [issuePair, if_neg (Nat.not_lt.mpr hl), hc, if_neg (Nat.lt_irrefl _)]
      exact if_pos hmax
    rw [State.issue_eq site hpair]
    rfl
  · have hpair : issuePair s.siteClock s.clock.l s.clock.c = none := by
      rw [issuePair, if_neg (Nat.not_lt.mpr hl), hc, if_neg (Nat.lt_irrefl _), hmax]
      exact if_neg (Nat.lt_irrefl _)
    simp only [State.issue, hpair]
  · have hrefusal : s.requestTaken.siteRefusal (fieldAt w.body 0 1) = some .badArgument := if_pos habove
    rw [hw.exec_eq rfl rfl, answerSetSite_refused hrefusal]
    rfl
  · have hrefusal : s.requestTaken.siteRefusal (fieldAt w.body 0 1) = some .wrongState :=
      (if_neg (Nat.not_lt.mpr hsite)).trans (if_pos (Option.isSome_iff_ne_none.mpr hset))
    rw [hw.exec_eq rfl rfl, answerSetSite_refused hrefusal]
    rfl
  · have hrefusal : s.requestTaken.siteRefusal (fieldAt w.body 0 1) = some .notReady := by
      rw [State.siteRefusal, if_neg (Nat.not_lt.mpr hsite), State.requestTaken_clock, hnone, hclear]
      rfl
    rw [hw.exec_eq rfl rfl, answerSetSite_refused hrefusal]
    rfl
  · rw [hw.exec_eq rfl rfl, answerSetSite_exhausted (s := s.requestTaken) (State.siteRefusal_none hsite hnone hset) hissue]
    rfl
  · rw [hw.exec_eq rfl rfl, answerSetSite_ok (s := s.requestTaken) (State.siteRefusal_none hsite hnone hset) hissue]
    rfl

/-! ## The merge of a received stamp -/

/-- Settles O18: the skew clamp gives the time and counter that Table 2-4 is read with. -/
theorem mergeFollowsTable : Obligations.MergeFollowsTable := by
  intro s x pt clamp lm cm nl nc x1
  have hclamp : skewClamp s.siteClock s.clock.skew (stampTime x) (stampCounter x) = (lm, cm, decide clamp) := by
    by_cases h : clamp
    · simp only [lm, cm, if_pos h, decide_eq_true h]
      exact if_pos h
    · simp only [lm, cm, if_neg h, decide_eq_false h]
      exact if_neg h
  have hmerge : s.merge x =
      let m := mergePair s.siteClock s.clock.l s.clock.c lm cm
      let s2 := (s.setSli x1).setClock { s.clock with l := m.1, c := m.2.1 }
      if m.2.2 then s2.borrowed else s2 := by
    rw [State.merge, hclamp]
    by_cases h : clamp
    · simp only [x1, if_pos h, decide_eq_true h, if_true]
      rfl
    · simp only [x1, if_neg h, decide_eq_false h, Bool.false_eq_true, if_false]
      rfl
  refine ⟨fun hsmall => ?_, fun hlarge hmax => ?_, fun hlarge hmax => ?_⟩
  · have hpair : mergePair s.siteClock s.clock.l s.clock.c lm cm = (nl, nc, false) := if_pos hsmall
    rw [hmerge, hpair]
    rfl
  · have hpair : mergePair s.siteClock s.clock.l s.clock.c lm cm = (nl + 1, 0, true) :=
      (if_neg (Nat.not_lt.mpr hlarge)).trans (if_pos hmax)
    rw [hmerge, hpair]
    rfl
  · have hpair : mergePair s.siteClock s.clock.l s.clock.c lm cm = (nl, 65535, false) :=
      (if_neg (Nat.not_lt.mpr hlarge)).trans (if_neg (Nat.not_lt.mpr hmax))
    rw [hmerge, hpair]
    rfl

end Sys2Proof.Machine

/-! # The bucket table: BUCKET_SET refused, and on a bucket that is not ABSENT -/

namespace Sys2Proof

/-! ## Values written trunk by trunk -/

theorem Quad.ext_get {α : Type} {p q : Quad α} (h : ∀ t, p.get t = q.get t) : p = q := by
  obtain ⟨p0, p1, p2, p3⟩ := p
  obtain ⟨q0, q1, q2, q3⟩ := q
  have h0 : p0 = q0 := h .t0
  have h1 : p1 = q1 := h .t1
  have h2 : p2 = q2 := h .t2
  have h3 : p3 = q3 := h .t3
  rw [h0, h1, h2, h3]

/-- The values of the trunks listed, each changed as its turn comes. -/
def Quad.change {α : Type} (g : α → α) (q : Quad α) (l : List Trunk) : Quad α := l.foldl (fun q t => q.set t (g (q.get t))) q

theorem Quad.get_change {α : Type} (g : α → α) {l : List Trunk} (hl : l.Nodup) :
    ∀ (q : Quad α) (u : Trunk), (q.change g l).get u = if u ∈ l then g (q.get u) else q.get u := by
  induction l with
  | nil => exact fun q u => by simp [Quad.change]
  | cons t l ih =>
    intro q u
    obtain ⟨hnot, hl'⟩ := List.nodup_cons.mp hl
    have hstep : (q.change g (t :: l)).get u = ((q.set t (g (q.get t))).change g l).get u := rfl
    rw [hstep, ih hl', Machine.Quad.get_set]
    by_cases hu : u = t
    · subst hu
      simp [hnot]
    · simp [hu]

end Sys2Proof

namespace Sys2Proof.Machine

/-! ## The checks of R2 -/

theorem requestedState_none {n : Nat} (h : n ∉ [1, 2, 3]) : requestedState n = none := by
  unfold requestedState
  split <;> simp_all

theorem requestedState_some {n : Nat} (h : n ∈ [1, 2, 3]) : ∃ st, requestedState n = some st := by
  simp only [List.mem_cons, List.not_mem_nil, or_false] at h
  rcases h with rfl | rfl | rfl <;> exact ⟨_, rfl⟩

theorem bandOf_none {n : Nat} (h : 1 < n) : bandOf n = none := by
  unfold bandOf
  split <;> simp_all

theorem bandOf_some {n : Nat} (h : n ≤ 1) : ∃ band, bandOf n = some band := by
  match n, h with
  | 0, _ => exact ⟨_, rfl⟩
  | 1, _ => exact ⟨_, rfl⟩

theorem State.peerless_iff (s : State) (targets : Quad Bool) :
    s.peerless targets = true ↔ ∃ t, targets.get t = true ∧ (s.port t).config.peer = none := by
  unfold State.peerless
  rw [List.any_eq_true]
  constructor
  · rintro ⟨t, -, ht⟩
    obtain ⟨hnamed, hnone⟩ := Bool.and_eq_true_iff.mp ht
    exact ⟨t, hnamed, Option.isNone_iff_eq_none.mp hnone⟩
  · rintro ⟨t, hnamed, hnone⟩
    exact ⟨t, by cases t <;> decide, by rw [hnamed, hnone]; rfl⟩

/-- Step 1 of R2. -/
theorem answerBucketSet_outOfDomain {body : List Byte} (s : State)
    (h : 4095 < (parseBucket body).bucket ∨ (parseBucket body).state ∉ [1, 2, 3] ∨ 1 < (parseBucket body).band) :
    answerBucketSet body s = ⟨s, .badArgument, zeroBody 16⟩ := by
  have hlimit : Config.buckets = 4096 := rfl
  unfold answerBucketSet
  dsimp only
  split
  · next hid hstate hband =>
    rcases h with h | h | h
    · simp only [hlimit, decide_eq_true_eq] at hid
      omega
    · rw [requestedState_none h] at hstate
      cases hstate
    · rw [bandOf_none h] at hband
      cases hband
  · rfl

/-- Step 2 of R2. -/
theorem answerBucketSet_peerless {body : List Byte} {s : State} (h : s.peerless (parseBucket body).targets = true) :
    answerBucketSet body s = ⟨s, .badArgument, zeroBody 16⟩ := by
  unfold answerBucketSet
  dsimp only
  split
  · exact if_pos h
  · rfl

/-- Step 3 of R2: DRAINING for an ABSENT bucket. -/
theorem answerBucketSet_noBucket {body : List Byte} {s : State} {band : Band} (hid : (parseBucket body).bucket < 4096)
    (hstate : (parseBucket body).state = 3) (hband : bandOf (parseBucket body).band = some band)
    (hpeers : s.peerless (parseBucket body).targets = false) (habsent : (s.bucket (parseBucket body).bucket).state = .absent) :
    answerBucketSet body s = ⟨s, .noBucket, zeroBody 16⟩ := by
  have hlimit : decide ((parseBucket body).bucket < Config.buckets) = true := decide_eq_true hid
  have hrequested : requestedState (parseBucket body).state = some .draining := by rw [hstate]; rfl
  simp only [answerBucketSet, hlimit, hrequested, hband, hpeers, Bool.false_eq_true, if_false, habsent, and_self, if_true]

/-- Settles O22: the three steps of R2 that refuse. -/
theorem bucketSetRefused : Obligations.BucketSetRefused := by
  intro w s hw b new first second
  refine ⟨fun hbad => ?_, fun hfirst hsecond habsent hdrain => ?_⟩
  · have hanswer : answerBucketSet w.body s.requestTaken = ⟨s.requestTaken, .badArgument, zeroBody 16⟩ := by
      rcases hbad with h | h
      · exact answerBucketSet_outOfDomain _ h
      · exact answerBucketSet_peerless ((State.peerless_iff _ _).mpr h)
    rw [hw.exec_eq rfl rfl, hanswer]
    rfl
  · have hpeers : s.requestTaken.peerless new = false := by
      rw [← Bool.not_eq_true, State.peerless_iff]
      exact hsecond
    simp only [first, not_or, not_not, Nat.not_lt] at hfirst
    obtain ⟨hid, -, hcode⟩ := hfirst
    obtain ⟨band, hband⟩ := bandOf_some hcode
    rw [hw.exec_eq rfl rfl,
      answerBucketSet_noBucket (s := s.requestTaken) (Nat.lt_succ_of_le hid) hdrain hband hpeers habsent]
    rfl

/-! ## Slots written one by one -/

theorem addedSlots_nodup (old new : Quad Bool) : (addedSlots old new).Nodup := by
  have hall : Trunk.all.Nodup := by decide
  exact hall.filter _

theorem removedSlots_nodup (old new : Quad Bool) : (removedSlots old new).Nodup := by
  have hall : Trunk.all.Nodup := by decide
  exact hall.filter _

theorem Trunk.mem_all (t : Trunk) : t ∈ Trunk.all := by cases t <;> decide

theorem mem_addedSlots (old new : Quad Bool) (t : Trunk) : t ∈ addedSlots old new ↔ new.get t = true ∧ old.get t = false := by
  simp [addedSlots, Trunk.mem_all]

theorem mem_removedSlots (old new : Quad Bool) (t : Trunk) :
    t ∈ removedSlots old new ↔ old.get t = true ∧ new.get t = false := by
  simp [removedSlots, Trunk.mem_all]

/-! ## A bucket's target set changed -/

/-- The record of a bucket after slots are added (R7). -/
def Bucket.withSlots (r : Bucket) (l : List Trunk) : Bucket :=
  { r with
    targets := r.targets.change (fun _ => true) l
    epochs := r.epochs.change raiseEpoch l
    rebase := r.rebase.change (fun _ => true) l }

/-- The record of a bucket after slots are removed (R8). -/
def Bucket.withoutSlots (r : Bucket) (l : List Trunk) : Bucket :=
  { r with targets := r.targets.change (fun _ => false) l, rebase := r.rebase.change (fun _ => false) l }

/-- Slots added join an unsealed entry (R7). -/
def JEntry.withSlots (e : JEntry) (l : List Trunk) : JEntry :=
  { e with peers := if e.seq.isNone then e.peers.change (fun _ => some .queued) l else e.peers }

/-- Slots removed leave an entry (R8). -/
def JEntry.withoutSlots (e : JEntry) (l : List Trunk) : JEntry := { e with peers := e.peers.change (fun _ => none) l }

/-- The entries of one bucket are changed, and its record; nothing else. -/
structure BucketMoved (s u : State) (b : Nat) (g : JEntry → JEntry) (r : Bucket) : Prop where
  entries : u.journal.entries = s.journal.entries.map fun e => if e.bucket = b then g e else e
  gens : u.journal.gens = s.journal.gens
  record : u.bucket b = r
  others : ∀ b', b' ≠ b → u.bucket b' = s.bucket b'
  frame : u = { s with journal := u.journal, buckets := u.buckets }

theorem BucketMoved.setBucket (s : State) (b : Nat) (r : Bucket) : BucketMoved s (s.setBucket b r) b id r where
  entries := by simp
  gens := rfl
  record := s.setBucket_bucket_self b r
  others _ hb := Table.get_set_ne _ _ _ hb
  frame := rfl

theorem BucketMoved.trans {s u v : State} {b : Nat} {g h : JEntry → JEntry} {r r' : Bucket} (hsu : BucketMoved s u b g r)
    (huv : BucketMoved u v b h r') (hkeep : ∀ e, (g e).bucket = e.bucket) : BucketMoved s v b (h ∘ g) r' where
  entries := by
    rw [huv.entries, hsu.entries, List.map_map]
    refine List.map_congr_left fun e _ => ?_
    by_cases he : e.bucket = b
    · simp [he, hkeep e]
    · simp [he]
  gens := huv.gens.trans hsu.gens
  record := huv.record
  others b' hb := (huv.others b' hb).trans (hsu.others b' hb)
  frame := by
    rw [huv.frame, hsu.frame]

theorem State.addTarget_moved (s : State) (b : Nat) (t : Trunk) :
    BucketMoved s (State.addTarget b s t) b (fun e => e.withSlots [t]) ((s.bucket b).withSlots [t]) where
  entries := by
    have hmap : (fun e : JEntry => if e.bucket = b ∧ e.seq.isNone = true then { e with peers := e.peers.set t (some .queued) } else e)
        = fun e => if e.bucket = b then e.withSlots [t] else e := by
      funext e
      by_cases hb : e.bucket = b
      · subst hb
        cases e with
        | mk index gen bucket digest stamp change bodyState seq peers fill framesOut refillTag =>
          cases seq <;> simp [JEntry.withSlots, Quad.change]
      · simp [hb]
    rw [← hmap]
    rfl
  gens := rfl
  record := s.setBucket_bucket_self b _
  others _ hb := Table.get_set_ne _ _ _ hb
  frame := rfl

theorem State.removeTarget_moved (s : State) (b : Nat) (t : Trunk) :
    BucketMoved s (State.removeTarget b s t) b (fun e => e.withoutSlots [t]) ((s.bucket b).withoutSlots [t]) where
  entries := by
    have hmap : (fun e : JEntry => if (e.bucket == b) = true then e.dropSlot t else e)
        = fun e => if e.bucket = b then e.withoutSlots [t] else e := by
      funext e
      by_cases hb : e.bucket = b <;> simp [JEntry.withoutSlots, JEntry.dropSlot, Quad.change, hb]
    rw [← hmap]
    rfl
  gens := rfl
  record := s.setBucket_bucket_self b _
  others _ hb := Table.get_set_ne _ _ _ hb
  frame := rfl

theorem JEntry.withSlots_cons (t : Trunk) (l : List Trunk) :
    (fun e : JEntry => e.withSlots (t :: l)) = (fun e => e.withSlots l) ∘ fun e => e.withSlots [t] := by
  funext e
  cases hseq : e.seq <;> simp [JEntry.withSlots, Quad.change, hseq]

/-- Slots added one after another (R7). -/
theorem State.addTargets_moved (b : Nat) (l : List Trunk) : ∀ s : State,
    BucketMoved s (l.foldl (State.addTarget b) s) b (fun e => e.withSlots l) ((s.bucket b).withSlots l) := by
  induction l with
  | nil =>
    intro s
    refine ⟨?_, rfl, rfl, fun _ _ => rfl, rfl⟩
    have hid : (fun e : JEntry => if e.bucket = b then e.withSlots [] else e) = id := by
      funext e
      simp [JEntry.withSlots, Quad.change]
    rw [hid, List.map_id]
    rfl
  | cons t l ih =>
    intro s
    have hstep := s.addTarget_moved b t
    have hrest := ih (State.addTarget b s t)
    rw [hstep.record] at hrest
    rw [JEntry.withSlots_cons]
    exact hstep.trans hrest fun _ => rfl

/-- Slots removed one after another (R8). -/
theorem State.removeTargets_moved (b : Nat) (l : List Trunk) : ∀ s : State,
    BucketMoved s (l.foldl (State.removeTarget b) s) b (fun e => e.withoutSlots l) ((s.bucket b).withoutSlots l) := by
  induction l with
  | nil =>
    intro s
    refine ⟨?_, rfl, rfl, fun _ _ => rfl, rfl⟩
    have hid : (fun e : JEntry => if e.bucket = b then e.withoutSlots [] else e) = id := by
      funext e
      simp [JEntry.withoutSlots, Quad.change]
    rw [hid, List.map_id]
    rfl
  | cons t l ih =>
    intro s
    have hstep := s.removeTarget_moved b t
    have hrest := ih (State.removeTarget b s t)
    rw [hstep.record] at hrest
    exact hstep.trans hrest fun _ => rfl

/-! ## Emptied entries -/

/-- Removals, one after another, less the drain tests. -/
theorem State.foldTake_eq (l : List JEntry) : ∀ s : State, l.foldl State.takeOut s = { s with
    journal := { s.journal with entries := s.journal.entries.filter fun y => !l.any fun e => e.index == y.index }
    body := bodyAfter s.body l
    map := mapAfter s.map l } := by
  intro s
  rw [← State.foldTake_journal, ← State.foldTake_body, ← State.foldTake_map]
  induction l generalizing s with
  | nil => rfl
  | cons e l ih =>
    rw [List.foldl_cons, ih, State.takeOut_eq]

/-- With no position twice, the entries at the positions of the emptied ones are those. -/
theorem State.filter_emptied {s : State} (hpositions : (s.journal.entries.map (·.index)).Nodup) :
    (s.journal.entries.filter fun y => !s.emptied.any fun e => e.index == y.index)
      = s.journal.entries.filter fun y => !y.noPending := by
  refine List.filter_congr fun y hy => ?_
  congr 1
  rw [Bool.eq_iff_iff, List.any_eq_true]
  constructor
  · rintro ⟨e, he, hi⟩
    obtain ⟨hmem, hempty⟩ := List.mem_filter.mp he
    have hsame : e = y := List.inj_on_of_nodup_map hpositions hmem hy (by simpa using hi)
    rw [← hsame]
    exact hempty
  · exact fun hempty => ⟨y, List.mem_filter.mpr ⟨hy, hempty⟩, by simp⟩

/-! ## BUCKET_SET on a bucket that is not ABSENT -/

theorem requestedState_code {state : BucketState} (h : state ≠ .absent) : requestedState state.code = some state := by
  cases state with
  | absent => exact absurd rfl h
  | _ => rfl

/-- An entry of a bucket whose target set changes (R7, R8). -/
def JEntry.retargeted (old new : Quad Bool) (e : JEntry) : JEntry :=
  (e.withSlots (addedSlots old new)).withoutSlots (removedSlots old new)

/-- The record of a bucket whose target set changes (R7, R8). -/
def Bucket.retargeted (r : Bucket) (new : Quad Bool) : Bucket :=
  (r.withSlots (addedSlots r.targets new)).withoutSlots (removedSlots r.targets new)

theorem JEntry.retargeted_peers_get (old new : Quad Bool) (e : JEntry) (t : Trunk) :
    (e.retargeted old new).peers.get t = if old.get t && !new.get t then none
      else if new.get t && !old.get t && e.seq.isNone then some PeerState.queued
      else e.peers.get t := by
  have hwith : (e.withSlots (addedSlots old new)).peers.get t =
      if new.get t && !old.get t && e.seq.isNone then some PeerState.queued else e.peers.get t := by
    unfold JEntry.withSlots
    cases e.seq with
    | none =>
      simp only [Option.isNone_none, if_true, Quad.get_change _ (addedSlots_nodup old new), mem_addedSlots]
      simp
    | some n => simp
  show ((e.withSlots (addedSlots old new)).peers.change (fun _ => none) (removedSlots old new)).get t = _
  simp only [Quad.get_change _ (removedSlots_nodup old new), mem_removedSlots, hwith]
  simp

theorem Bucket.retargeted_targets (r : Bucket) (new : Quad Bool) : (r.retargeted new).targets = new := by
  refine Quad.ext_get fun t => ?_
  show ((r.targets.change (fun _ => true) (addedSlots r.targets new)).change (fun _ => false)
    (removedSlots r.targets new)).get t = _
  simp only [Quad.get_change _ (removedSlots_nodup _ _), Quad.get_change _ (addedSlots_nodup _ _), mem_removedSlots,
    mem_addedSlots]
  cases r.targets.get t <;> cases new.get t <;> simp

theorem Bucket.retargeted_rebase_get (r : Bucket) (new : Quad Bool) (t : Trunk) : (r.retargeted new).rebase.get t =
    (new.get t && (!r.targets.get t || r.rebase.get t) || (!new.get t && !r.targets.get t && r.rebase.get t)) := by
  show ((r.rebase.change (fun _ => true) (addedSlots r.targets new)).change (fun _ => false)
    (removedSlots r.targets new)).get t = _
  simp only [Quad.get_change _ (removedSlots_nodup _ _), Quad.get_change _ (addedSlots_nodup _ _), mem_removedSlots,
    mem_addedSlots]
  cases r.targets.get t <;> cases new.get t <;> simp

theorem Bucket.retargeted_epochs_get (r : Bucket) (new : Quad Bool) (t : Trunk) : (r.retargeted new).epochs.get t =
    if new.get t && !r.targets.get t then (r.epochs.get t + 1) % 65536 else r.epochs.get t := by
  show (r.epochs.change raiseEpoch (addedSlots r.targets new)).get t = _
  simp only [Quad.get_change _ (addedSlots_nodup _ _), mem_addedSlots]
  simp [raiseEpoch]

/-- The emptied entries have left (R29). -/
def State.withoutEmptied (v : State) : State :=
  { v with
    journal := { v.journal with entries := v.journal.entries.filter fun e => !e.noPending }
    body := bodyAfter v.body v.emptied
    map := mapAfter v.map v.emptied }

theorem State.takeEmptied_eq {v : State} (hpositions : (v.journal.entries.map (·.index)).Nodup) :
    v.emptied.foldl State.takeOut v = v.withoutEmptied := by
  rw [State.foldTake_eq, State.filter_emptied hpositions]
  rfl

/-- The target set changed, entry by entry, and the emptied entries gone. -/
theorem State.retarget_moved {s : State} (b : Nat) (new : Quad Bool) (hpositions : (s.journal.entries.map (·.index)).Nodup) :
    ∃ v, BucketMoved s v b (JEntry.retargeted (s.bucket b).targets new) ((s.bucket b).retargeted new)
      ∧ s.retarget b new = v.withoutEmptied := by
  have hadd := s.addTargets_moved b (addedSlots (s.bucket b).targets new)
  have hremove := State.removeTargets_moved b (removedSlots (s.bucket b).targets new)
    ((addedSlots (s.bucket b).targets new).foldl (State.addTarget b) s)
  rw [hadd.record] at hremove
  have hmoved := hadd.trans hremove fun _ => rfl
  refine ⟨_, hmoved, ?_⟩
  refine State.takeEmptied_eq ?_
  rw [hmoved.entries, JEntry.map_index]
  · exact hpositions
  · intro e
    split <;> rfl

/-- An accepted BUCKET-SET on a bucket that is not ABSENT: target set, state and band, then the drain test. -/
theorem State.setUpBucket_moved {s : State} {b : Nat} (state : BucketState) (new : Quad Bool) (band : Band)
    (hpositions : (s.journal.entries.map (·.index)).Nodup) (hexists : (s.bucket b).state ≠ .absent) :
    ∃ v, BucketMoved s v b (JEntry.retargeted (s.bucket b).targets new)
        (({ s.bucket b with state := state } : Bucket).retargeted new)
      ∧ s.setUpBucket b state new band = ((v.withoutEmptied.setBucket b { ({ s.bucket b with state := state } :
        Bucket).retargeted new with band := band }).drainTest b).refillRefresh := by
  have hstate := BucketMoved.setBucket s b { s.bucket b with state := state }
  obtain ⟨v, hv, heq⟩ := State.retarget_moved (s := s.setBucket b { s.bucket b with state := state }) b new hpositions
  rw [State.setBucket_bucket_self] at hv
  refine ⟨v, hstate.trans hv fun _ => rfl, ?_⟩
  have hrecord : v.withoutEmptied.bucket b = ({ s.bucket b with state := state } : Bucket).retargeted new := hv.record
  rw [State.setUpBucket, if_neg hexists, ← hrecord, ← heq]

/-- The entries that a target change takes out are those of the bucket left without a slot (R8, R29). -/
theorem BucketMoved.emptied {s v : State} {b : Nat} {g : JEntry → JEntry} {r : Bucket} (h : BucketMoved s v b g r)
    (hs : EntriesOk s.journal.entries) :
    v.emptied = (s.journal.entries.filter fun e => e.bucket == b && (g e).noPending).map
      fun e => if e.bucket = b then g e else e := by
  have hsel : ∀ e ∈ s.journal.entries,
      ((fun e : JEntry => e.noPending) ∘ fun e => if e.bucket = b then g e else e) e
        = (e.bucket == b && (g e).noPending) := by
    intro e he
    by_cases hb : e.bucket = b
    · simp [hb]
    · simp [hb, hs.pending e he]
  rw [State.emptied, h.entries, List.filter_map, List.filter_congr hsel]

/-- A bucket set up, before the refill queue follows: its entries moved, those left without a slot gone, and its record r
after the drain test. -/
structure BucketSetUp (s y : State) (b : Nat) (g : JEntry → JEntry) (r : Bucket) : Prop where
  entries : y.journal.entries = (s.journal.entries.map fun e => if e.bucket = b then g e else e).filter fun e => !e.noPending
  map : y.map = mapAfter s.map (s.journal.entries.filter fun e => e.bucket == b && (g e).noPending)
  body : y.body = bodyAfter s.body (s.journal.entries.filter fun e => e.bucket == b && (g e).noPending)
  passed : r.state = .draining → (∀ e ∈ y.journal.entries, e.bucket ≠ b) →
    y.bucket b = { r with state := .absent, targets := .all false, band := .express, rebase := .all false }
  stays : ¬ (r.state = .draining ∧ ∀ e ∈ y.journal.entries, e.bucket ≠ b) → y.bucket b = r
  others : ∀ b', b' ≠ b → y.bucket b' = s.bucket b'
  frame : y = { s with journal := ⟨y.journal.entries, s.journal.gens⟩, buckets := y.buckets, body := y.body, map := y.map }

theorem JEntry.retargeted_keeps (old new : Quad Bool) (b : Nat) (e : JEntry) :
    let x := if e.bucket = b then e.retargeted old new else e
    (x.bucket = e.bucket ∧ x.digest = e.digest ∧ x.seq = e.seq) ∧ x.index = e.index ∧ x.fill = e.fill := by
  dsimp only
  split <;> exact ⟨⟨rfl, rfl, rfl⟩, rfl, rfl⟩

theorem State.setUpBucket_effect {s : State} {b : Nat} (state : BucketState) (new : Quad Bool) (band : Band)
    (hs : EntriesOk s.journal.entries) (hexists : (s.bucket b).state ≠ .absent) :
    ∃ y, s.setUpBucket b state new band = y.refillRefresh
      ∧ BucketSetUp s y b (JEntry.retargeted (s.bucket b).targets new)
        { ({ s.bucket b with state := state } : Bucket).retargeted new with band := band } := by
  obtain ⟨v, hv, hset⟩ := State.setUpBucket_moved state new band hs.positions hexists
  refine ⟨_, hset, ?_⟩
  generalize hr : ({ ({ s.bucket b with state := state } : Bucket).retargeted new with band := band } : Bucket) = r
  have hdrained := (v.withoutEmptied.setBucket b r).drainTest_drained b
  have hrecord : (v.withoutEmptied.setBucket b r).bucket b = r := State.setBucket_bucket_self _ _ _
  rw [State.drainTest_eq] at hdrained ⊢
  have hkeeps := JEntry.retargeted_keeps (s.bucket b).targets new b
  have hempty := hv.emptied hs
  refine ⟨?_, ?_, ?_, fun hstate => ?_, ?_, fun b' hb' => ?_, ?_⟩
  · exact congrArg (List.filter fun e => !e.noPending) hv.entries
  · show mapAfter v.map v.emptied = _
    rw [hempty, mapAfter_congr _ _ _ fun e => (hkeeps e).1, hv.frame]
  · show bodyAfter v.body v.emptied = _
    rw [hempty, bodyAfter_congr _ _ _ fun e => (hkeeps e).2, hv.frame]
  · have hpassed := hdrained.passed
    rw [hrecord] at hpassed
    exact hpassed hstate
  · have hstays := hdrained.stays
    rw [hrecord] at hstays
    exact hstays
  · have hother : (v.withoutEmptied.setBucket b r).bucket b' = v.bucket b' := Table.get_set_ne _ _ _ hb'
    exact (hdrained.others b' hb').trans (hother.trans (hv.others b' hb'))
  · rw [← hv.gens]
    exact congrArg (fun x : State => ({ x with journal := _, buckets := _, body := _, map := _ } : State)) hv.frame

/-- Settles O23: the target change entry by entry and slot by slot, then the drain test. -/
theorem bucketRetargeted : Obligations.BucketRetargeted := by
  intro w s state band hw hentries b new old hid hcode hband hpeers hstate hexists slot moved
  obtain ⟨y, hset, hy⟩ := State.setUpBucket_effect (s := s.requestTaken) (b := b) state new band hentries hexists
  have hanswer := answerBucketSet_accepted (body := w.body) (s := s.requestTaken) hid
    ((congrArg requestedState hcode).trans (requestedState_code hstate))
    ((congrArg bandOf hband).trans (bandOf_code band)) (State.peerless_eq_false hpeers) (fun h => hexists h.1) hset
  have hslots : JEntry.retargeted old new = moved := by
    funext e
    have hquad : (e.retargeted old new).peers = ⟨slot e .t0, slot e .t1, slot e .t2, slot e .t3⟩ := by
      refine Quad.ext_get fun t => ?_
      rw [JEntry.retargeted_peers_get]
      cases t <;> rfl
    show { e with peers := (e.retargeted old new).peers } = moved e
    rw [hquad]
  have hsetUp : BucketSetUp s.requestTaken y b moved
      { ({ s.bucket b with state := state } : Bucket).retargeted new with band := band } := by
    rw [← hslots]
    exact hy
  refine ⟨y.refillRefresh.reply 0x03#8 w .ok (y.refillRefresh.bucketSetBody b), ?_, hsetUp.entries, ⟨hsetUp.map, ?_, ?_⟩, ?_,
    ⟨fun hgone => ?_, fun hstays => ?_, ?_⟩, hsetUp.others, ?_⟩
  · rw [hw.exec_eq rfl rfl, hanswer]
    rfl
  · exact congrArg (fun x : BodyStore => { x with refillQueue := y.refillRefresh.body.refillQueue }) hsetUp.body
  · exact RefillCurrent.congr rfl rfl rfl y.refillRefresh_current
  · have hsli : y.sli = s.requestTaken.sli := by rw [hsetUp.frame]
    exact congrArg (fun x : Sli => { x with replies := x.replies ++
      [(⟨0x03#8, false, true, w.tag.toNat, .ok, y.refillRefresh.bucketSetBody b⟩ : LinkRecord)] }) hsli
  · obtain ⟨hdraining, hnone⟩ := hgone
    have hbucket : y.bucket b = _ := hsetUp.passed hdraining hnone
    exact ⟨congrArg Bucket.state hbucket, congrArg Bucket.targets hbucket, congrArg Bucket.band hbucket,
      congrArg Bucket.rebase hbucket⟩
  · have hbucket : y.bucket b = _ := hsetUp.stays hstays
    refine ⟨congrArg Bucket.state hbucket, (congrArg Bucket.targets hbucket).trans (Bucket.retargeted_targets _ _),
      congrArg Bucket.band hbucket, fun t => ?_⟩
    exact (congrArg (fun x : Bucket => x.rebase.get t) hbucket).trans (Bucket.retargeted_rebase_get _ _ _)
  · have hkept : ∃ r, y.bucket b = r ∧ r.nextSeq = (s.bucket b).nextSeq ∧ r.seqLimit = (s.bucket b).seqLimit
        ∧ r.epochs = ((s.bucket b).retargeted new).epochs := by
      by_cases hgone : state = .draining ∧ ∀ e ∈ y.journal.entries, e.bucket ≠ b
      · exact ⟨_, hsetUp.passed hgone.1 hgone.2, rfl, rfl, rfl⟩
      · exact ⟨_, hsetUp.stays hgone, rfl, rfl, rfl⟩
    obtain ⟨r, hr, hseq, hlimit, hepochs⟩ := hkept
    refine ⟨(congrArg Bucket.nextSeq hr).trans hseq, (congrArg Bucket.seqLimit hr).trans hlimit, fun t => ?_⟩
    rw [← Bucket.retargeted_epochs_get, ← hepochs, ← hr]
    rfl
  · have hkept : y.now = s.now ∧ y.clock = s.clock ∧ y.journal.gens = s.journal.gens ∧ y.ports = s.ports ∧ y.sups = s.sups
        ∧ y.apply = s.apply := by
      rw [hsetUp.frame]
      exact ⟨rfl, rfl, rfl, rfl, rfl, rfl⟩
    exact hkept

end Sys2Proof.Machine

/-! # SUBMIT: the checks in their order -/

namespace Sys2Proof.Machine

/-! ## The first of several refusals -/

open Classical in
/-- The result that belongs to the first condition that holds. -/
noncomputable def firstRefusal : List (Prop × Result) → Option Result
  | [] => none
  | x :: l => if x.1 then some x.2 else firstRefusal l

theorem firstRefusal_none {l : List (Prop × Result)} (h : ∀ x ∈ l, ¬ x.1) : firstRefusal l = none := by
  induction l with
  | nil => rfl
  | cons x l ih =>
    rw [firstRefusal, if_neg (h x List.mem_cons_self)]
    exact ih fun y hy => h y (List.mem_cons_of_mem _ hy)

theorem firstRefusal_some {l : List (Prop × Result)} : ∀ {i : Nat}, i < l.length →
    (∀ j, j < i → ¬ (l.getD j (False, .ok)).1) → (l.getD i (False, .ok)).1 →
      firstRefusal l = some (l.getD i (False, .ok)).2 := by
  induction l with
  | nil => exact fun hi => absurd hi (Nat.not_lt_zero _)
  | cons x l ih =>
    intro i hi hbefore hhere
    match i with
    | 0 => exact if_pos hhere
    | i + 1 =>
      rw [firstRefusal, if_neg (show ¬ x.1 from hbefore 0 (Nat.succ_pos i))]
      exact ih (Nat.lt_of_succ_lt_succ hi) (fun j hj => hbefore (j + 1) (Nat.succ_lt_succ hj)) hhere

/-- One test in front of those that follow. -/
theorem firstRefusal_cons {c p : Prop} [Decidable c] {r : Result} {x : Option Result} {l : List (Prop × Result)} (h : c ↔ p)
    (hl : x = firstRefusal l) : (if c then some r else x) = firstRefusal ((p, r) :: l) := by
  by_cases hp : p
  · rw [if_pos (h.mpr hp), firstRefusal, if_pos hp]
  · rw [if_neg (mt h.mp hp), firstRefusal, if_neg hp, hl]

/-! ## The conditions of Table 1-5 -/

theorem Bucket.hasTarget_iff (r : Bucket) : r.hasTarget = true ↔ ∃ t, r.targets.get t = true := by
  unfold Bucket.hasTarget
  rw [List.any_eq_true]
  constructor
  · rintro ⟨b, hb, hset⟩
    simp only [Quad.toList, List.mem_cons, List.not_mem_nil, or_false, id] at hb hset
    rcases hb with h | h | h | h
    · exact ⟨.t0, h.symm.trans hset⟩
    · exact ⟨.t1, h.symm.trans hset⟩
    · exact ⟨.t2, h.symm.trans hset⟩
    · exact ⟨.t3, h.symm.trans hset⟩
  · rintro ⟨t, ht⟩
    exact ⟨r.targets.get t, by cases t <;> simp [Quad.toList, Quad.get], ht⟩

theorem SubmitReq.badPatch_iff (q : SubmitReq) : q.badPatch = true ↔
    ¬ (q.patches.map fun p => p.field).Nodup ∨ (∃ p ∈ q.patches, 31 < p.field ∨ 48 < p.value.length)
      ∨ 32 < q.patches.length ∨ q.kind = 3 ∧ q.patches ≠ [] := by
  have hkind : (q.kind == 3) = true ↔ q.kind = 3 := beq_iff_eq
  have hempty : q.patches.isEmpty = true ↔ q.patches = [] := List.isEmpty_iff
  have hall : (q.patches.all fun p => decide (p.field ≤ 31) && decide (p.value.length ≤ 48)) = true ↔
      ¬ ∃ p ∈ q.patches, 31 < p.field ∨ 48 < p.value.length := by simp
  have hlong : 32 < q.patches.length ↔ ¬ q.patches.length ≤ 32 := Nat.not_le.symm
  simp only [SubmitReq.badPatch, patchesOk, Bool.or_eq_true, Bool.not_eq_true', Bool.and_eq_true, ← Bool.not_eq_true, hempty,
    hkind, decide_eq_true_eq]
  rw [hall, hlong, not_and_or, not_and_or, not_not, or_assoc, or_assoc]

theorem State.mapFull_iff (s : State) (b : Nat) (d : Digest) : ((s.findObj b d).isNone = true ∧ s.mapHasRoom = false) ↔
    s.findObj b d = none ∧ 65536 ≤ s.map.length ∧ ∀ x ∈ s.map, x.pins ≠ 0 := by
  have hsize : Config.mapSize = 65536 := rfl
  rw [Option.isNone_iff_eq_none, State.mapHasRoom, hsize, Bool.or_eq_false_iff, decide_eq_false_iff_not, List.any_eq_false,
    Nat.not_lt]
  simp

theorem SubmitReq.slotsNeeded_pos_iff (q : SubmitReq) : 0 < q.slotsNeeded ↔ q.kind = 1 ∧ 0 < q.length := by
  unfold SubmitReq.slotsNeeded
  constructor
  · intro h
    split at h
    · next hk =>
      refine ⟨hk, Nat.pos_of_ne_zero fun hz => ?_⟩
      rw [hz] at h
      exact absurd h (by decide)
    · exact absurd h (Nat.lt_irrefl 0)
  · rintro ⟨hk, hpos⟩
    rw [if_pos hk]
    exact slotsFor_pos hpos.ne'

theorem slotsFor_eq (n : Nat) : slotsFor n = (n + 8127) / 8128 := by
  have hsize : Config.segBytes = 8128 := rfl
  rw [slotsFor, ceilDiv, hsize]
  omega

/-- The conditions of Table 1-5 in their order, with the codes. -/
def State.submitRefusals (s : State) (q : SubmitReq) : List (Prop × Result) :=
  let r := s.bucket q.bucket
  let e := s.unsealedOf q.bucket q.digest
  let held := match e.bind fun x => x.fill with
    | some f => f.slots
    | none => 0
  [(s.clock.set = false ∨ s.clock.site = none, .notReady),
    (r.state = .absent, .noBucket),
    (r.state = .draining, .draining),
    (q.kind = 1 ∧ 268435456 < q.length, .tooLarge),
    (¬ (q.patches.map fun p => p.field).Nodup ∨ (∃ p ∈ q.patches, 31 < p.field ∨ 48 < p.value.length)
      ∨ 32 < q.patches.length ∨ q.kind = 3 ∧ q.patches ≠ [], .badPatch),
    (q.kind = 2 ∧ e.map (fun x => x.change) = some .drop, .dropped),
    (s.findObj q.bucket q.digest = none ∧ 65536 ≤ s.map.length ∧ ∀ x ∈ s.map, x.pins ≠ 0, .mapFull),
    (e = none ∧ (∃ t, r.targets.get t = true) ∧ 65536 ≤ s.journal.entries.length, .full),
    (q.kind = 1 ∧ 0 < q.length ∧ (e ≠ none ∨ ∃ t, r.targets.get t = true)
      ∧ 589824 < s.body.outUse - held + (q.length + 8127) / 8128, .bodyFull)]

/-- R15 passed, the code is that of the first condition of Table 1-5 that holds. -/
theorem State.submitRefusal_eq (s : State) {q : SubmitReq} (h : ¬ q.badArgument = true) :
    s.submitRefusal q = firstRefusal (s.submitRefusals q) := by
  have hheld : ((s.unsealedOf q.bucket q.digest).map JEntry.slotsHeld).getD 0 =
      match (s.unsealedOf q.bucket q.digest).bind fun x => x.fill with
      | some f => f.slots
      | none => 0 := by
    cases s.unsealedOf q.bucket q.digest with
    | none => rfl
    | some e => simp only [Option.map_some, Option.getD_some, Option.bind_some, JEntry.slotsHeld]; cases e.fill <;> rfl
  rw [State.submitRefusal, if_neg h]
  refine firstRefusal_cons Iff.rfl (firstRefusal_cons Iff.rfl (firstRefusal_cons Iff.rfl (firstRefusal_cons Iff.rfl
    (firstRefusal_cons q.badPatch_iff (firstRefusal_cons Iff.rfl (firstRefusal_cons (s.mapFull_iff _ _)
    (firstRefusal_cons ?_ (firstRefusal_cons ?_ rfl))))))))
  · rw [Option.isNone_iff_eq_none, Bucket.hasTarget_iff]
    exact Iff.rfl
  · rw [SubmitReq.slotsNeeded_pos_iff, Option.isSome_iff_ne_none, Bucket.hasTarget_iff, hheld, and_assoc]
    refine and_congr_right fun hkind => and_congr_right fun _ => and_congr_right fun _ => ?_
    have hneed : q.slotsNeeded = (q.length + 8127) / 8128 := (if_pos hkind).trans (slotsFor_eq _)
    rw [hneed]
    exact Iff.rfl

theorem answerSubmit_of_refusal {body : List Byte} {s : State} {r : Result} (h : s.submitRefusal (parseSubmit body) = some r) :
    answerSubmit body s = ⟨s.refuseSubmit r, r, zeroBody 20⟩ := by
  simp only [answerSubmit, h]

theorem answerSubmit_exhausted {body : List Byte} {s : State} (h : s.submitRefusal (parseSubmit body) = none)
    (hissue : s.issue (s.clock.site.getD 0) = none) : answerSubmit body s = ⟨s, .clockExhausted, zeroBody 20⟩ := by
  simp only [answerSubmit, h, hissue]

theorem answerSubmit_accepted {body : List Byte} {s s1 : State} {x : Stamp} (h : s.submitRefusal (parseSubmit body) = none)
    (hissue : s.issue (s.clock.site.getD 0) = some (x, s1)) :
    answerSubmit body s = s1.acceptSubmit (parseSubmit body) x := by
  simp only [answerSubmit, h, hissue]

/-- Only step 6 refuses with MAP-FULL. -/
theorem State.submitRefusals_mapFull (s : State) (q : SubmitReq) {i : Nat} (hi : i < 9) :
    ((s.submitRefusals q).getD i (False, .ok)).2 = .mapFull ↔ i = 6 := by
  match i, hi with
  | 0, _ | 1, _ | 2, _ | 3, _ | 4, _ | 5, _ | 6, _ | 7, _ | 8, _ => simp [State.submitRefusals]

/-- Settles O25: Table 1-5 as a list of conditions, of which the first that holds refuses. -/
theorem submitChecksInOrder : Obligations.SubmitChecksInOrder := by
  intro w s hbuf hcheck hfits q r e held hbucket hkind hlength refusals
  have hgood : ¬ q.badArgument = true := by
    rw [SubmitReq.badArgument_iff]
    rintro (h | h | ⟨h, hne⟩)
    · omega
    · exact h hkind
    · exact hne (hlength (by omega))
  have hrefusal : s.requestTaken.submitRefusal q = firstRefusal refusals := State.submitRefusal_eq s.requestTaken hgood
  refine ⟨fun i hi hbefore hhere => ?_, fun hnone hissue => ?_⟩
  · have hfirst := hrefusal.trans (firstRefusal_some hi hbefore hhere)
    have hfull := State.submitRefusals_mapFull s.requestTaken q hi
    rw [exec_of_intact rfl rfl hbuf hcheck hfits, answerSubmit_of_refusal hfirst]
    have hstate : s.requestTaken.refuseSubmit (refusals.getD i (False, .ok)).2 =
        if i = 6 then s.requestTaken.latch .mapBlocked else s.requestTaken := if_congr hfull rfl rfl
    rw [hstate]
    rfl
  · rw [exec_of_intact rfl rfl hbuf hcheck hfits,
      answerSubmit_exhausted (hrefusal.trans (firstRefusal_none hnone)) hissue]
    rfl

end Sys2Proof.Machine

/-! # SUBMIT accepted: a new entry, a merge, a supersede -/

namespace Sys2Proof.Machine

/-! ## The object map -/

theorem mapChanged_touched {m : List ObjRec} {b : Nat} {d : Digest} {g : ObjRec → ObjRec} (h : ObjRec → ObjRec)
    (hg : ∀ x, isObj b d (g x) = isObj b d x) :
    mapChanged (mapTouched m b d g) b d h = mapTouched m b d fun x => h (g x) := by
  unfold mapChanged mapTouched
  rw [List.map_append, List.map_map]
  congr 1
  · refine (List.map_congr_left fun x hx => ?_).trans (List.map_id _)
    have hother : isObj b d x = false := by simpa using (List.mem_filter.mp hx).2
    simp [hother]
  · refine List.map_congr_left fun x hx => ?_
    have hthis : isObj b d x = true := (List.mem_filter.mp hx).2
    simp [hg, hthis]

/-- Without a record of the object a change of it changes nothing. -/
theorem mapChanged_of_absent {m : List ObjRec} {b : Nat} {d : Digest} (h : ObjRec → ObjRec)
    (habsent : ∀ x ∈ m, isObj b d x = false) : mapChanged m b d h = m := by
  refine (List.map_congr_left fun x hx => ?_).trans (List.map_id _)
  simp [habsent x hx]

theorem mapChanged_append (m n : List ObjRec) (b : Nat) (d : Digest) (h : ObjRec → ObjRec) :
    mapChanged (m ++ n) b d h = mapChanged m b d h ++ mapChanged n b d h := List.map_append

/-- A new record, changed where it stands. -/
theorem mapChanged_new {b : Nat} {d : Digest} {g : ObjRec → ObjRec} (h : ObjRec → ObjRec)
    (hg : ∀ x, isObj b d (g x) = isObj b d x) :
    mapChanged [g ⟨b, d, none, false, none, 0⟩] b d h = [h (g ⟨b, d, none, false, none, 0⟩)] := by
  have hnew : isObj b d (g ⟨b, d, none, false, none, 0⟩) = true := by
    rw [hg]
    simp [isObj]
  simp [mapChanged, hnew]

/-- A record found or inserted, and changed again. -/
theorem MapTook.changed {m m' : List ObjRec} {b : Nat} {d : Digest} {g : ObjRec → ObjRec} (hm : MapTook m b d g m')
    (h : ObjRec → ObjRec) (hg : ∀ x, isObj b d (g x) = isObj b d x) :
    MapTook m b d (fun x => h (g x)) (mapChanged m' b d h) where
  found hx := by rw [hm.found hx, mapChanged_touched h hg]
  inserted habsent hroom := by
    rw [hm.inserted habsent hroom, mapChanged_append, mapChanged_of_absent h habsent, mapChanged_new h hg]
  evicted habsent hfull xs x ys hsplit hxs hx := by
    have hsub : ∀ y ∈ xs ++ ys, isObj b d y = false := fun y hy => habsent y (by
      rw [hsplit]
      rcases List.mem_append.mp hy with hy | hy
      · exact List.mem_append_left _ hy
      · exact List.mem_append_right _ (List.mem_cons_of_mem _ hy))
    rw [hm.evicted habsent hfull xs x ys hsplit hxs hx, mapChanged_append, mapChanged_of_absent h hsub, mapChanged_new h hg]

theorem evictOne_split {xs ys : List ObjRec} {x : ObjRec} (hxs : ∀ y ∈ xs, y.pins ≠ 0) (hx : x.pins = 0) :
    evictOne (xs ++ x :: ys) = xs ++ ys := by
  induction xs with
  | nil => exact if_pos hx
  | cons y xs ih =>
    have hy : ¬ y.pins = 0 := hxs y List.mem_cons_self
    rw [List.cons_append, evictOne, if_neg hy, ih fun z hz => hxs z (List.mem_cons_of_mem _ hz)]
    rfl

theorem State.findObj_isSome_iff (s : State) (b : Nat) (d : Digest) :
    (s.findObj b d).isSome = true ↔ ∃ x ∈ s.map, isObj b d x = true := List.find?_isSome

/-- A find-or-insert, in the words of Safety.lean (R49 to R51, R53). -/
theorem State.findOrInsert_took (s : State) (b : Nat) (d : Digest) (g : ObjRec → ObjRec) :
    MapTook s.map b d g (s.findOrInsert b d g).map := by
  have hnone : (∀ x ∈ s.map, isObj b d x = false) → s.findObj b d = none := fun habsent =>
    List.find?_eq_none.mpr fun x hx => by
      have hx' : x.names b d = false := habsent x hx
      simp [hx']
  have hinsert : (∀ x ∈ s.map, isObj b d x = false) →
      (s.findOrInsert b d g).map = makeRoom s.map ++ [g ⟨b, d, none, false, none, 0⟩] := by
    intro habsent
    simp only [State.findOrInsert, hnone habsent]
    rfl
  refine ⟨fun hx => ?_, fun habsent hroom => ?_, fun habsent hfull xs x ys hsplit hxs hx => ?_⟩
  · obtain ⟨r, hr⟩ := Option.isSome_iff_exists.mp ((s.findObj_isSome_iff b d).mpr hx)
    simp only [State.findOrInsert, hr]
    rfl
  · rw [hinsert habsent, makeRoom, if_pos (show s.map.length < Config.mapSize from hroom)]
  · have hno : ¬ s.map.length < Config.mapSize := Nat.not_lt.mpr hfull
    rw [hinsert habsent, makeRoom, if_neg hno, hsplit, evictOne_split hxs hx]

/-! ## What an issue leaves of the link -/

theorem Sli.latch_replies (x : Sli) (l : PartLatch) : (x.latch l).replies = x.replies := by
  unfold Sli.latch
  split
  · rfl
  · rw [Sli.reportIf_eq]

theorem Sli.latch_stats (x : Sli) (l : PartLatch) : (x.latch l).stats = x.stats := by
  unfold Sli.latch
  split
  · rfl
  · rw [Sli.reportIf_eq]

/-- An issue counts a borrow ahead, and answers nothing. -/
theorem State.issue_link {s u : State} {site : Nat} {x : Stamp} (h : s.issue site = some (x, u)) :
    u.sli.replies = s.sli.replies ∧ u.sli.stats = { s.sli.stats with borrowAheads := u.sli.stats.borrowAheads } := by
  unfold State.issue at h
  split at h
  · cases h
  · next l c b _ =>
    cases h
    split
    · exact ⟨Sli.latch_replies _ _, by simp [State.borrowed, State.latch, Sli.latch_stats]⟩
    · exact ⟨rfl, rfl⟩

/-! ## Slots reserved -/

theorem slotsFor_zero : slotsFor 0 = 0 := rfl

theorem State.reserveSlots_entries (s : State) (e : JEntry) : (s.reserveSlots e).journal.entries =
    if e.change.length = 0 then s.journal.entries
    else s.journal.entries.map fun x =>
      if x.index = e.index then { e with fill := some ⟨slotsFor e.change.length, [], photoStart⟩ } else x := by
  unfold State.reserveSlots
  split
  · rfl
  · unfold State.parkStart
    split <;> rfl

theorem State.reserveSlots_gens (s : State) (e : JEntry) : (s.reserveSlots e).journal.gens = s.journal.gens := by
  unfold State.reserveSlots
  split
  · rfl
  · unfold State.parkStart
    split <;> rfl

/-- The Body Store with the slots of a body reserved, and the parking started at 524,288 slots in use (R64, R69). -/
theorem State.reserveSlots_body (s : State) (e : JEntry) : (s.reserveSlots e).body = { s.body with
    outUse := s.body.outUse + slotsFor e.change.length
    reservation := if e.change.length = 0 then s.body.reservation else s.body.reservation ++ [e.index]
    parkOn := s.body.parkOn || decide (e.change.length ≠ 0 ∧ 524288 ≤ s.body.outUse + slotsFor e.change.length) } := by
  have hlimit : Config.parkOnAt = 524288 := rfl
  by_cases hlen : e.change.length = 0
  · rw [State.reserveSlots, if_pos hlen, hlen, slotsFor_zero]
    simp
  · rw [State.reserveSlots, if_neg hlen, State.parkStart, hlimit]
    cases hpark : s.body.parkOn with
    | true => simp [hlen, hpark]
    | false =>
      by_cases hfull : 524288 ≤ s.body.outUse + slotsFor e.change.length
      · rw [if_pos ⟨by exact hpark, by exact hfull⟩]
        simp [hlen, hfull, State.latch]
      · rw [if_neg fun h => hfull h.2]
        simp [hlen, hfull, hpark]

theorem State.reserveSlots_sli (s : State) (e : JEntry) : (s.reserveSlots e).sli =
    if s.body.parkOn = false ∧ e.change.length ≠ 0 ∧ 524288 ≤ s.body.outUse + slotsFor e.change.length then
      s.sli.latch .parking
    else s.sli := by
  have hlimit : Config.parkOnAt = 524288 := rfl
  by_cases hlen : e.change.length = 0
  · rw [State.reserveSlots, if_pos hlen, if_neg fun h => h.2.1 hlen]
  · rw [State.reserveSlots, if_neg hlen, State.parkStart, hlimit]
    by_cases hstart : s.body.parkOn = false ∧ 524288 ≤ s.body.outUse + slotsFor e.change.length
    · rw [if_pos ⟨by exact hstart.1, by exact hstart.2⟩, if_pos ⟨hstart.1, hlen, hstart.2⟩]
      rfl
    · rw [if_neg fun h => hstart ⟨h.1, h.2⟩, if_neg fun h => hstart ⟨h.1, h.2.2⟩]
      rfl

/-! ## The outcome of an accepted SUBMIT -/

/-- No number below the lowest free one is free. -/
theorem mem_of_lt_lowestFree {used : List Nat} {j : Nat} (h : j < lowestFree 0 used) : j ∈ used := by
  by_contra hfree
  unfold lowestFree at h
  have hzero : (List.range (used.length + 1)).map (0 + ·) = List.range (used.length + 1) := by simp
  rw [hzero] at h
  cases hfind : (List.range (used.length + 1)).find? (fun n => !used.contains n) with
  | none =>
    rw [hfind] at h
    exact absurd h (Nat.not_lt_zero _)
  | some n =>
    rw [hfind] at h
    have hno := (List.find?_range_eq_some.mp hfind).2.2 j h
    simp [hfree] at hno

theorem exec_submit_accepted {w : Wire} {s s1 : State} {x : Stamp} (hbuf : s.sli.asm.buf = [])
    (hcheck : bodyCheck w.body = w.check) (hfits : fitsSubmit w.body = true)
    (hrefusal : s.requestTaken.submitRefusal (parseSubmit w.body) = none)
    (hissue : s.requestTaken.issue (s.clock.site.getD 0) = some (x, s1)) :
    exec (.submit w) s = .next ((s1.acceptSubmit (parseSubmit w.body) x).replied 0x05#8 w) := by
  rw [exec_of_intact rfl rfl hbuf hcheck hfits, answerSubmit_accepted hrefusal hissue]
  rfl

/-- The record of the object after its stamp (R56). -/
theorem State.stampObject_findObj (s : State) (q : SubmitReq) (x : Stamp) :
    (s.stampObject q x).findObj q.bucket q.digest = some { (s.findObj q.bucket q.digest).getD
      ⟨q.bucket, q.digest, none, false, none, 0⟩ with stamp := some x, tombstone := q.kind == 3 } :=
  s.findOrInsert_findObj q.bucket q.digest fun _ => rfl

theorem State.findObj_key {s : State} {b : Nat} {d : Digest} {r : ObjRec} (h : s.findObj b d = some r) :
    r.bucket = b ∧ r.digest = d := by
  have hnames : r.names b d = true := List.find?_some (p := fun x : ObjRec => x.names b d) h
  simpa [ObjRec.names] using hnames

theorem find_mapChanged (m : List ObjRec) (b : Nat) (d : Digest) {g : ObjRec → ObjRec}
    (hg : ∀ r, isObj b d (g r) = isObj b d r) : (mapChanged m b d g).find? (isObj b d) = (m.find? (isObj b d)).map g := by
  have hsame : (isObj b d) ∘ (fun x => if isObj b d x then g x else x) = isObj b d := by
    funext x
    by_cases hx : isObj b d x = true <;> simp [hx, hg]
  rw [mapChanged, List.find?_map, hsame]
  cases hfind : m.find? (isObj b d) with
  | none => rfl
  | some r => simp [List.find?_some hfind]

/-- The record of an object that has none yet, or the one it has. -/
theorem State.findObj_getD (s : State) (b : Nat) (d : Digest) : (s.findObj b d).getD ⟨b, d, none, false, none, 0⟩ =
    ⟨b, d, (s.findObj b d).bind fun x => x.stamp, ((s.findObj b d).map fun x => x.tombstone).getD false,
      (s.findObj b d).bind fun x => x.unsealed, ((s.findObj b d).map fun x => x.pins).getD 0⟩ := by
  cases h : s.findObj b d with
  | none => rfl
  | some r =>
    obtain ⟨hb, hd⟩ := State.findObj_key h
    simp [← hb, ← hd]

/-- The entry that an append puts at the tail, its slots reserved (R14, R20, R64). -/
def State.appended (s : State) (q : SubmitReq) (x : Stamp) : JEntry where
  index := s.freePosition
  gen := nextGen (s.journal.gens.get 0 s.freePosition)
  bucket := q.bucket
  digest := q.digest
  stamp := x
  change := q.change
  bodyState := if q.change.length = 0 then .ready else .filling
  seq := none
  peers := (s.bucket q.bucket).targets.map fun x => if x then some .queued else none
  fill := if q.change.length = 0 then none else some ⟨slotsFor q.change.length, [], photoStart⟩
  framesOut := 0
  refillTag := none

theorem State.index_ne_freePosition (s : State) : ∀ e ∈ s.journal.entries, e.index ≠ s.freePosition := by
  intro e he hi
  refine lowestFree_spec 0 (s.journal.entries.map (·.index)) ?_
  show s.freePosition ∈ _
  rw [← hi]
  exact List.mem_map_of_mem he

theorem State.append_entries (s : State) (q : SubmitReq) (x : Stamp) :
    (s.append q.bucket q.digest q.change x).state.journal.entries = s.journal.entries ++ [s.appended q x] := by
  have hentries : (s.append q.bucket q.digest q.change x).state.journal.entries =
      if q.change.length = 0 then s.journal.entries ++ [{ s.appended q x with bodyState := q.change.firstState, fill := none }]
      else (s.journal.entries ++ [{ s.appended q x with bodyState := q.change.firstState, fill := none }]).map fun y : JEntry =>
        if y.index = s.freePosition then { s.appended q x with
          bodyState := q.change.firstState, fill := some ⟨slotsFor q.change.length, [], photoStart⟩ } else y :=
    State.reserveSlots_entries _ _
  rw [hentries]
  by_cases hlen : q.change.length = 0
  · rw [if_pos hlen]
    simp [State.appended, Change.firstState, hlen]
  · have hold : s.journal.entries.map (fun y : JEntry => if y.index = s.freePosition then { s.appended q x with
        bodyState := q.change.firstState, fill := some ⟨slotsFor q.change.length, [], photoStart⟩ } else y)
        = s.journal.entries :=
      (List.map_congr_left fun y hy => if_neg (s.index_ne_freePosition y hy)).trans (List.map_id _)
    rw [if_neg hlen, List.map_append, hold]
    simp [State.appended, Change.firstState, hlen]

/-- What an append leaves besides its entry. -/
theorem State.append_rest (s : State) (q : SubmitReq) (x : Stamp) :
    let u := (s.append q.bucket q.digest q.change x).state
    u.map = mapChanged s.map q.bucket q.digest (fun r => { r with
        unsealed := some (s.appended q x).handle, pins := r.pins + 1 })
      ∧ u.journal.gens = s.journal.gens.set 0 s.freePosition (nextGen (s.journal.gens.get 0 s.freePosition))
      ∧ u.now = s.now ∧ u.clock = s.clock ∧ u.buckets = s.buckets ∧ u.ports = s.ports ∧ u.sups = s.sups ∧ u.apply = s.apply := by
  unfold State.append
  dsimp only
  refine ⟨?_, ?_, ?_⟩
  · rw [State.reserveSlots_map]
    rfl
  · rw [State.reserveSlots_gens]
    rfl
  · simp

theorem State.append_body (s : State) (q : SubmitReq) (x : Stamp) :
    (s.append q.bucket q.digest q.change x).state.body = { s.body with
      outUse := s.body.outUse + slotsFor q.change.length
      reservation := if q.change.length = 0 then s.body.reservation else s.body.reservation ++ [s.freePosition]
      parkOn := s.body.parkOn || decide (q.change.length ≠ 0 ∧ 524288 ≤ s.body.outUse + slotsFor q.change.length) } :=
  State.reserveSlots_body _ _

theorem State.append_sli (s : State) (q : SubmitReq) (x : Stamp) : (s.append q.bucket q.digest q.change x).state.sli =
    if s.body.parkOn = false ∧ q.change.length ≠ 0 ∧ 524288 ≤ s.body.outUse + slotsFor q.change.length then
      s.sli.latch .parking
    else s.sli := State.reserveSlots_sli _ _

theorem State.append_parts (s : State) (q : SubmitReq) (x : Stamp) :
    let o := s.append q.bucket q.digest q.change x
    o.handle = (s.appended q x).handle ∧ o.superseded = Handle.none ∧ o.merged = false ∧ o.noTargets = false :=
  ⟨rfl, rfl, rfl, rfl⟩

/-- The reply body of an accepted SUBMIT, from the outcome's parts (Table 10-4). -/
theorem SubmitOutcome.body_eq {o : SubmitOutcome} {h k : Handle} {m n : Bool} (x : Stamp)
    (hparts : o.handle = h ∧ o.superseded = k ∧ o.merged = m ∧ o.noTargets = n) :
    o.body x = beBytes 4 h.value ++ beBytes 4 k.value ++ beBytes 8 x.toNat ++ beBytes 1 (bitsToNat [m, n, true]) ++ beBytes 3 0 := by
  obtain ⟨rfl, rfl, rfl, rfl⟩ := hparts
  rfl

/-- What issuing the stamp and stamping the object leaves: the Stamp Clock, the link and the object's record have changed. -/
structure StampedFor (s s1 u : State) (q : SubmitReq) (x : Stamp) : Prop where
  journal : u.journal = s.journal
  body : u.body = s.body
  buckets : u.buckets = s.buckets
  frame : u.now = s.now ∧ u.clock = s1.clock ∧ u.ports = s.ports ∧ u.sups = s.sups ∧ u.apply = s.apply
  sli : u.sli = s1.sli
  replies : s1.sli.replies = s.requestTaken.sli.replies
  stats : s1.sli.stats = { s.sli.stats with borrowAheads := s1.sli.stats.borrowAheads }
  unsealed : u.unsealedOf q.bucket q.digest = s.unsealedOf q.bucket q.digest
  object : u.findObj q.bucket q.digest = some { (s.findObj q.bucket q.digest).getD
    ⟨q.bucket, q.digest, none, false, none, 0⟩ with stamp := some x, tombstone := q.kind == 3 }
  map : MapTook s.map q.bucket q.digest (fun r => { r with stamp := some x, tombstone := q.kind == 3 }) u.map

theorem State.stampedFor {s s1 : State} {x : Stamp} (q : SubmitReq)
    (hissue : s.requestTaken.issue (s.clock.site.getD 0) = some (x, s1)) : StampedFor s s1 (s1.stampObject q x) q x := by
  obtain ⟨hreplies, hstats⟩ := State.issue_link hissue
  rw [State.requestTaken_stats] at hstats
  have hunsealed := s1.stampObject_unsealedOf q x
  have hobject := s1.stampObject_findObj q x
  have hmap := s1.findOrInsert_took q.bucket q.digest fun r => { r with stamp := some x, tombstone := q.kind == 3 }
  obtain ⟨c, y, rfl⟩ := State.issue_frame hissue
  exact {
    journal := State.stampObject_journal _ _ _
    body := State.stampObject_body _ _ _
    buckets := State.stampObject_buckets _ _ _
    frame := ⟨State.stampObject_now _ _ _, State.stampObject_clock _ _ _, State.stampObject_ports _ _ _,
      State.stampObject_sups _ _ _, State.stampObject_apply _ _ _⟩
    sli := State.stampObject_sli _ _ _
    replies := hreplies
    stats := hstats
    unsealed := hunsealed
    object := hobject
    map := hmap }

theorem StampedFor.bucket {s s1 u : State} {q : SubmitReq} {x : Stamp} (h : StampedFor s s1 u q x) (b : Nat) :
    u.bucket b = s.bucket b := by
  unfold State.bucket
  rw [h.buckets]

/-- Settles O26: the outcome without an unsealed entry, with and without a target. -/
theorem submitAppends : Obligations.SubmitAppends := by
  intro w s s1 stamp hbuf hcheck hfits q r slots hrefusal hissue hnone
  have hs := State.stampedFor q hissue
  have hexec := exec_submit_accepted hbuf hcheck hfits hrefusal hissue
  generalize hv : s1.stampObject q stamp = v at hs
  have hbucket : v.bucket q.bucket = r := hs.bucket q.bucket
  have hunsealed : v.unsealedOf q.bucket q.digest = none := hs.unsealed.trans hnone
  refine ⟨fun htarget => ?_, fun hno => ?_⟩
  · have houtcome : v.submitOutcome q stamp = v.append q.bucket q.digest q.change stamp := by
      rw [State.submitOutcome, hunsealed, hbucket]
      exact if_pos ((Bucket.hasTarget_iff r).mpr htarget)
    have haccept : s1.acceptSubmit q stamp = ⟨(v.append q.bucket q.digest q.change stamp).state.countSubmit, .ok,
        (v.append q.bucket q.digest q.change stamp).body stamp⟩ := by
      rw [State.acceptSubmit, hv, houtcome]
    rw [haccept] at hexec
    obtain ⟨hmap, hgens, hnow, hclock, hbuckets, hports, hsups, happly⟩ := v.append_rest q stamp
    obtain ⟨hnow', hclock', hports', hsups', happly'⟩ := hs.frame
    have hentries := v.append_entries q stamp
    have hbody := v.append_body q stamp
    have hsli := v.append_sli q stamp
    have hparts := v.append_parts q stamp
    generalize ho : v.append q.bucket q.digest q.change stamp = o
    rw [ho] at hmap hgens hnow hclock hbuckets hports hsups happly hentries hbody hsli hparts hexec
    rw [← hs.journal, ← hs.body]
    rw [slotsFor_eq] at hbody hsli
    refine ⟨v.freePosition, nextGen (v.journal.gens.get 0 v.freePosition), _, hexec, v.index_ne_freePosition,
      fun j hj => List.mem_map.mp (mem_of_lt_lowestFree hj), rfl, ?_, ?_, fun j hj => ?_, ?_, congrArg BodyStore.outUse hbody,
      congrArg BodyStore.reservation hbody, (congrArg BodyStore.inUse hbody :), hnow.trans hnow', hclock.trans hclock',
      hbuckets.trans hs.buckets, hports.trans hports', hsups.trans hsups', happly.trans happly',
      (congrArg BodyStore.refillQueue hbody :), ?_, ⟨?_, ?_⟩, ?_, ?_⟩
    · refine hentries.trans ?_
      rw [State.appended, slotsFor_eq, hbucket]
    · show o.state.journal.gens.get 0 v.freePosition = _
      rw [hgens, Table.get_set_self]
    · show o.state.journal.gens.get 0 j = _
      rw [hgens, Table.get_set_ne _ _ _ hj]
    · show o.state.map.find? (isObj q.bucket q.digest) = _
      rw [hmap, find_mapChanged]
      swap
      · exact fun _ => rfl
      refine (congrArg (Option.map _) hs.object).trans ?_
      rw [State.findObj_getD]
      rfl
    · show MapTook s.map q.bucket q.digest _ o.state.map
      rw [hmap]
      exact hs.map.changed (fun r => { r with unsealed := some (v.appended q stamp).handle, pins := r.pins + 1 }) fun _ => rfl
    · show o.state.body.parkOn = true ↔ _
      rw [hbody]
      show (v.body.parkOn || decide _) = true ↔ _
      cases v.body.parkOn <;> simp [slots]
    · refine congrArg (fun y : Sli => ({ y with
        stats := { y.stats with submits := y.stats.submits + 1 }, replies := _ } : Sli)) (hsli.trans ?_)
      rw [hs.sli]
    · show o.state.sli.stats.submits + 1 = _
      have hstats : o.state.sli.stats = s1.sli.stats := by
        rw [hsli, hs.sli]
        split
        · exact Sli.latch_stats _ _
        · rfl
      rw [hstats, hs.stats]
    · show o.state.sli.replies ++ _ = _
      have hreplies : o.state.sli.replies = s1.sli.replies := by
        rw [hsli, hs.sli]
        split
        · exact Sli.latch_replies _ _
        · rfl
      rw [hreplies, hs.replies, SubmitOutcome.body_eq stamp hparts]
      rfl
  · have houtcome : v.submitOutcome q stamp = ⟨v, Handle.none, Handle.none, false, true⟩ := by
      rw [State.submitOutcome, hunsealed, hbucket]
      refine if_neg fun ht => ?_
      obtain ⟨t, ht⟩ := (Bucket.hasTarget_iff r).mp ht
      exact Bool.false_ne_true ((hno t).symm.trans ht)
    have haccept : s1.acceptSubmit q stamp = ⟨v.countSubmit, .ok,
        SubmitOutcome.body ⟨v, Handle.none, Handle.none, false, true⟩ stamp⟩ := by
      rw [State.acceptSubmit, hv, houtcome]
    rw [haccept] at hexec
    obtain ⟨hnow, hclock, hports, hsups, happly⟩ := hs.frame
    refine ⟨_, hexec, hs.journal, hs.body, ?_, hs.map, hnow, hclock, hs.buckets, hports, hsups, happly, ?_, ?_, ?_⟩
    · refine hs.object.trans ?_
      rw [State.findObj_getD]
    · exact congrArg (fun y : Sli => ({ y with
        stats := { y.stats with submits := y.stats.submits + 1 }, replies := _ } : Sli)) hs.sli
    · show v.sli.stats.submits + 1 = _
      rw [hs.sli, hs.stats]
    · show v.sli.replies ++ _ = _
      rw [hs.sli, hs.replies, SubmitOutcome.body_eq (h := Handle.none) (k := Handle.none) (m := false) (n := true) stamp
        ⟨rfl, rfl, rfl, rfl⟩]
      rfl

end Sys2Proof.Machine

/-! # SUBMIT for an object with an unsealed entry: merge and supersede -/

namespace Sys2Proof.Machine

/-! ## Patch lists merged (R19) -/

theorem mergeWrite_fields (ps : List PatchWrite) (p : PatchWrite) : (mergeWrite ps p).map (fun x => x.field) =
    if p.field ∈ ps.map (fun x => x.field) then ps.map fun x => x.field else ps.map (fun x => x.field) ++ [p.field] := by
  have hany : (ps.any fun x => x.field == p.field) = true ↔ p.field ∈ ps.map fun x => x.field := by simp
  unfold mergeWrite
  by_cases hmem : p.field ∈ ps.map fun x => x.field
  · rw [if_pos (hany.mpr hmem), if_pos hmem, List.map_map]
    refine List.map_congr_left fun x _ => ?_
    show (if x.field = p.field then p else x).field = x.field
    split
    · next h => exact h.symm
    · rfl
  · rw [if_neg (mt hany.mp hmem), if_neg hmem, List.map_append]
    rfl

/-- The writes keep their order, and the new field numbers follow (R19). -/
theorem mergePatches_fields (new : List PatchWrite) : ∀ old : List PatchWrite, (new.map fun p => p.field).Nodup →
    (mergePatches old new).map (fun p => p.field) = old.map (fun p => p.field)
      ++ (new.map fun p => p.field).filter (fun n => !(old.map fun p => p.field).contains n) := by
  induction new with
  | nil => exact fun old _ => by simp [mergePatches]
  | cons p new ih =>
    intro old hnodup
    obtain ⟨hnot, hrest⟩ := List.nodup_cons.mp hnodup
    have hstep : mergePatches old (p :: new) = mergePatches (mergeWrite old p) new := rfl
    rw [hstep, ih _ hrest, mergeWrite_fields, List.map_cons]
    by_cases hmem : p.field ∈ old.map fun x => x.field
    · rw [if_pos hmem, List.filter_cons_of_neg (by simpa using hmem)]
    · rw [if_neg hmem, List.filter_cons_of_pos (by simpa using hmem), List.append_assoc]
      congr 1
      show p.field :: _ = p.field :: _
      congr 1
      refine List.filter_congr fun n hn => ?_
      have hne : n ≠ p.field := by
        rintro rfl
        exact hnot hn
      simp [hne]

theorem mergeWrite_find_self (ps : List PatchWrite) (p : PatchWrite) :
    (mergeWrite ps p).find? (fun x => x.field == p.field) = some p := by
  unfold mergeWrite
  split
  · next hany =>
    have hsame : (fun x : PatchWrite => x.field == p.field) ∘ (fun x => if x.field = p.field then p else x)
        = fun x => x.field == p.field := by
      funext x
      by_cases hx : x.field = p.field <;> simp [hx]
    rw [List.find?_map, hsame]
    obtain ⟨x, hx⟩ := Option.isSome_iff_exists.mp (List.find?_isSome.mpr (List.any_eq_true.mp hany))
    have hfield : x.field = p.field := by simpa using List.find?_some hx
    rw [hx]
    exact congrArg some (if_pos hfield)
  · next hany =>
    have hnone : ps.find? (fun x => x.field == p.field) = none := by
      rw [List.find?_eq_none]
      intro x hx hf
      exact hany (List.any_eq_true.mpr ⟨x, hx, hf⟩)
    simp [List.find?_append, hnone]

theorem mergeWrite_find_other (ps : List PatchWrite) {p : PatchWrite} {n : Nat} (h : p.field ≠ n) :
    (mergeWrite ps p).find? (fun x => x.field == n) = ps.find? fun x => x.field == n := by
  unfold mergeWrite
  split
  · have hsame : (fun x : PatchWrite => x.field == n) ∘ (fun x => if x.field = p.field then p else x)
        = fun x => x.field == n := by
      funext x
      by_cases hx : x.field = p.field <;> simp [hx]
    rw [List.find?_map, hsame]
    cases hfind : ps.find? fun x => x.field == n with
    | none => rfl
    | some x =>
      have hfield : x.field = n := by simpa using List.find?_some hfind
      exact congrArg some (if_neg fun hx => h (hx.symm.trans hfield))
  · simp [List.find?_append, h]

theorem mergePatches_find_other (new : List PatchWrite) {n : Nat} : ∀ old : List PatchWrite, (∀ p ∈ new, p.field ≠ n) →
    (mergePatches old new).find? (fun x => x.field == n) = old.find? fun x => x.field == n := by
  induction new with
  | nil => exact fun _ _ => rfl
  | cons p new ih =>
    intro old h
    have hstep : mergePatches old (p :: new) = mergePatches (mergeWrite old p) new := rfl
    rw [hstep, ih _ fun x hx => h x (List.mem_cons_of_mem _ hx), mergeWrite_find_other old (h p List.mem_cons_self)]

theorem mergePatches_find_self (new : List PatchWrite) : ∀ old : List PatchWrite, (new.map fun p => p.field).Nodup →
    ∀ p ∈ new, (mergePatches old new).find? (fun x => x.field == p.field) = some p := by
  induction new with
  | nil => exact fun _ _ _ hp => by cases hp
  | cons q new ih =>
    intro old hnodup p hp
    obtain ⟨hnot, hrest⟩ := List.nodup_cons.mp hnodup
    have hstep : mergePatches old (q :: new) = mergePatches (mergeWrite old q) new := rfl
    rw [hstep]
    rcases List.mem_cons.mp hp with rfl | hp
    · have hother : ∀ x ∈ new, x.field ≠ p.field := fun x hx h =>
        hnot (List.mem_map.mpr ⟨x, hx, h⟩)
      rw [mergePatches_find_other new _ hother, mergeWrite_find_self]
    · exact ih _ hrest p hp

theorem mergePatches_nodup {old new : List PatchWrite} (hnew : (new.map fun p => p.field).Nodup)
    (hold : (old.map fun p => p.field).Nodup) : ((mergePatches old new).map fun p => p.field).Nodup := by
  rw [mergePatches_fields new old hnew]
  refine List.nodup_append'.mpr ⟨hold, hnew.filter _, ?_⟩
  intro n hn hf
  have hno := (List.mem_filter.mp hf).2
  simp only [Bool.not_eq_true', List.contains_eq_mem, decide_eq_false_iff_not] at hno
  exact hno hn

/-! ## Supersede (R18) -/

/-- The entry that a supersede leaves, its slots reserved. -/
def JEntry.superseded (e : JEntry) (c : Change) (x : Stamp) : JEntry :=
  { e with
    gen := nextGen e.gen
    stamp := x
    change := c
    bodyState := if c.length = 0 then .ready else .filling
    fill := if c.length = 0 then none else some ⟨slotsFor c.length, [], photoStart⟩
    refillTag := none }

theorem map_put_put (es : List JEntry) {i : Nat} {a b : JEntry} (ha : a.index = i) :
    (es.map fun x => if x.index = i then a else x).map (fun x => if x.index = i then b else x) =
      es.map fun x => if x.index = i then b else x := by
  rw [List.map_map]
  refine List.map_congr_left fun x _ => ?_
  by_cases hx : x.index = i <;> simp [hx, ha]

/-- An entry written where its slots have just been released. -/
theorem State.releaseSlots_put (s : State) (e : JEntry) {y : JEntry} :
    ((s.releaseSlots e).journal.entries.map fun x => if x.index = e.index then y else x) =
      s.journal.entries.map fun x => if x.index = e.index then y else x := by
  unfold State.releaseSlots
  split
  · rfl
  · exact map_put_put _ rfl

theorem State.releaseSlots_gens (s : State) (e : JEntry) : (s.releaseSlots e).journal.gens = s.journal.gens := by
  unfold State.releaseSlots
  split <;> rfl

theorem State.supersede_entries (s : State) (e : JEntry) (c : Change) (x : Stamp) :
    (s.supersede e c x).state.journal.entries =
      s.journal.entries.map fun y => if y.index = e.index then e.superseded c x else y := by
  have hentries : (s.supersede e c x).state.journal.entries =
      if c.length = 0 then (s.releaseSlots e).journal.entries.map fun y : JEntry => if y.index = e.index then
        { e.superseded c x with bodyState := c.firstState, fill := none } else y
      else ((s.releaseSlots e).journal.entries.map fun y : JEntry => if y.index = e.index then
        { e.superseded c x with bodyState := c.firstState, fill := none } else y).map fun y : JEntry =>
          if y.index = e.index then
            { e.superseded c x with bodyState := c.firstState, fill := some ⟨slotsFor c.length, [], photoStart⟩ } else y :=
    State.reserveSlots_entries _ _
  rw [hentries]
  by_cases hlen : c.length = 0
  · rw [if_pos hlen, State.releaseSlots_put]
    simp [JEntry.superseded, Change.firstState, hlen]
  · rw [if_neg hlen, State.releaseSlots_put, map_put_put]
    · simp [JEntry.superseded, Change.firstState, hlen]
    · rfl

/-- The state in which a supersede reserves the slots of its body. -/
def State.supersedeOpen (s : State) (e : JEntry) (c : Change) (x : Stamp) : State :=
  (((s.releaseSlots e).bumpGen e.index (nextGen e.gen)).putEntry { e.superseded c x with
    bodyState := c.firstState, fill := none }).changeObj e.bucket e.digest fun r =>
      { r with unsealed := some ⟨e.index, nextGen e.gen⟩ }

theorem State.supersede_eq (s : State) (e : JEntry) (c : Change) (x : Stamp) :
    ∃ y, y = ((s.supersedeOpen e c x).reserveSlots { e.superseded c x with bodyState := c.firstState, fill := none }).refillRefresh
      ∧ s.supersede e c x = ⟨y.setStats { y.sli.stats with supersedes := y.sli.stats.supersedes + 1 }, ⟨e.index, nextGen e.gen⟩,
        e.handle, false, false⟩ := ⟨_, rfl, rfl⟩

theorem State.supersedeOpen_body (s : State) (e : JEntry) (c : Change) (x : Stamp) :
    (s.supersedeOpen e c x).body = bodyAfter s.body [e] := s.releaseSlots_body e

theorem State.supersedeOpen_sli (s : State) (e : JEntry) (c : Change) (x : Stamp) :
    (s.supersedeOpen e c x).sli = s.sli := s.releaseSlots_sli e

theorem bodyAfter_outUse (b : BodyStore) (e : JEntry) : (bodyAfter b [e]).outUse = b.outUse - e.slotsHeld := by
  simp [bodyAfter]

theorem bodyAfter_reservation (b : BodyStore) (e : JEntry) : (bodyAfter b [e]).reservation =
    if e.fill.isSome = true then b.reservation.filter (fun j => j != e.index) else b.reservation := by
  cases hfill : e.fill with
  | none => simp [bodyAfter, hfill]
  | some f => simp [bodyAfter, hfill, bne, Bool.beq_comm]

theorem bodyAfter_parkOn_iff (b : BodyStore) (e : JEntry) : (bodyAfter b [e]).parkOn = true ↔
    b.parkOn = true ∧ ¬ (e.fill.isSome = true ∧ b.outUse - e.slotsHeld ≤ 458752) := by
  cases hfill : e.fill <;> simp [bodyAfter, hfill]

theorem State.supersede_body (s : State) (e : JEntry) (c : Change) (x : Stamp) :
    let u := (s.supersede e c x).state
    let y := bodyAfter s.body [e]
    u.body.outUse = s.body.outUse - e.slotsHeld + slotsFor c.length ∧ u.body.inUse = s.body.inUse
      ∧ u.body.reservation = y.reservation ++ (if c.length = 0 then [] else [e.index])
      ∧ u.body.parkOn = (y.parkOn || decide (c.length ≠ 0 ∧ 524288 ≤ s.body.outUse - e.slotsHeld + slotsFor c.length)) := by
  intro u y
  have hbody := (s.supersedeOpen e c x).reserveSlots_body { e.superseded c x with bodyState := c.firstState, fill := none }
  rw [State.supersedeOpen_body, bodyAfter_outUse] at hbody
  have hlist := congrArg BodyStore.reservation hbody
  refine ⟨(congrArg BodyStore.outUse hbody :), (congrArg BodyStore.inUse hbody :), hlist.trans ?_,
    (congrArg BodyStore.parkOn hbody :)⟩
  by_cases hlen : c.length = 0
  · rw [if_pos hlen, List.append_nil]
    exact if_pos hlen
  · rw [if_neg hlen]
    exact if_neg hlen

theorem State.supersede_sli (s : State) (e : JEntry) (c : Change) (x : Stamp) :
    let stays := (bodyAfter s.body [e]).parkOn
    let y : Sli := if stays = false ∧ c.length ≠ 0 ∧ 524288 ≤ s.body.outUse - e.slotsHeld + slotsFor c.length then
        s.sli.latch .parking
      else s.sli
    let z := (s.supersede e c x).state.sli
    z.stats = { s.sli.stats with supersedes := s.sli.stats.supersedes + 1 } ∧ z.replies = s.sli.replies
      ∧ z = { y with stats := { y.stats with supersedes := y.stats.supersedes + 1 } } := by
  intro stays y z
  have hstats : y.stats = s.sli.stats := by
    unfold y
    split
    · exact Sli.latch_stats _ _
    · rfl
  have hreplies : y.replies = s.sli.replies := by
    unfold y
    split
    · exact Sli.latch_replies _ _
    · rfl
  have hsli := (s.supersedeOpen e c x).reserveSlots_sli { e.superseded c x with bodyState := c.firstState, fill := none }
  rw [State.supersedeOpen_body, State.supersedeOpen_sli, bodyAfter_outUse] at hsli
  have hz : z = { y with stats := { y.stats with supersedes := y.stats.supersedes + 1 } } :=
    congrArg (fun z : Sli => ({ z with stats := { z.stats with supersedes := z.stats.supersedes + 1 } } : Sli)) hsli
  refine ⟨?_, ?_, hz⟩
  · rw [hz, ← hstats]
  · rw [hz, ← hreplies]

theorem State.supersede_rest (s : State) (e : JEntry) (c : Change) (x : Stamp) :
    let u := (s.supersede e c x).state
    u.map = mapChanged s.map e.bucket e.digest (fun r => { r with unsealed := some ⟨e.index, nextGen e.gen⟩ })
      ∧ u.journal.gens = s.journal.gens.set 0 e.index (nextGen e.gen) ∧ RefillCurrent u
      ∧ u.now = s.now ∧ u.clock = s.clock ∧ u.buckets = s.buckets ∧ u.ports = s.ports ∧ u.sups = s.sups ∧ u.apply = s.apply := by
  intro u
  refine ⟨?_, ?_, RefillCurrent.congr rfl rfl rfl (State.refillRefresh_current _), ?_⟩
  · show ((s.supersedeOpen e c x).reserveSlots _).map = _
    rw [State.reserveSlots_map]
    show mapChanged (s.releaseSlots e).map _ _ _ = _
    rw [State.releaseSlots_map]
  · show ((s.supersedeOpen e c x).reserveSlots _).journal.gens = _
    rw [State.reserveSlots_gens]
    show (s.releaseSlots e).journal.gens.set 0 _ _ = _
    rw [State.releaseSlots_gens]
  · simp only [u, State.supersede]
    simp

theorem State.supersede_parts (s : State) (e : JEntry) (c : Change) (x : Stamp) :
    let o := s.supersede e c x
    o.handle = ⟨e.index, nextGen e.gen⟩ ∧ o.superseded = e.handle ∧ o.merged = false ∧ o.noTargets = false :=
  ⟨rfl, rfl, rfl, rfl⟩

/-- An object with an unsealed entry has a record. -/
theorem State.isObj_of_unsealed {s : State} {b : Nat} {d : Digest} {e : JEntry} (h : s.unsealedOf b d = some e) :
    ∃ x ∈ s.map, isObj b d x = true := by
  obtain ⟨r, hr, -⟩ := Option.bind_eq_some_iff.mp h
  exact (s.findObj_isSome_iff b d).mp (by rw [hr]; rfl)

/-- Settles O27: the merge of patch lists, and the two outcomes for an object with an unsealed entry. -/
theorem submitSupersedesOrMerges : Obligations.SubmitSupersedesOrMerges := by
  refine ⟨fun _ _ _ _ _ => ⟨rfl, rfl, rfl, rfl⟩, fun old new hnew => ⟨mergePatches_fields new old hnew,
    mergePatches_nodup hnew, mergePatches_find_self new old hnew, fun n => mergePatches_find_other new old⟩, ?_⟩
  intro w s s1 stamp e hbuf hcheck hfits q slots hrefusal hissue hsome hb hd
  have hs := State.stampedFor q hissue
  have hexec := exec_submit_accepted hbuf hcheck hfits hrefusal hissue
  generalize hv : s1.stampObject q stamp = v at hs
  have hunsealed : v.unsealedOf q.bucket q.digest = some e := hs.unsealed.trans hsome
  have hmap := hs.map.found (State.isObj_of_unsealed hsome)
  obtain ⟨hnow', hclock', hports', hsups', happly'⟩ := hs.frame
  refine ⟨fun hkind => ?_, fun hkind => ?_⟩
  · have hpatch : (q.kind == 3) = false := by rw [hkind]; rfl
    have houtcome : v.submitOutcome q stamp = v.mergeInto e q.patches stamp := by
      rw [State.submitOutcome, hunsealed]
      exact if_pos hkind
    have haccept : s1.acceptSubmit q stamp = ⟨(v.mergeInto e q.patches stamp).state.countSubmit, .ok,
        (v.mergeInto e q.patches stamp).body stamp⟩ := by
      rw [State.acceptSubmit, hv, houtcome]
    rw [haccept, SubmitOutcome.body_eq (h := e.handle) (k := Handle.none) (m := true) (n := false) stamp
      ⟨rfl, rfl, rfl, rfl⟩] at hexec
    rw [hpatch] at hmap
    refine ⟨_, hexec, ?_, ?_, hs.body, hnow', hclock', hs.buckets, hports', hsups', happly', hmap, ?_, ?_, ?_, ?_, ?_⟩
    · rw [← hs.journal]
      rfl
    · rw [← hs.journal]
      rfl
    · exact congrArg (fun y : Sli => ({ y with stats := _, replies := _ } : Sli)) hs.sli
    · show ({ v.sli.stats with submits := v.sli.stats.submits + 1, merges := v.sli.stats.merges + 1 } : PartStats) = _
      rw [hs.sli]
    · show v.sli.stats.submits + 1 = _
      rw [hs.sli, hs.stats]
    · show v.sli.stats.merges + 1 = _
      rw [hs.sli, hs.stats]
    · show v.sli.replies ++ _ = _
      rw [hs.sli, hs.replies]
      rfl
  · have houtcome : v.submitOutcome q stamp = v.supersede e q.change stamp := by
      rw [State.submitOutcome, hunsealed]
      exact if_neg hkind
    have haccept : s1.acceptSubmit q stamp = ⟨(v.supersede e q.change stamp).state.countSubmit, .ok,
        (v.supersede e q.change stamp).body stamp⟩ := by
      rw [State.acceptSubmit, hv, houtcome]
    have hparts := v.supersede_parts e q.change stamp
    have hentries := v.supersede_entries e q.change stamp
    obtain ⟨houtUse, hinUse, hreservation, hparkOn⟩ := v.supersede_body e q.change stamp
    obtain ⟨hstats, hreplies, hsli⟩ := v.supersede_sli e q.change stamp
    obtain ⟨hchanged, hgens, hrefill, hnow, hclock, hbuckets, hports, hsups, happly⟩ := v.supersede_rest e q.change stamp
    rw [haccept] at hexec
    generalize ho : v.supersede e q.change stamp = o
    rw [ho] at hparts hentries houtUse hinUse hreservation hparkOn hstats hreplies hsli hchanged hgens hrefill hnow hclock hbuckets hports hsups
    rw [ho] at happly hexec
    rw [← hs.journal, ← hs.body]
    refine ⟨_, hexec, ?_, ?_, fun j hj => ?_, ?_, hinUse, ?_, hnow.trans hnow', hclock.trans hclock', hbuckets.trans hs.buckets,
      hports.trans hports', hsups.trans hsups', happly.trans happly', ?_, ?_, hrefill, ⟨?_, ?_⟩, ?_, ?_, ?_, ?_⟩
    · refine hentries.trans ?_
      rw [JEntry.superseded, slotsFor_eq]
      rfl
    · show o.state.journal.gens.get 0 e.index = _
      rw [hgens, Table.get_set_self]
      rfl
    · show o.state.journal.gens.get 0 j = _
      rw [hgens, Table.get_set_ne _ _ _ hj]
    · exact houtUse.trans (by rw [slotsFor_eq])
    · show (o.state.map.find? (isObj q.bucket q.digest)).bind _ = _
      rw [hchanged, hb, hd, find_mapChanged]
      swap
      · exact fun _ => rfl
      refine (congrArg (fun y => Option.bind (Option.map _ y) _) hs.object).trans ?_
      rfl
    · show o.state.map = _
      rw [hchanged, hb, hd, hmap, mapChanged_touched]
      · rfl
      · exact fun _ => rfl
    · exact hreservation.trans (by rw [bodyAfter_reservation])
    · refine (Bool.eq_iff_iff.mp hparkOn).trans ?_
      rw [Bool.or_eq_true, bodyAfter_parkOn_iff, decide_eq_true_iff, ← houtUse]
      tauto
    · have hlink : (if (bodyAfter v.body [e]).parkOn = false ∧ q.change.length ≠ 0
          ∧ 524288 ≤ v.body.outUse - e.slotsHeld + slotsFor q.change.length then v.sli.latch .parking else v.sli) =
          if ¬ (v.body.parkOn = true ∧ ¬ (e.fill.isSome = true ∧ v.body.outUse - e.slotsHeld ≤ 458752)) ∧ q.change.length ≠ 0
            ∧ 524288 ≤ o.state.body.outUse then s1.sli.latch .parking else s1.sli := by
        simp only [← Bool.not_eq_true, bodyAfter_parkOn_iff, ← houtUse, hs.sli]
      rw [hlink] at hsli
      exact congrArg (fun y : Sli => ({ y with stats := _, replies := _ } : Sli)) hsli
    · show ({ o.state.sli.stats with submits := o.state.sli.stats.submits + 1 } : PartStats) = _
      rw [hstats, hs.sli]
    · show o.state.sli.stats.submits + 1 = _
      rw [hstats, hs.sli, hs.stats]
    · show o.state.sli.stats.supersedes = _
      rw [hstats, hs.sli, hs.stats]
    · show o.state.sli.replies ++ _ = _
      rw [hreplies, hs.sli, hs.replies, SubmitOutcome.body_eq stamp hparts]
      rfl

end Sys2Proof.Machine

/-! # The Body Store: CHUNK accepted, requests of the host, and their answers -/

namespace Sys2Proof.Machine

/-! ## An entry found by its handle -/

theorem State.entryAt_key {s : State} {h : Handle} {e : JEntry} (he : s.entryAt h = some e) :
    e.index = h.index ∧ e.gen = h.gen := by
  have hkey := List.find?_some (p := fun x : JEntry => x.index == h.index && x.gen == h.gen) he
  simpa using hkey

/-- An entry put in its own place is the one its handle names. -/
theorem State.entryAt_put {s u : State} {h : Handle} {e x : JEntry} (he : s.entryAt h = some e) (hindex : x.index = e.index)
    (hgen : x.gen = e.gen)
    (hput : u.journal.entries = s.journal.entries.map fun y => if y.index = e.index then x else y) :
    u.entryAt h = some x := by
  obtain ⟨hi, hg⟩ := State.entryAt_key he
  have hsame : (fun y : JEntry => y.index == h.index && y.gen == h.gen) ∘ (fun y => if y.index = e.index then x else y)
      = fun y => y.index == h.index := by
    funext y
    by_cases hy : y.index = h.index
    · simp [hy, hi, hg, hindex, hgen]
    · simp [hy, hi]
  have hmem : (s.journal.entries.find? fun y => y.index == h.index).isSome = true :=
    List.find?_isSome.mpr ⟨e, State.entryAt_mem he, by simp [hi]⟩
  obtain ⟨y, hy⟩ := Option.isSome_iff_exists.mp hmem
  have hyi : y.index = e.index := by
    have hyh : y.index = h.index := by simpa using List.find?_some hy
    exact hyh.trans hi.symm
  rw [State.entryAt, hput, List.find?_map, hsame, hy]
  exact congrArg some (if_pos hyi)

/-- The handle of an entry removed names none. -/
theorem State.entryAt_removed {s u : State} {h : Handle} {e : JEntry} (he : s.entryAt h = some e)
    (hrest : u.journal.entries = s.journal.entries.filter fun y => y.index != e.index) : u.entryAt h = none := by
  obtain ⟨hi, -⟩ := State.entryAt_key he
  refine List.find?_eq_none.mpr fun y hy => ?_
  rw [hrest] at hy
  have hne := (List.mem_filter.mp hy).2
  simp only [bne_iff_ne, ne_eq] at hne
  simp [hi ▸ hne]

/-! ## The reply body of an accepted CHUNK (Table 10-5) -/

/-- The bytes and the body state that a reply shows. -/
def chunkReply (v received state : Nat) (check : BitVec 64) : List Byte :=
  beBytes 4 v ++ beBytes 4 received ++ beBytes 1 state ++ beBytes 3 0 ++ beBytes 8 check.toNat

theorem State.chunkBody_some {s : State} {v : Nat} {e : JEntry} (check : BitVec 64)
    (h : s.entryAt (Handle.ofValue v) = some e) : s.chunkBody (Handle.ofValue v) check =
      chunkReply v ((e.fill.map fun f => f.bytes.length).getD 0) e.bodyState.code check := by
  simp only [State.chunkBody, h, Handle.value_ofValue]
  rfl

theorem State.chunkBody_none {s : State} {v : Nat} (check : BitVec 64) (h : s.entryAt (Handle.ofValue v) = none) :
    s.chunkBody (Handle.ofValue v) check = chunkReply v 0 0 check := by
  simp only [State.chunkBody, h, Handle.value_ofValue]
  rfl

theorem Drained.congr {s u s' u' : State} {b : Nat} (h : Drained s u b) (hs : s'.buckets = s.buckets)
    (hu : u'.buckets = u.buckets) (hentries : u'.journal.entries = u.journal.entries) : Drained s' u' b := by
  have hbefore : ∀ i, s'.bucket i = s.bucket i := fun i => congrArg (fun x => Table.get Bucket.reset i x) hs
  have hafter : ∀ i, u'.bucket i = u.bucket i := fun i => congrArg (fun x => Table.get Bucket.reset i x) hu
  constructor
  · rw [hbefore, hafter, hentries]
    exact h.passed
  · rw [hbefore, hafter, hentries]
    exact h.stays
  · intro i hi
    rw [hbefore, hafter]
    exact h.others i hi

/-! ## A fill given up (R68, R75) -/

/-- An entry has given up its fill: its slots are gone from the Body Store, and beside the entries, the map, the buckets and
the statistics nothing has changed. -/
def FillGone (s v : State) (e : JEntry) (x : PartStats) : Prop :=
  v = { s with
    journal := { s.journal with entries := v.journal.entries }
    body := bodyAfter s.body [e]
    map := v.map
    buckets := v.buckets
    sli := { s.sli with stats := x } }

/-- An entry removed. -/
structure Removed (s v : State) (e : JEntry) : Prop where
  entries : v.journal.entries = s.journal.entries.filter fun y => y.index != e.index
  map : v.map = mapAfter s.map [e]
  drained : Drained s v e.bucket

/-- An entry become VOID. -/
structure Voided (s v : State) (e : JEntry) : Prop where
  entries : v.journal.entries = s.journal.entries.map fun y => if y.index = e.index then
    { e with change := .void, bodyState := .ready, fill := none, refillTag := none } else y
  map : v.map = s.map
  buckets : v.buckets = s.buckets

theorem State.removeEntry_gone (s : State) (e : JEntry) : FillGone s (s.removeEntry e) e s.sli.stats := by
  unfold FillGone
  rw [State.removeEntry_eq]

theorem State.removeEntry_removed (s : State) (e : JEntry) : Removed s (s.removeEntry e) e where
  entries := congrArg (fun x : State => x.journal.entries) (s.removeEntry_eq e)
  map := congrArg (fun x : State => x.map) (s.removeEntry_eq e)
  drained := s.removeEntry_drained e

theorem State.loseEntry_gone (s : State) (e : JEntry) :
    FillGone s (s.loseEntry e) e { s.sli.stats with lostBodies := s.sli.stats.lostBodies + 1 } := by
  unfold FillGone State.loseEntry
  rw [State.removeEntry_eq]
  rfl

theorem State.loseEntry_removed (s : State) (e : JEntry) : Removed s (s.loseEntry e) e where
  entries := (s.removeEntry_removed e).entries
  map := (s.removeEntry_removed e).map
  drained := (s.removeEntry_drained e).congr rfl rfl rfl

theorem State.convertVoid_gone (s : State) (e : JEntry) :
    FillGone s (s.convertVoid e) e { s.sli.stats with voids := s.sli.stats.voids + 1 } := by
  unfold FillGone
  rw [State.convertVoid_eq]

theorem State.convertVoid_voided (s : State) (e : JEntry) : Voided s (s.convertVoid e) e where
  entries := congrArg (fun x : State => x.journal.entries) (s.convertVoid_eq e)
  map := (congrArg (fun x : State => x.map) (s.convertVoid_eq e) :)
  buckets := (congrArg (fun x : State => x.buckets) (s.convertVoid_eq e) :)

/-! ## CHUNK accepted (R67, R68) -/

section
variable {w : Wire} {s : State} {e : JEntry} {f : Fill}

/-- A CHUNK that goes on from the bytes received, within the body length. -/
structure ChunkTaken (w : Wire) (s : State) (e : JEntry) (f : Fill) : Prop where
  buf : s.sli.asm.buf = []
  check : bodyCheck w.body = w.check
  min : 8 ≤ w.body.length
  max : w.body.length ≤ 65520
  entry : s.entryAt (Handle.ofValue (fieldAt w.body 0 4)) = some e
  fill : e.fill = some f
  offset : fieldAt w.body 4 4 = f.bytes.length
  filling : e.bodyState = .filling ∨ e.bodyState = .refilling

theorem ChunkTaken.exec_eq (h : ChunkTaken w s e f) (hfits : f.bytes.length + (w.body.drop 8).length ≤ e.change.length) :
    exec (.chunk w) s = .next ((s.requestTaken.fillWith (Handle.ofValue (fieldAt w.body 0 4)) e f
      (w.body.drop 8)).replied 0x06#8 w) := by
  have hentry : s.requestTaken.entryAt (parseChunk w.body).handle = some e := h.entry
  have hoffset : (parseChunk w.body).offset = f.bytes.length := h.offset
  have hshort : ¬ e.change.length < (parseChunk w.body).offset + (parseChunk w.body).data.length := by
    rw [hoffset]
    exact Nat.not_lt.mpr hfits
  rw [exec_chunk_of_intact h.buf h.check h.min h.max,
    answerChunk_of_filling hentry ((JEntry.filling_iff e).mpr h.filling) h.fill, if_neg (not_not.mpr hoffset), if_neg hshort]
  rfl

theorem State.fillWith_partial {v : State} {h : Handle} {data : List Byte} (hlen : f.bytes.length + data.length < e.change.length) :
    v.fillWith h e f data = ⟨v.putEntry { e with fill := some (f.take data) }, .ok,
      (v.putEntry { e with fill := some (f.take data) }).chunkBody h 0⟩ := by
  refine if_neg fun hfull => ?_
  have hsum : (f.take data).bytes.length = f.bytes.length + data.length := List.length_append
  omega

theorem State.fillWith_full {v : State} {h : Handle} {data : List Byte} (hlen : e.change.length = f.bytes.length + data.length) :
    v.fillWith h e f data = v.fillComplete h e (f.take data) := by
  refine if_pos ?_
  have hsum : (f.take data).bytes.length = f.bytes.length + data.length := List.length_append
  omega

theorem State.fillComplete_ready {v : State} {h : Handle} (hcheck : photoFinish f.crc = e.change.check) :
    v.fillComplete h e f = ⟨v.putEntry { e with fill := some f, bodyState := .ready, refillTag := none }, .ok,
      (v.putEntry { e with fill := some f, bodyState := .ready, refillTag := none }).chunkBody h 0⟩ := if_pos hcheck

theorem State.fillComplete_failed {v : State} {h : Handle} (hcheck : photoFinish f.crc ≠ e.change.check) :
    v.fillComplete h e f = ⟨(v.fillFailed e).refillRefresh, .badCheck,
      (v.fillFailed e).refillRefresh.chunkBody h (photoFinish f.crc)⟩ := if_neg hcheck

/-- What a failed fill leaves beside its entry, and the reply. -/
theorem FillGone.replied {v : State} {x : PartStats} {y : List Byte} (h : FillGone s.requestTaken v e x) :
    let u := State.reply v.refillRefresh 0x06#8 w .badCheck y
    u.body = { bodyAfter s.body [e] with refillQueue := u.body.refillQueue } ∧ RefillCurrent u
      ∧ u.sli = { s.replied w 0x06#8 .badCheck y with stats := x }
      ∧ u.journal.gens = s.journal.gens ∧ u.ports = s.ports ∧ u.sups = s.sups ∧ u.apply = s.apply ∧ u.clock = s.clock
      ∧ u.now = s.now := by
  intro u
  have hframe : ∀ {α : Type} (g : State → α), g v = _ := fun g => congrArg g h
  have hbody : v.body = bodyAfter s.body [e] := hframe State.body
  refine ⟨congrArg (fun b : BodyStore => ({ b with refillQueue := u.body.refillQueue } : BodyStore)) hbody,
    RefillCurrent.congr rfl rfl rfl (State.refillRefresh_current v),
    congrArg (fun z : Sli => ({ z with replies := z.replies ++ [_] } : Sli)) (hframe State.sli),
    (hframe fun z => z.journal.gens :), (hframe State.ports :), (hframe State.sups :), (hframe State.apply :),
    (hframe State.clock :), (hframe State.now :)⟩

/-- A full fill whose check differs, up to what becomes of the entry. -/
theorem ChunkTaken.exec_failed (h : ChunkTaken w s e f)
    (hfull : e.change.length = f.bytes.length + (w.body.drop 8).length)
    (hcheck : photoFinish (photoFold f.crc (w.body.drop 8)) ≠ e.change.check) {n : Nat}
    (hbody : (s.requestTaken.fillFailed e).refillRefresh.chunkBody (Handle.ofValue (fieldAt w.body 0 4))
      (photoFinish (photoFold f.crc (w.body.drop 8))) =
        chunkReply (fieldAt w.body 0 4) 0 n (photoFinish (photoFold f.crc (w.body.drop 8)))) :
    exec (.chunk w) s = .next (State.reply (s.requestTaken.fillFailed e).refillRefresh 0x06#8 w .badCheck
      (chunkReply (fieldAt w.body 0 4) 0 n (photoFinish (photoFold f.crc (w.body.drop 8))))) := by
  rw [h.exec_eq hfull.ge, State.fillWith_full hfull, State.fillComplete_failed (f := f.take _) hcheck, Answer.replied]
  exact congrArg (fun y => Host.Outcome.next (State.reply _ _ _ _ y)) hbody

end

/-- An entry's slots are those of its fill. -/
theorem JEntry.slotsHeld_of_fill {e : JEntry} {f : Fill} (h : e.fill = some f) : e.slotsHeld = f.slots := by
  simp [JEntry.slotsHeld, h]

/-- Settles O29: the chunk that leaves the fill partial, and the full fill by its check, its state and its seal. -/
theorem chunkFillsAndCompletes : Obligations.ChunkFillsAndCompletes := by
  intro w s e f hbuf hcheck hmin hmax hentry hfill hoffset hfilling data crc full put rest body failed
  have h : ChunkTaken w s e f := ⟨hbuf, hcheck, hmin, hmax, hentry, hfill, hoffset, hfilling⟩
  have hsum : (f.take data).bytes.length = f.bytes.length + data.length := List.length_append
  have hput : ∀ x : JEntry, x.index = e.index → x.gen = e.gen →
      (s.requestTaken.putEntry x).entryAt (Handle.ofValue (fieldAt w.body 0 4)) = some x := by
    intro x hi hg
    refine State.entryAt_put hentry hi hg ?_
    rw [← hi]
    rfl
  have hslots : ∀ u : State, u.body = { bodyAfter s.body [e] with refillQueue := u.body.refillQueue } →
      u.body.outUse = s.body.outUse - f.slots := fun u hu => by
    rw [← JEntry.slotsHeld_of_fill hfill, ← bodyAfter_outUse]
    exact (congrArg BodyStore.outUse hu :)
  refine ⟨fun hlen => ?_, fun hfull hok => ?_, fun hfull hbad hstate => ?_, fun hfull hbad hstate hseq => ?_,
    fun hfull hbad hstate hseq => ?_⟩
  · rw [h.exec_eq hlen.le, State.fillWith_partial hlen, Answer.replied,
      State.chunkBody_some 0 (hput { e with fill := some (f.take data) } rfl rfl)]
    simp only [Option.map_some, Option.getD_some, hsum]
    rfl
  · rw [h.exec_eq hfull.ge, State.fillWith_full hfull, State.fillComplete_ready (f := f.take data) hok, Answer.replied,
      State.chunkBody_some 0 (hput { e with fill := some (f.take data), bodyState := .ready, refillTag := none } rfl rfl)]
    simp only [Option.map_some, Option.getD_some, hsum]
    rfl
  · have hcase : s.requestTaken.fillFailed e = s.requestTaken.removeEntry e := if_pos hstate
    have hremoved := s.requestTaken.removeEntry_removed e
    have hgone := s.requestTaken.removeEntry_gone e
    rw [← hcase] at hremoved hgone
    rw [State.requestTaken_stats] at hgone
    have hexec := h.exec_failed hfull hbad (State.chunkBody_none _ (State.entryAt_removed hentry hremoved.entries))
    have hrest := hgone.replied (w := w) (y := chunkReply (fieldAt w.body 0 4) 0 0 (photoFinish crc))
    exact ⟨_, hexec, hremoved.entries, hslots _ hrest.1, hremoved.map, hremoved.drained.congr rfl rfl rfl, hrest⟩
  · have hcase : s.requestTaken.fillFailed e = s.requestTaken.loseEntry e := by
      rw [State.fillFailed, if_neg (by rw [hstate]; decide), if_pos (by rw [hseq]; rfl)]
    have hremoved := s.requestTaken.loseEntry_removed e
    have hgone := s.requestTaken.loseEntry_gone e
    rw [← hcase] at hremoved hgone
    rw [State.requestTaken_stats] at hgone
    have hexec := h.exec_failed hfull hbad (State.chunkBody_none _ (State.entryAt_removed hentry hremoved.entries))
    have hrest := hgone.replied (w := w) (y := chunkReply (fieldAt w.body 0 4) 0 0 (photoFinish crc))
    exact ⟨_, hexec, hremoved.entries, hslots _ hrest.1, hremoved.map, hremoved.drained.congr rfl rfl rfl, hrest⟩
  · have hcase : s.requestTaken.fillFailed e = s.requestTaken.convertVoid e := by
      have hsealed : ¬ e.seq.isNone = true := by
        rw [Option.isNone_iff_eq_none, ← Option.not_isSome_iff_eq_none]
        exact not_not.mpr hseq
      rw [State.fillFailed, if_neg (by rw [hstate]; decide), if_neg hsealed]
    have hvoided := s.requestTaken.convertVoid_voided e
    have hgone := s.requestTaken.convertVoid_gone e
    rw [← hcase] at hvoided hgone
    rw [State.requestTaken_stats] at hgone
    have hfound : (s.requestTaken.fillFailed e).refillRefresh.entryAt (Handle.ofValue (fieldAt w.body 0 4)) = some
        { e with change := .void, bodyState := .ready, fill := none, refillTag := none } :=
      State.entryAt_put hentry rfl rfl hvoided.entries
    have hexec := h.exec_failed (n := 2) hfull hbad (State.chunkBody_some _ hfound)
    have hrest := hgone.replied (w := w) (y := chunkReply (fieldAt w.body 0 4) 0 2 (photoFinish crc))
    exact ⟨_, hexec, hvoided.entries, hslots _ hrest.1, hvoided.map, hvoided.buckets, hrest⟩

/-! ## BODY_WANTED_REPLY (R74 to R76) -/

theorem resultOk_iff (r : BitVec 16) : resultOk r = true ↔ r = 0#16 := by
  have hcode : Result.ok.code = (0#16).toNat := rfl
  rw [resultOk, beq_iff_eq, hcode]
  exact ⟨BitVec.eq_of_toNat_eq, congrArg _⟩

/-- A host reply's record is taken, and its tag leaves the table (R182). -/
def State.answerTaken (s : State) (w : Wire) : State := { s with
  sli := { s.recordTaken.sli with tags := s.sli.tags.filter fun x => x.1 != w.tag.toNat } }

theorem Sli.restartSent_stats (x : Sli) : x.restartSent.stats = x.stats := by
  unfold Sli.restartSent
  split
  · exact x.replySent_stats
  · rfl

theorem State.recordTaken_stats (s : State) : s.recordTaken.sli.stats = s.sli.stats := s.sli.recordEnds.restartSent_stats

theorem State.answerTaken_stats (s : State) (w : Wire) : (s.answerTaken w).sli.stats = s.sli.stats := s.recordTaken_stats

/-- A sound reply to an outstanding tag goes to its owner, and the tag leaves the table (R182). -/
theorem State.hostReply_outstanding {s : State} {kind : Byte} {w : Wire} {k : PartKind} (result : BitVec 16)
    (hcheck : bodyCheck w.body = w.check) (htag : s.sli.tags.lookup w.tag.toNat = some k) (hkind : k.code = kind) :
    s.hostReply kind result w = (s.answerTaken w).ownerAnswer k w.tag.toNat (resultOk result) := by
  have hfound : s.recordTaken.sli.outstanding kind w.tag.toNat = some k := by
    unfold Sli.outstanding
    rw [State.recordTaken_tags, htag]
    simp [hkind]
  have hdrop : s.recordTaken.dropTag w.tag.toNat = s.answerTaken w := by
    rw [State.answerTaken, ← State.recordTaken_tags]
    rfl
  rw [State.hostReply_sound s kind result hcheck, hfound, ← hdrop]

section
variable {v : State} {tag : Nat} {h : Handle} (hlookup : v.body.refillTable.lookup tag = some h)
include hlookup

/-- The refill table without a tag's record. -/
theorem State.bodyAnswer_ok : v.bodyAnswer tag true =
    v.setBody { v.body with refillTable := v.body.refillTable.filter fun x => x.1 != tag } := by
  simp [State.bodyAnswer, hlookup]

theorem State.bodyAnswer_stray (ok : Bool)
    (hnone : ∀ e, v.entryAt h = some e → ¬ (e.bodyState = .refilling ∧ e.refillTag = some tag)) :
    v.bodyAnswer tag ok = v.setBody { v.body with refillTable := v.body.refillTable.filter fun x => x.1 != tag } := by
  have hrefilled : (v.setBody { v.body with refillTable := v.body.refillTable.filter fun x => x.1 != tag }).refilled tag h
      = none := by
    refine Option.filter_eq_none_iff.mpr fun e he => ?_
    simpa using hnone e he
  unfold State.bodyAnswer
  simp only [hlookup, hrefilled, ite_self]

theorem State.bodyAnswer_gone {e : JEntry} (he : v.entryAt h = some e) (hstate : e.bodyState = .refilling)
    (htag : e.refillTag = some tag) : v.bodyAnswer tag false =
      ((v.setBody { v.body with refillTable := v.body.refillTable.filter fun x => x.1 != tag }).bodyGone e).refillRefresh := by
  have hrefilled : (v.setBody { v.body with refillTable := v.body.refillTable.filter fun x => x.1 != tag }).refilled tag h
      = some e := by
    unfold State.refilled
    have hfound : (v.setBody { v.body with refillTable := v.body.refillTable.filter fun x => x.1 != tag }).entryAt h = some e := he
    rw [hfound]
    simp [hstate, htag]
  unfold State.bodyAnswer
  simp only [hlookup, hrefilled, Bool.false_eq_true, if_false]

end

theorem State.bodyGone_unsealed {v : State} {e : JEntry} (h : e.seq = none) : v.bodyGone e = v.loseEntry e :=
  if_pos (by rw [h]; rfl)

theorem State.bodyGone_sealed {v : State} {e : JEntry} (h : e.seq.isSome = true) : v.bodyGone e = v.convertVoid e :=
  if_neg (by rwa [Option.isNone_iff_eq_none, ← ne_eq, ← Option.isSome_iff_ne_none])

/-- What a body gone leaves beside its entry, once the refill queue follows. -/
theorem FillGone.refreshed {v x : State} {e : JEntry} {y : PartStats} (h : FillGone v x e y) :
    let u := x.refillRefresh
    u.body = { bodyAfter v.body [e] with refillQueue := u.body.refillQueue } ∧ RefillCurrent u
      ∧ u.journal.gens = v.journal.gens ∧ u.sli = { v.sli with stats := y } ∧ u.ports = v.ports ∧ u.sups = v.sups
      ∧ u.apply = v.apply ∧ u.clock = v.clock := by
  intro u
  have hframe : ∀ {α : Type} (g : State → α), g x = _ := fun g => congrArg g h
  have hbody : x.body = bodyAfter v.body [e] := hframe State.body
  exact ⟨congrArg (fun b : BodyStore => ({ b with refillQueue := u.body.refillQueue } : BodyStore)) hbody,
    State.refillRefresh_current x, (hframe fun z => z.journal.gens :), (hframe State.sli :), (hframe State.ports :),
    (hframe State.sups :), (hframe State.apply :), (hframe State.clock :)⟩

/-- Settles O31: the record leaves the table in every case; a refilling entry whose body is gone is lost or VOID by its
seal. -/
theorem bodyWantedAnswered : Obligations.BodyWantedAnswered := by
  intro result w s h hbuf hcheck htag hlookup s1
  have hexec : exec (.bodyWantedReply 0x41#8 result w) s =
      .next ((s.answerTaken w).bodyAnswer w.tag.toNat (resultOk result)) := by
    rw [exec_hostReply .bodyWantedReply (by simp) 0x41#8 result w s hbuf,
      State.hostReply_outstanding (kind := 0x41#8) result hcheck htag rfl]
    rfl
  rw [hexec]
  refine ⟨fun hok => ?_, fun hstray => ?_, fun e hbad he hstate hrefill => ?_⟩
  · rw [(resultOk_iff result).mpr hok, (s.answerTaken w).bodyAnswer_ok hlookup]
    rfl
  · rw [(s.answerTaken w).bodyAnswer_stray hlookup _ hstray]
    rfl
  have hresult : resultOk result = false := by
    rw [← Bool.not_eq_true, resultOk_iff]
    exact hbad
  have hstats : s1.sli.stats = s.sli.stats := s.recordTaken_stats
  rw [hresult, (s.answerTaken w).bodyAnswer_gone hlookup he hstate hrefill]
  refine ⟨fun hseq => ?_, fun hseq => ?_⟩
  · rw [State.bodyGone_unsealed hseq]
    have hremoved := s1.loseEntry_removed e
    obtain ⟨hbody, hrefill, hgens, hsli, hports, hsups, happly, hclock⟩ := (s1.loseEntry_gone e).refreshed
    rw [hstats] at hsli
    exact ⟨_, rfl, (congrArg BodyStore.refillTable hbody :), hremoved.entries, hbody, hremoved.map, hrefill,
      hremoved.drained.congr rfl rfl rfl, hgens, hsli, hports, hsups, happly, hclock⟩
  · rw [State.bodyGone_sealed hseq]
    have hvoided := s1.convertVoid_voided e
    obtain ⟨hbody, hrefill, hgens, hsli, hports, hsups, happly, hclock⟩ := (s1.convertVoid_gone e).refreshed
    rw [hstats] at hsli
    exact ⟨_, rfl, (congrArg BodyStore.refillTable hbody :), hvoided.entries, hbody, hrefill, hgens, hsli, hvoided.buckets,
      hvoided.map, hports, hsups, happly, hclock⟩

end Sys2Proof.Machine

/-! # The Body Store: BODY_WANTED_SEND and PARK_ENTRY -/

namespace Sys2Proof.Machine

/-! ## The lowest free number -/

theorem lowestFree_eq (lo : Nat) (used : List Nat) : lowestFree lo used =
    (((List.range (used.length + 1)).find? fun k => !used.contains (lo + k)).map (lo + ·)).getD lo := by
  rw [lowestFree, List.find?_map]
  rfl

theorem le_lowestFree (lo : Nat) (used : List Nat) : lo ≤ lowestFree lo used := by
  rw [lowestFree_eq]
  cases (List.range (used.length + 1)).find? fun k => !used.contains (lo + k) with
  | none => exact Nat.le_refl lo
  | some k => exact Nat.le_add_right lo k

/-- No number from the base up to the lowest free one is free. -/
theorem mem_of_between_lowestFree {lo n : Nat} {used : List Nat} (hlo : lo ≤ n) (hn : n < lowestFree lo used) : n ∈ used := by
  rw [lowestFree_eq] at hn
  cases hfind : (List.range (used.length + 1)).find? fun k => !used.contains (lo + k) with
  | none =>
    rw [hfind] at hn
    exact absurd hn (Nat.not_lt.mpr hlo)
  | some k =>
    rw [hfind] at hn
    have hn' : n < lo + k := hn
    have hno := (List.find?_range_eq_some.mp hfind).2.2 (n - lo) (by omega)
    rw [Nat.add_sub_cancel' hlo] at hno
    simpa using hno

/-! ## BODY_WANTED_SEND (R73) -/

theorem State.refillFits_iff (s : State) (e : JEntry) : s.refillFits e = true ↔
    s.body.refillTable.length < 64 ∧ s.body.outUse + (e.change.length + 8127) / 8128 ≤ 589824 := by
  rw [← slotsFor_eq, State.refillFits, Bool.and_eq_true, decide_eq_true_iff, decide_eq_true_iff]
  rfl

/-- The entry that is asked for, before its slots are reserved. -/
def State.wanted (s : State) (e : JEntry) : JEntry := { e with bodyState := .refilling, refillTag := some s.refillTagNext }

theorem State.wantBody_entries (s : State) (e : JEntry) : (s.wantBody e).journal.entries =
    s.journal.entries.map fun x => if x.index = e.index then { s.wanted e with
      fill := if e.change.length = 0 then e.fill else some ⟨slotsFor e.change.length, [], photoStart⟩ } else x := by
  have hentries : (s.wantBody e).journal.entries =
      if e.change.length = 0 then s.journal.entries.map fun x => if x.index = e.index then s.wanted e else x
      else (s.journal.entries.map fun x => if x.index = e.index then s.wanted e else x).map fun x =>
        if x.index = e.index then { s.wanted e with fill := some ⟨slotsFor e.change.length, [], photoStart⟩ } else x :=
    State.reserveSlots_entries (s.putEntry (s.wanted e)) (s.wanted e)
  rw [hentries]
  by_cases hlen : e.change.length = 0
  · rw [if_pos hlen, if_pos hlen]
    rfl
  · rw [if_neg hlen, if_neg hlen, map_put_put]
    rfl

theorem State.wantBody_body (s : State) (e : JEntry) : (s.wantBody e).body = { s.body with
    outUse := s.body.outUse + slotsFor e.change.length
    reservation := if e.change.length = 0 then s.body.reservation else s.body.reservation ++ [e.index]
    parkOn := s.body.parkOn || decide (e.change.length ≠ 0 ∧ 524288 ≤ s.body.outUse + slotsFor e.change.length)
    refillTable := s.body.refillTable ++ [(s.refillTagNext, e.handle)]
    refillQueue := (s.wantBody e).body.refillQueue } := by
  have hbody := (s.putEntry (s.wanted e)).reserveSlots_body (s.wanted e)
  exact congrArg (fun b : BodyStore => ({ b with
    refillTable := b.refillTable ++ [(s.refillTagNext, e.handle)]
    refillQueue := (s.wantBody e).body.refillQueue } : BodyStore)) hbody

theorem Sli.latch_partQueue (x : Sli) (l : PartLatch) : (x.latch l).partQueue = x.partQueue := by
  unfold Sli.latch
  split
  · rfl
  · rw [Sli.reportIf_eq]

theorem State.wantBody_sli (s : State) (e : JEntry) :
    let x : Sli := if s.body.parkOn = false ∧ e.change.length ≠ 0 ∧ 524288 ≤ s.body.outUse + slotsFor e.change.length then
      s.sli.latch .parking else s.sli
    let z := (s.wantBody e).sli
    z.partQueue = s.sli.partQueue ++ [bodyWantedRecord s.refillTagNext e]
      ∧ z.stats = { s.sli.stats with refills := s.sli.stats.refills + 1 } ∧ z.replies = s.sli.replies
      ∧ z = { x with partQueue := z.partQueue, stats := z.stats } := by
  intro x z
  have hx : x.partQueue = s.sli.partQueue ∧ x.stats = s.sli.stats ∧ x.replies = s.sli.replies := by
    unfold x
    split
    · exact ⟨Sli.latch_partQueue _ _, Sli.latch_stats _ _, Sli.latch_replies _ _⟩
    · exact ⟨rfl, rfl, rfl⟩
  obtain ⟨hqueue, hstats, hreplies⟩ := hx
  have hz : z = { x with
      partQueue := x.partQueue ++ [bodyWantedRecord s.refillTagNext e]
      stats := { x.stats with refills := x.stats.refills + 1 } } :=
    congrArg (fun y : Sli => ({ y with
      partQueue := y.partQueue ++ [bodyWantedRecord s.refillTagNext e]
      stats := { y.stats with refills := y.stats.refills + 1 } } : Sli))
      ((s.putEntry (s.wanted e)).reserveSlots_sli (s.wanted e))
  refine ⟨?_, ?_, ?_, ?_⟩
  · rw [hz, ← hqueue]
  · rw [hz, ← hstats]
  · rw [hz, ← hreplies]
  · rw [hz]

theorem State.wantBody_rest (s : State) (e : JEntry) : let u := s.wantBody e
    RefillCurrent u ∧ u.clock = s.clock ∧ u.buckets = s.buckets ∧ u.map = s.map ∧ u.ports = s.ports
      ∧ u.sups = s.sups ∧ u.apply = s.apply := by
  intro u
  refine ⟨State.refillRefresh_current _, ?_⟩
  simp only [u, State.wantBody]
  simp

/-! ## PARK_ENTRY (R70, R71) -/

/-- An entry that may be parked: ready, with no frame out, and no pending slot of an available trunk. -/
def State.ParkCandidate (s : State) (e : JEntry) : Prop := e.bodyState = .ready ∧ e.framesOut = 0
  ∧ ∀ t, e.peers.get t = none ∨ (s.port t).state ≠ .running ∧ (s.port t).state ≠ .resync

theorem State.parkable_iff (s : State) (e : JEntry) : s.parkable e = true ↔ s.ParkCandidate e := by
  simp only [State.parkable, State.available, State.ParkCandidate, Bool.and_eq_true, decide_eq_true_eq, List.all_eq_true,
    Bool.or_eq_true, Option.isNone_iff_eq_none, Bool.not_eq_true', Bool.or_eq_false_iff, decide_eq_false_iff_not, beq_iff_eq,
    Trunk.mem_all, forall_const, ne_eq]
  tauto

theorem State.parkCandidate_first {s : State} {xs ys : List Nat} {i : Nat} {e : JEntry}
    (hsplit : s.body.reservation = xs ++ i :: ys) (hxs : ∀ j ∈ xs, ∀ x, s.entryOf j = some x → ¬ s.ParkCandidate x)
    (hi : s.entryOf i = some e) (he : s.ParkCandidate e) : s.parkCandidate = some e := by
  have hnone : xs.findSome? (fun i => (s.entryOf i).filter s.parkable) = none :=
    List.findSome?_eq_none_iff.mpr fun j hj => Option.filter_eq_none_iff.mpr fun x hx =>
      mt (s.parkable_iff x).mp (hxs j hj x hx)
  rw [State.parkCandidate, hsplit, List.findSome?_append, hnone, Option.none_or, List.findSome?_cons, hi,
    Option.filter_some, if_pos ((s.parkable_iff e).mpr he)]

theorem State.parkCandidate_none {s : State}
    (h : ∀ i ∈ s.body.reservation, ∀ x, s.entryOf i = some x → ¬ s.ParkCandidate x) : s.parkCandidate = none :=
  List.findSome?_eq_none_iff.mpr fun j hj => Option.filter_eq_none_iff.mpr fun x hx => mt (s.parkable_iff x).mp (h j hj x hx)

theorem State.park_eq {s : State} {e : JEntry} {f : Fill} (hfill : e.fill = some f) (hon : s.body.parkOn = true) :
    s.park e = { s with
      journal := { s.journal with entries := s.journal.entries.map fun x =>
        if x.index = e.index then { e with fill := none, bodyState := .parked } else x }
      body := { s.body with
        outUse := s.body.outUse - f.slots
        reservation := s.body.reservation.filter fun j => j != e.index
        parkOn := decide (458752 < s.body.outUse - f.slots) }
      sli := { s.sli with stats := { s.sli.stats with parks := s.sli.stats.parks + 1 } } } := by
  have hbody : bodyAfter s.body [e] = { s.body with
      outUse := s.body.outUse - f.slots
      reservation := s.body.reservation.filter fun j => j != e.index
      parkOn := decide (458752 < s.body.outUse - f.slots) } := by
    simp [bodyAfter, hfill, hon, JEntry.slotsHeld, bne, Bool.beq_comm, ← decide_not, Nat.lt_sub_iff_add_lt]
  have hentries := s.releaseSlots_put e (y := { e with fill := none, bodyState := .parked })
  unfold State.park
  rw [State.releaseSlots_eq]
  simp only [State.putEntry, State.setJournal, State.setStats, State.setSli, hbody, hentries]

/-- Settles O30: the head of the refill queue asked for, the queue brought up to date, and the candidate parked. -/
theorem bodyStoreRequests : Obligations.BodyStoreRequests := by
  refine ⟨fun s i rest e hqueue hentry => ?_, fun s hempty => ?_, fun s => ⟨s.refillRefresh_current, s.refillRefresh_eq⟩,
    fun s xs ys i e f hon hsplit hxs hi he hfill => ?_, fun s hno => ?_⟩
  · intro slots
    have hhead : s.refillHead = if s.refillFits e then s.wantBody e else s := by
      simp only [State.refillHead, hqueue, hentry]
    have hfits := s.refillFits_iff e
    refine ⟨fun htable hroom => ?_, fun hfull => ?_⟩
    · have hexec : exec .bodyWantedSend s = .next (s.wantBody e) :=
        congrArg Host.Outcome.next (hhead.trans (if_pos (hfits.mpr ⟨htable, hroom⟩)))
      have hentries := s.wantBody_entries e
      have hbody := s.wantBody_body e
      obtain ⟨hpart, hstats, hreplies, hsli⟩ := s.wantBody_sli e
      obtain ⟨hrefill, hrest⟩ := s.wantBody_rest e
      rw [slotsFor_eq] at hentries hbody hsli
      generalize s.wantBody e = u at *
      have htag : ∀ x ∈ s.body.refillTable, x.1 ≠ s.refillTagNext := fun x hx h =>
        lowestFree_spec _ _ (List.mem_map.mpr ⟨x, hx, h⟩)
      refine ⟨u, s.refillTagNext, hexec, le_lowestFree _ _, htag,
        fun n hlo hn => List.mem_map.mp (mem_of_between_lowestFree hlo hn), hentries, (congrArg BodyStore.refillTable hbody :),
        (congrArg BodyStore.outUse hbody :), (congrArg BodyStore.inUse hbody :), hpart, hstats,
        (congrArg BodyStore.reservation hbody :), hrefill, ⟨?_, hsli⟩, hreplies, hrest⟩
      rw [hbody]
      show (s.body.parkOn || decide _) = true ↔ _
      cases s.body.parkOn <;> simp [slots]
    · refine congrArg Host.Outcome.next (hhead.trans (if_neg fun h => ?_))
      obtain ⟨htable, hroom⟩ := hfits.mp h
      omega
  · have hhead : s.refillHead = s := by rw [State.refillHead, hempty]
    exact congrArg Host.Outcome.next hhead
  · have hnext : s.parkNext = s.park e := by
      rw [State.parkNext, if_pos hon, State.parkCandidate_first hsplit hxs hi he]
    exact congrArg Host.Outcome.next (hnext.trans (State.park_eq hfill hon))
  · have hnext : s.parkNext = s := by
      rcases hno with hoff | hnone
      · exact if_neg (by rw [hoff]; exact Bool.false_ne_true)
      · rw [State.parkNext, State.parkCandidate_none hnone, ite_self]
    exact congrArg Host.Outcome.next hnext

end Sys2Proof.Machine

/-! # Requests about a trunk: TRUNK_ENABLE, TRUNK_TEST and TRUNK_CLEAR -/

namespace Sys2Proof.Machine

/-! ## TRUNK_ENABLE (R87) -/

section
variable {body : List Byte} {s : State} {t : Trunk}

theorem answerTrunkEnable_eq (ht : fieldAt body 0 1 = t.index) : answerTrunkEnable body s =
    match s.enableRefusal t with
    | some r => ⟨s, r, zeroBody 4⟩
    | none => ⟨s.enable t, .ok, (s.enable t).stateBody t⟩ := by
  rw [answerTrunkEnable, parseFirst, ht, forTrunk_index] <;> rfl

theorem answerTrunkEnable_refused {r : Result} (ht : fieldAt body 0 1 = t.index) (h : s.enableRefusal t = some r) :
    answerTrunkEnable body s = ⟨s, r, zeroBody 4⟩ := by
  rw [answerTrunkEnable_eq ht, h]

theorem answerTrunkEnable_ok (ht : fieldAt body 0 1 = t.index) (h : s.enableRefusal t = none) :
    answerTrunkEnable body s = ⟨s.enable t, .ok, (s.enable t).stateBody t⟩ := by
  rw [answerTrunkEnable_eq ht, h]

/-- The reply body of a state request, from the state the port is left in (Table 10-9). -/
theorem State.stateBody_of_state {x : TrunkState} (h : (s.port t).state = x) :
    s.stateBody t = beBytes 1 t.index ++ (beBytes 1 x.code ++ [0#8, 0#8]) := by
  rw [State.stateBody, h, List.append_assoc]
  rfl

theorem State.enableRefusal_wrongState (h : (s.port t).state ≠ .off) : s.enableRefusal t = some .wrongState := if_pos h

theorem State.enableRefusal_notReady (hoff : (s.port t).state = .off) (h : ¬ (s.clock.set = true ∧ s.clock.site ≠ none)) :
    s.enableRefusal t = some .notReady := by
  have hnot : s.clock.set = false ∨ s.clock.site = none := by
    rw [← Bool.not_eq_true]
    exact (not_and_or.mp h).imp_right not_not.mp
  rw [State.enableRefusal, if_neg (not_not.mpr hoff), if_pos hnot]

/-- The clock is set and the site id given: the first two checks pass. -/
theorem State.enableRefusal_ready (hoff : (s.port t).state = .off) (h : s.clock.set = true ∧ s.clock.site ≠ none) :
    s.enableRefusal t = if (s.port t).config.peer.isNone then some .badArgument else none := by
  have hready : ¬ (s.clock.set = false ∨ s.clock.site = none) := by
    rw [← Bool.not_eq_true]
    exact not_or.mpr ⟨not_not.mpr h.1, h.2⟩
  rw [State.enableRefusal, if_neg (not_not.mpr hoff), if_neg hready]

end

/-- Settles O34: the checks of R87 one by one, and the port that an accepted TRUNK_ENABLE leaves. -/
theorem trunkEnabled : Obligations.TrunkEnabled := by
  refine ⟨fun w s hw habove => ?_, fun w s t hw ht => ?_⟩
  · have hanswer : answerTrunkEnable w.body s.requestTaken = _ := forTrunk_above 4 s.requestTaken _ habove
    rw [hw.exec_eq rfl rfl, hanswer]
    rfl
  intro p ready
  refine ⟨fun hon => ?_, fun hoff hnot => ?_, fun hoff hready hpeer => ?_, fun hoff hready hpeer => ?_⟩
  · rw [hw.exec_eq rfl rfl, answerTrunkEnable_refused (s := s.requestTaken) ht (State.enableRefusal_wrongState hon)]
    rfl
  · rw [hw.exec_eq rfl rfl, answerTrunkEnable_refused (s := s.requestTaken) ht (State.enableRefusal_notReady hoff hnot)]
    rfl
  · have hrefusal : s.requestTaken.enableRefusal t = some .badArgument :=
      (State.enableRefusal_ready hoff hready).trans (if_pos (Option.isNone_iff_eq_none.mpr hpeer))
    rw [hw.exec_eq rfl rfl, answerTrunkEnable_refused (s := s.requestTaken) ht hrefusal]
    rfl
  · have hrefusal : s.requestTaken.enableRefusal t = none :=
      (State.enableRefusal_ready hoff hready).trans (if_neg (mt Option.isNone_iff_eq_none.mp hpeer))
    have hstate : ((s.requestTaken.enable t).port t).state = .hunt := by simp [State.enable, Port.enabled, State.port]
    rw [hw.exec_eq rfl rfl, answerTrunkEnable_ok (s := s.requestTaken) ht hrefusal, State.stateBody_of_state hstate,
      State.enable, Port.enabled, Port.stagedInForce_eq]
    rfl

/-! ## TRUNK_TEST (R104) -/

section
variable {body : List Byte} {s : State} {t : Trunk}

/-- Only the codes 0 to 5 are patterns (Table 10-11). -/
theorem Pattern.ofCode?_above {n : Nat} (h : 5 < n) : Pattern.ofCode? n = none := by
  obtain ⟨k, rfl⟩ := Nat.exists_eq_add_of_lt h
  rw [show 5 + k + 1 = k + 6 by omega]
  rfl

theorem answerTrunkTest_eq (ht : fieldAt body 0 1 = t.index) : answerTrunkTest body s =
    match Pattern.ofCode? (fieldAt body 1 1), Pattern.ofCode? (fieldAt body 2 1) with
    | some send, some check =>
      if (s.port t).state ≠ .off then ⟨s, .wrongState, zeroBody 4⟩
      else
        ⟨s.setPort t ((s.port t).testing s.now send check (parseTest body).custom1 (parseTest body).custom2), .ok,
          (s.setPort t ((s.port t).testing s.now send check (parseTest body).custom1 (parseTest body).custom2)).stateBody t⟩
    | _, _ => ⟨s, .badArgument, zeroBody 4⟩ := by
  have htrunk : (parseTest body).trunk = t.index := ht
  rw [answerTrunkTest, htrunk, forTrunk_index] <;> rfl

theorem Trunk.ofNat?_some {n : Nat} {t : Trunk} (h : Trunk.ofNat? n = some t) : n = t.index := by
  match n, h with
  | 0, rfl => rfl
  | 1, rfl => rfl
  | 2, rfl => rfl
  | 3, rfl => rfl

theorem answerTrunkTest_badArgument (h : 3 < fieldAt body 0 1 ∨ 5 < fieldAt body 1 1 ∨ 5 < fieldAt body 2 1) :
    answerTrunkTest body s = ⟨s, .badArgument, zeroBody 4⟩ := by
  cases hnumber : Trunk.ofNat? (fieldAt body 0 1) with
  | none =>
    have htrunk : Trunk.ofNat? (parseTest body).trunk = none := hnumber
    simp only [answerTrunkTest, forTrunk, htrunk]
  | some t =>
    have ht : fieldAt body 0 1 = t.index := Trunk.ofNat?_some hnumber
    have hle : t.index ≤ 3 := by cases t <;> decide
    rw [answerTrunkTest_eq ht]
    rcases h with h | h | h
    · omega
    · rw [Pattern.ofCode?_above h]
    · rw [Pattern.ofCode?_above h]
      split
      · next hcheck => cases hcheck
      · rfl

end

/-! ## Arrivals by the trunk's state (R82, R92) -/

section
variable {s : State} {t : Trunk}

theorem State.arrival_off (handle : State → State) (h : (s.port t).state = .off) : s.arrival t handle = s := by
  rw [State.arrival, h]

theorem State.arrival_test (handle : State → State) (h : (s.port t).state = .test) :
    s.arrival t handle = s.countArrival t := by
  rw [State.arrival, h]

theorem State.invalidFrame_test (h : (s.port t).state = .test) : s.invalidFrame t = s.testArrival t false := by
  rw [State.invalidFrame, h]

/-- A valid frame that carries no sender, in the words of Safety.lean (R160, R98). -/
theorem State.plainArrival_eq (s : State) (t : Trunk) : s.plainArrival t =
    (s.arrivedWith t false false (decide ((s.port t).state ∈ [TrunkState.hunt, .align, .running, .resync]))).passedLock t := by
  rw [State.plainArrival, State.otherArrival_eq, State.reported_eq, State.otherMarks, TrunkState.locking_eq]

theorem State.testArrival_eq (s : State) (t : Trunk) (good : Bool) : s.testArrival t good = { s with
    ports := s.ports.set t { s.port t with
      rxPos := (s.port t).rxPos + 1
      stats := { (s.port t).stats with framesReceived := (s.port t).stats.framesReceived + 1 }
      test := if good then { (s.port t).test with good := bumpTest (s.port t).test.good }
        else { (s.port t).test with mismatched := bumpTest (s.port t).test.mismatched } } } := by
  simp only [State.testArrival, State.testVerdict, State.countArrival, State.setPort, State.port, Quad.get_set_self,
    Quad.set_set]

theorem exec_testFrame_off (counter : BitVec 32) (payload : List Byte) (h : (s.port t).state = .off) :
    exec (.testFrameReceived t counter payload) s = .next s := by
  have hexec : exec (.testFrameReceived t counter payload) s = execTestFrameReceived t counter payload s := rfl
  rw [hexec, execTestFrameReceived, h]

theorem exec_testFrame_test (counter : BitVec 32) (payload : List Byte) (h : (s.port t).state = .test) :
    exec (.testFrameReceived t counter payload) s = .next (s.testArrival t ((s.port t).test.matches counter payload)) := by
  have hexec : exec (.testFrameReceived t counter payload) s = execTestFrameReceived t counter payload s := rfl
  rw [hexec, execTestFrameReceived, h]

theorem exec_testFrame_other (counter : BitVec 32) (payload : List Byte) (hoff : (s.port t).state ≠ .off)
    (htest : (s.port t).state ≠ .test) : exec (.testFrameReceived t counter payload) s = .next (s.plainArrival t) := by
  have hexec : exec (.testFrameReceived t counter payload) s = execTestFrameReceived t counter payload s := rfl
  rw [hexec]
  simp only [execTestFrameReceived]

end

/-- Settles O37: the checks of TRUNK_TEST, the port in TEST, and the verdict on each kind of arrival there. -/
theorem testStartedAndJudged : Obligations.TestStartedAndJudged := by
  refine ⟨fun w s hw hbad => ?_, fun w s t send check hw ht hsend hcheck => ⟨fun hon => ?_, fun hoff => ?_⟩,
    fun s t counter payload => ⟨exec_testFrame_off counter payload, fun hoff htest => ?_⟩, fun s t counter payload htest => ?_⟩
  · rw [hw.exec_eq rfl rfl, answerTrunkTest_badArgument hbad]
    rfl
  · rw [hw.exec_eq rfl rfl, answerTrunkTest_eq (s := s.requestTaken) ht, hsend, hcheck]
    simp only [if_pos (show (s.requestTaken.port t).state ≠ .off from hon)]
    rfl
  · rw [hw.exec_eq rfl rfl, answerTrunkTest_eq (s := s.requestTaken) ht, hsend, hcheck]
    simp only [if_neg (show ¬ (s.requestTaken.port t).state ≠ .off from not_not.mpr hoff)]
    have hstate : ∀ c1 c2, ((s.requestTaken.setPort t ((s.requestTaken.port t).testing s.requestTaken.now send check c1 c2)).port
        t).state = .test := by
      intro c1 c2
      simp [Port.testing, State.port]
    rw [State.stateBody_of_state (hstate _ _), Port.testing, Port.stagedInForce_eq]
    rfl
  · rw [exec_testFrame_other counter payload hoff htest, State.plainArrival_eq]
  · intro x counted more
    have hbump : ∀ n, bumpTest n = more n := fun _ => rfl
    refine ⟨fun hgood => ?_, fun hbad => ?_, ?_, fun n => ?_⟩
    · have hmatch : (s.port t).test.matches counter payload = true := by simpa [TestUnit.matches] using hgood
      rw [exec_testFrame_test counter payload htest, hmatch, State.testArrival_eq]
      rfl
    · have hmatch : (s.port t).test.matches counter payload = false := by simpa [TestUnit.matches] using hbad
      rw [exec_testFrame_test counter payload htest, hmatch, State.testArrival_eq]
      rfl
    · have hexec : exec (.invalidFrameReceived t) s = .next (s.invalidFrame t) := rfl
      rw [hexec, State.invalidFrame_test htest, State.testArrival_eq]
      rfl
    · exact congrArg Host.Outcome.next (State.arrival_test _ htest)

/-! ## TRUNK_CLEAR (R173, R174) -/

/-- Table 8-4, in the words of its rows. -/
theorem Supervisor.causeAbsent_iff (x : Supervisor) : x.causeAbsent = true ↔
    x.faultCause = some .looped ∧ x.history.length = 5 ∧ (∀ r ∈ x.history, r.looped = false)
      ∨ x.faultCause = some .foreign ∧ x.history.length = 5 ∧ (∀ r ∈ x.history, r.foreign = false)
      ∨ x.faultCause = some .stalled ∧ ∃ r ∈ x.history, r.peer = true := by
  unfold Supervisor.causeAbsent
  cases hcause : x.faultCause with
  | none => simp
  | some c => cases c <;> simp

section
variable {body : List Byte} {s : State} {t : Trunk}

theorem answerTrunkClear_eq (ht : fieldAt body 0 1 = t.index) : answerTrunkClear body s =
    if (s.port t).state ≠ .faulted then ⟨s, .wrongState, s.clearBody t 0⟩
    else if (s.sup t).causeAbsent then ⟨s.clearFault t, .ok, (s.clearFault t).clearBody t t.index⟩
    else ⟨s, .faultPersists, s.clearBody t 0⟩ := by
  rw [answerTrunkClear, parseFirst, ht, forTrunk_index]

/-- After the clear the trunk is in HUNT, with no cause and no history. -/
theorem State.clearFault_clearBody (s : State) (t : Trunk) :
    (s.clearFault t).clearBody t t.index = beBytes 1 t.index ++ [2#8, 0#8, 0#8] := by
  have hport : (s.clearFault t).port t = (s.port t).restarted s.now .hunt := s.trunkRestart_port t .hunt none
  have hsup : (s.clearFault t).sup t = { (s.sup t).restarted none with requests := [] } := by
    rw [State.clearFault, State.sup_setSup_self, State.trunkRestart_sup]
  have hstate : ((s.port t).restarted s.now .hunt).state = .hunt := rfl
  rw [State.clearBody, hport, hsup, hstate, List.append_assoc, List.append_assoc]
  show beBytes 1 t.index ++ (beBytes 1 2 ++ (beBytes 1 0 ++ beBytes 1 0)) = _
  rfl

end

/-- Settles O38: TRUNK_CLEAR by the trunk's state and the judgement of Table 8-4. -/
theorem trunkCleared : Obligations.TrunkCleared := by
  refine ⟨fun w s hw habove => ?_, fun w s t hw ht => ?_⟩
  · have hanswer : answerTrunkClear w.body s.requestTaken = _ := forTrunk_above 4 s.requestTaken _ habove
    rw [hw.exec_eq rfl rfl, hanswer]
    rfl
  intro x absent body
  have hjudged : (s.requestTaken.sup t).causeAbsent = true ↔ absent := (s.sup t).causeAbsent_iff
  rw [hw.exec_eq rfl rfl, answerTrunkClear_eq (s := s.requestTaken) ht]
  refine ⟨fun hstate => ?_, fun hstate hno => ?_, fun hstate hyes => ?_⟩
  · rw [if_pos (show (s.requestTaken.port t).state ≠ .faulted from hstate)]
    rfl
  · rw [if_neg (show ¬ (s.requestTaken.port t).state ≠ .faulted from not_not.mpr hstate), if_neg (mt hjudged.mp hno)]
    rfl
  · rw [if_neg (show ¬ (s.requestTaken.port t).state ≠ .faulted from not_not.mpr hstate), if_pos (hjudged.mpr hyes),
      State.clearFault_clearBody]
    exact ⟨_, rfl, rfl⟩

end Sys2Proof.Machine

/-! # TRUNK_SET -/

namespace Sys2Proof.Machine

/-! ## The checks of R85 -/

theorem ConfigReq.outOfDomain_iff (q : ConfigReq) : q.outOfDomain = true ↔
    (63 < q.peer ∧ q.peer ≠ 255) ∨ q.m ∉ [1, 2, 4, 8] ∨ q.probePeriod ∉ [10, 25, 50, 100, 250, 500, 1000, 2500] := by
  rw [ConfigReq.outOfDomain, probePeriods, Bool.or_eq_true, Bool.or_eq_true, Bool.and_eq_true, decide_eq_true_iff, bne_iff_ne,
    Bool.not_eq_true', Bool.not_eq_true', ← Bool.not_eq_true, ← Bool.not_eq_true, List.contains_iff_mem, List.contains_iff_mem,
    or_assoc]

theorem Port.changes_iff (p : Port) (q : ConfigReq) : p.changes q = true ↔
    p.config.peer ≠ peerOf q.peer ∨ p.config.k ≠ q.clamped.k := by
  rw [Port.changes, Bool.or_eq_true, bne_iff_ne, bne_iff_ne]

/-- Table 6-2, in the words of its two rows. -/
theorem Plan.fits_iff (p : Plan) (k : Nat) : p.fits k = true ↔
    p.xs ≤ p.xe ∧ p.xe + 3 ≤ k ∧ (p.bulk = true → p.xe < p.bs ∧ p.bs ≤ p.be ∧ p.be + 3 ≤ k) := by
  cases hbulk : p.bulk
  · simp [Plan.fits, hbulk]
  · simp only [Plan.fits, hbulk, if_true, Bool.and_eq_true, decide_eq_true_eq, forall_const]
    omega

section
variable {p : Port} {q : ConfigReq}

theorem Port.setRefusal_badArgument (h : q.outOfDomain = true) : p.setRefusal q = some .badArgument := if_pos h

theorem Port.setRefusal_wrongState (h1 : ¬ q.outOfDomain = true) (h2 : p.state ≠ .off ∧ p.changes q = true) :
    p.setRefusal q = some .wrongState := by
  rw [Port.setRefusal, if_neg h1, if_pos h2]

theorem Port.setRefusal_badPlan (h1 : ¬ q.outOfDomain = true) (h2 : ¬ (p.state ≠ .off ∧ p.changes q = true))
    (h3 : ¬ q.paced.plan.fits q.clamped.k = true) : p.setRefusal q = some .badPlan := by
  rw [Port.setRefusal, if_neg h1, if_neg h2, if_neg h3]

theorem Port.setRefusal_none (h1 : ¬ q.outOfDomain = true) (h2 : ¬ (p.state ≠ .off ∧ p.changes q = true))
    (h3 : q.paced.plan.fits q.clamped.k = true) : p.setRefusal q = none := by
  rw [Port.setRefusal, if_neg h1, if_neg h2, if_pos h3]

end

/-! ## The clamps -/

/-- No field is clamped. -/
theorem ConfigReq.clamped_eq_self_iff (q : ConfigReq) : q.clamped = q ↔
    q.k = q.clamped.k ∧ q.lineRate = q.clamped.lineRate ∧ q.divider = q.clamped.divider ∧ q.rtt = q.clamped.rtt
      ∧ q.n = q.clamped.n ∧ q.alignDelay = q.clamped.alignDelay ∧ q.resyncTimeout = q.clamped.resyncTimeout
      ∧ q.stallTime = q.clamped.stallTime := by
  refine ⟨fun h => by rw [h]; exact ⟨rfl, rfl, rfl, rfl, rfl, rfl, rfl, rfl⟩, ?_⟩
  rintro ⟨hk, hrate, hdivider, hrtt, hn, hdelay, hresync, hstall⟩
  have hfields : q.clamped = { q with
      k := q.clamped.k
      lineRate := q.clamped.lineRate
      divider := q.clamped.divider
      rtt := q.clamped.rtt
      n := q.clamped.n
      alignDelay := q.clamped.alignDelay
      resyncTimeout := q.clamped.resyncTimeout
      stallTime := q.clamped.stallTime } := rfl
  rw [hfields, ← hk, ← hrate, ← hdivider, ← hrtt, ← hn, ← hdelay, ← hresync, ← hstall]

/-- The clamp of R109 leaves a window from 2K to 32,768. -/
theorem Paced.windowClamped_false_iff (c : Paced) {k : Nat} (hk : k ≤ 32) : c.windowClamped k = false ↔
    2 * k ≤ rawWindow c.rtt c.period k ∧ rawWindow c.rtt c.period k ≤ 32768 := by
  have hstore : Config.storeFrames = 32768 := rfl
  have hwindow : c.window k = min (max (rawWindow c.rtt c.period k) (2 * k)) 32768 := by rw [← hstore]; rfl
  rw [Paced.windowClamped, hwindow, bne_eq_false_iff_eq]
  omega

/-! ## The port configured (R85, R111) -/

theorem Port.configured_eq (p : Port) (q : ConfigReq) : p.configured q = { p with
    config := { q.unstaged p.config with paced := if p.state = .off ∨ p.state = .test then q.paced else p.config.paced }
    staged := if p.state = .off ∨ p.state = .test then none else some q.paced } := by
  unfold Port.configured
  by_cases hunpaced : p.state = .off ∨ p.state = .test
  · rw [if_pos ((TrunkState.unpaced_iff _).mpr hunpaced), if_pos hunpaced, if_pos hunpaced]
    rfl
  · rw [if_neg (mt (TrunkState.unpaced_iff _).mp hunpaced), if_neg hunpaced, if_neg hunpaced]
    rfl

theorem Port.configured_coming (p : Port) (q : ConfigReq) : (p.configured q).coming = q.paced := by
  rw [Port.configured_eq]
  by_cases hunpaced : p.state = .off ∨ p.state = .test
  · simp [Port.coming, hunpaced]
  · simp [Port.coming, hunpaced]

theorem Port.coming_congr {p x : Port} (hconfig : p.config = x.config) (hstaged : p.staged = x.staged) :
    p.coming = x.coming := by
  rw [Port.coming, Port.coming, hconfig, hstaged]

theorem Port.setBody_congr {p x : Port} (t : Trunk) (hconfig : p.config = x.config) (hstaged : p.staged = x.staged) :
    p.setBody t = x.setBody t := by
  rw [Port.setBody, Port.setBody, Port.stagedBlock, Port.stagedBlock, Port.coming_congr hconfig hstaged, hconfig, hstaged]

/-- A policy change clears UNIDENTIFIED where it turns to IDENTIFY and the condition is absent (R166). -/
theorem State.policyChange_ite (s : State) (t : Trunk) (old new : Bool) : s.policyChange t old new = { s with
    sli := if old = false ∧ new = true ∧ (s.sup t).unidentifiedNow = false then
        { s.sli with latches := s.sli.latches.putTrunk t .unidentified false }
      else s.sli } := by
  have htest : (!old && new && !(s.sup t).unidentifiedNow) = true ↔
      old = false ∧ new = true ∧ (s.sup t).unidentifiedNow = false := by
    simp only [Bool.and_eq_true, Bool.not_eq_true', and_assoc]
  unfold State.policyChange
  by_cases h : old = false ∧ new = true ∧ (s.sup t).unidentifiedNow = false
  · rw [if_pos (htest.mpr h), if_pos h]
    rfl
  · rw [if_neg (mt htest.mp h), if_neg h]

section
variable {body : List Byte} {s : State} {t : Trunk}

theorem answerTrunkSet_above (h : 3 < fieldAt body 0 1) : answerTrunkSet body s = ⟨s, .badArgument, zeroBody 68⟩ := by
  have htrunk : Trunk.ofNat? (parseConfig body).trunk = none := Trunk.ofNat?_none h
  simp only [answerTrunkSet, htrunk]

theorem answerTrunkSet_refused {r : Result} (ht : fieldAt body 0 1 = t.index)
    (h : (s.port t).setRefusal (parseConfig body) = some r) : answerTrunkSet body s = ⟨s, r, zeroBody 68⟩ := by
  have htrunk : Trunk.ofNat? (parseConfig body).trunk = some t := (congrArg Trunk.ofNat? ht).trans (Trunk.ofNat?_index t)
  simp only [answerTrunkSet, htrunk, h]

/-- The reply of an accepted TRUNK_SET depends on the port's configuration and its staged fields alone. -/
theorem answerTrunkSet_ok {q : ConfigReq} {x : Port} (hq : parseConfig body = q) (ht : fieldAt body 0 1 = t.index)
    (h : (s.port t).setRefusal q = none) (hconfig : ((s.configure t q.clamped).port t).config = x.config)
    (hstaged : ((s.configure t q.clamped).port t).staged = x.staged) : answerTrunkSet body s =
      ⟨s.configure t q.clamped, if q.clamped ≠ q ∨ x.coming.windowClamped x.config.k = true then .clamped else .ok,
        x.setBody t⟩ := by
  have htrunk : Trunk.ofNat? q.trunk = some t := by
    rw [← hq]
    exact (congrArg Trunk.ofNat? ht).trans (Trunk.ofNat?_index t)
  simp only [answerTrunkSet, hq, htrunk, h, Port.coming_congr hconfig hstaged, Port.setBody_congr t hconfig hstaged, hconfig]

end

/-- Settles O32: the checks of R85 in order, the port configured, and the reply in both of its forms. -/
theorem trunkSetRequest : Obligations.TrunkSetRequest := by
  refine ⟨fun w s hw habove => ?_, fun w s t hw ht => ?_⟩
  · rw [hw.exec_eq rfl rfl, answerTrunkSet_above habove]
    rfl
  intro q p peer k paced first second third unpaced c p1 clears s1 period raw same result body
  have hfirst : q.outOfDomain = true ↔ first := q.outOfDomain_iff
  have hsecond : (p.state ≠ .off ∧ p.changes q = true) ↔ second := and_congr_right fun _ => p.changes_iff q
  have hthird : ¬ q.paced.plan.fits q.clamped.k = true ↔ third := not_congr (Plan.fits_iff _ _)
  have hdelay : q.clamped.alignDelay = min 3 q.alignDelay := Nat.zero_max _
  have hport : p.configured q.clamped = p1 := by
    rw [Port.configured_eq, ConfigReq.unstaged, hdelay]
    rfl
  have hcoming : p1.coming = paced := by
    rw [← hport, Port.configured_coming]
    rfl
  have hbase : (s.requestTaken.setPort t (p.configured q.clamped)).policyChange t p.config.identifyPolicy q.clamped.identify
      = s1 := by
    unfold s1
    rw [hport, ← s.requestTaken_latches, State.policyChange_ite]
    rfl
  have hresult : (if q.clamped ≠ q ∨ p1.coming.windowClamped p1.config.k = true then Result.clamped else .ok) = result := by
    have hk : k ≤ 32 := max_le (by decide) (Nat.min_le_left _ _)
    have hsame : same ↔ q.clamped = q ∧ paced.windowClamped k = false := by
      rw [ConfigReq.clamped_eq_self_iff, Paced.windowClamped_false_iff _ hk, hdelay]
      simp only [and_assoc]
      exact Iff.rfl
    have hnot : (q.clamped ≠ q ∨ p1.coming.windowClamped p1.config.k = true) ↔ ¬ same := by
      rw [hcoming, hsame, not_and_or, Bool.not_eq_false]
    unfold result
    simp only [hnot, ite_not]
  have hbody : p1.setBody t = body := by
    unfold Port.setBody
    rw [hcoming]
    unfold body Port.stagedBlock
    by_cases hunpaced : unpaced
    · simp only [if_pos hunpaced, p1]
      rfl
    · simp only [if_neg hunpaced, p1]
      rfl
  refine ⟨fun h1 => ?_, fun h1 h2 => ?_, fun h1 h2 h3 => ?_, fun h1 h2 h3 hsame => ?_, fun h1 h2 h3 hchange => ?_, ?_⟩
  · have hrefusal : (s.requestTaken.port t).setRefusal q = some .badArgument := Port.setRefusal_badArgument (hfirst.mpr h1)
    rw [hw.exec_eq rfl rfl, answerTrunkSet_refused ht hrefusal]
    rfl
  · have hrefusal : (s.requestTaken.port t).setRefusal q = some .wrongState :=
      Port.setRefusal_wrongState (mt hfirst.mp h1) (hsecond.mpr h2)
    rw [hw.exec_eq rfl rfl, answerTrunkSet_refused ht hrefusal]
    rfl
  · have hrefusal : (s.requestTaken.port t).setRefusal q = some .badPlan :=
      Port.setRefusal_badPlan (mt hfirst.mp h1) (mt hsecond.mp h2) (hthird.mpr h3)
    rw [hw.exec_eq rfl rfl, answerTrunkSet_refused ht hrefusal]
    rfl
  · have hrefusal : (s.requestTaken.port t).setRefusal q = none :=
      Port.setRefusal_none (mt hfirst.mp h1) (mt hsecond.mp h2) (not_not.mp (mt hthird.mp h3))
    have hset : s.requestTaken.configure t q.clamped = s1 := by
      rw [← hbase]
      exact if_neg (not_not.mpr hsame)
    have hafter : (s.requestTaken.configure t q.clamped).port t = p1 := by
      rw [hset]
      exact Quad.get_set_self _ _ _
    rw [hw.exec_eq rfl rfl, answerTrunkSet_ok rfl ht hrefusal (congrArg Port.config hafter) (congrArg Port.staged hafter),
      hresult, hbody, hset]
    rfl
  · have hrefusal : (s.requestTaken.port t).setRefusal q = none :=
      Port.setRefusal_none (mt hfirst.mp h1) (mt hsecond.mp h2) (not_not.mp (mt hthird.mp h3))
    have hset : s.requestTaken.configure t q.clamped = s1.peerChange t := by
      rw [← hbase]
      exact if_pos hchange
    have hafter : (s.requestTaken.configure t q.clamped).port t = { p1 with recorded := none, peerHears := false } := by
      rw [hset, State.port, State.peerChange_ports, Quad.get_set_self]
      exact congrArg (fun x : Port => ({ x with recorded := none, peerHears := false } : Port)) (Quad.get_set_self _ _ _)
    rw [hw.exec_eq rfl rfl, answerTrunkSet_ok rfl ht hrefusal (congrArg Port.config hafter) (congrArg Port.staged hafter)]
    show Host.Outcome.next (State.reply _ 0x07#8 w (if q.clamped ≠ q ∨ p1.coming.windowClamped p1.config.k = true then
      .clamped else .ok) (p1.setBody t)) = _
    rw [hresult, hbody, hset]
  · rw [← hbody]
    simp only [Port.setBody, List.length_append, beBytes_length, configBlock_length, stagedBlock_length]

end Sys2Proof.Machine

/-! # The Apply Unit -/

namespace Sys2Proof.Machine

/-! ## Tables written over a set of keys -/

section
variable {α : Type}

theorem Table.lookup_of_absent {k : Nat} {t : Table α} (h : ∀ e ∈ t, e.1 ≠ k) : t.lookup k = none := by
  rw [List.lookup_eq_none_iff]
  intro e he
  exact bne_iff_ne.mpr (h e he).symm

theorem Table.sorted_cons_iff {e : Nat × α} {t : Table α} :
    Table.sorted (e :: t) = true ↔ (∀ x ∈ t, e.1 < x.1) ∧ Table.sorted t = true := by
  simp only [Table.sorted, Bool.and_eq_true, List.all_eq_true, decide_eq_true_eq]

theorem Table.nodup_of_sorted : ∀ {t : Table α}, Table.sorted t = true → (t.map fun e => e.1).Nodup
  | [], _ => List.nodup_nil
  | e :: t, h => by
    obtain ⟨hlt, hrest⟩ := Table.sorted_cons_iff.mp h
    refine List.nodup_cons.mpr ⟨fun hmem => ?_, Table.nodup_of_sorted hrest⟩
    obtain ⟨x, hx, heq⟩ := List.mem_map.mp hmem
    exact absurd (hlt x hx) (by simp [heq])

theorem Table.sorted_of_wf [DecidableEq α] {d : α} {t : Table α} (h : Table.wf d t = true) : Table.sorted t = true :=
  (Bool.and_eq_true_iff.mp h).1

theorem Table.lookup_cons_self (k : Nat) (v : α) (t : Table α) : List.lookup k ((k, v) :: t) = some v := by
  simp

theorem Table.lookup_cons_ne {k : Nat} {e : Nat × α} (t : Table α) (h : e.1 ≠ k) :
    List.lookup k (e :: t) = List.lookup k t := by
  have hne : (k == e.1) = false := beq_false_of_ne h.symm
  rw [List.lookup, hne]

/-- Every entry of a set of keys changed: what a key reads as. -/
theorem Table.get_mapOn [DecidableEq α] {d : α} {p : Nat → Bool} {g : α → α} {k : Nat} (hd : p k = true → g d = d) :
    ∀ {t : Table α}, Table.sorted t = true →
      (Table.mapOn d p g t).get d k = if p k = true then g (t.get d k) else t.get d k
  | [], _ => by
    show d = if p k = true then g d else d
    split
    · next hp => exact (hd hp).symm
    · rfl
  | e :: t, h => by
    obtain ⟨hlt, hrest⟩ := Table.sorted_cons_iff.mp h
    have ih := Table.get_mapOn (d := d) (g := g) hd hrest
    have hfilter : Table.mapOn d p g (e :: t) =
        if (if p e.1 = true then g e.2 else e.2) ≠ d then
          (e.1, if p e.1 = true then g e.2 else e.2) :: Table.mapOn d p g t
        else Table.mapOn d p g t := by
      simp only [Table.mapOn, List.map_cons, List.filter_cons, decide_eq_true_eq]
      by_cases hp : p e.1 = true <;> simp [hp]
    by_cases hk : e.1 = k
    · have habsent : (Table.mapOn d p g t).lookup k = none := by
        refine Table.lookup_of_absent fun x hx => ?_
        obtain ⟨y, hy, rfl⟩ := List.mem_map.mp (List.mem_of_mem_filter hx)
        have hkey : (if p y.1 = true then (y.1, g y.2) else y).1 = y.1 := by split <;> rfl
        rw [hkey]
        exact fun h => absurd (hlt y hy) (by rw [h, hk]; exact Nat.lt_irrefl k)
      have hget : Table.get d k (e :: t) = e.2 := by
        rw [← hk]
        exact congrArg (fun o => Option.getD o d) (Table.lookup_cons_self e.1 e.2 t)
      subst hk
      rw [hfilter, hget]
      generalize (if p e.1 = true then g e.2 else e.2) = v
      split
      · exact congrArg (fun o => Option.getD o d) (Table.lookup_cons_self e.1 _ _)
      · next hdrop =>
        rw [Table.get, habsent]
        exact (not_not.mp hdrop).symm
    · have hget : Table.get d k (e :: t) = Table.get d k t := congrArg (fun o => Option.getD o d) (Table.lookup_cons_ne t hk)
      rw [hget, ← ih, hfilter]
      generalize (if p e.1 = true then g e.2 else e.2) = v
      split
      · exact congrArg (fun o => Option.getD o d) (Table.lookup_cons_ne _ hk)
      · rfl

/-- The entries of a set of keys kept: what a key reads as. -/
theorem Table.get_filter (d : α) (q : Nat → Bool) (k : Nat) : ∀ t : Table α,
    Table.get d k (t.filter fun e => q e.1) = if q k = true then t.get d k else d
  | [] => by
    show d = if q k = true then d else d
    rw [ite_self]
  | e :: t => by
    have ih := Table.get_filter d q k t
    by_cases hk : e.1 = k
    · obtain ⟨i, v⟩ := e
      obtain rfl : i = k := hk
      by_cases hq : q i = true
      · rw [List.filter_cons_of_pos (p := fun e : Nat × α => q e.1) hq, if_pos hq, Table.get, Table.get, Table.lookup_cons_self, Table.lookup_cons_self]
      · rw [List.filter_cons_of_neg (p := fun e : Nat × α => q e.1) hq, ih, if_neg hq, if_neg hq]
    · have hget : Table.get d k (e :: t) = Table.get d k t := congrArg (fun o => Option.getD o d) (Table.lookup_cons_ne t hk)
      rw [hget, ← ih]
      by_cases hq : q e.1 = true
      · rw [List.filter_cons_of_pos (p := fun e : Nat × α => q e.1) hq]
        exact congrArg (fun o => Option.getD o d) (Table.lookup_cons_ne _ hk)
      · rw [List.filter_cons_of_neg (p := fun e : Nat × α => q e.1) hq]

theorem Table.put_put (k : Nat) (v w : α) : ∀ t : Table α, Table.put k v (Table.put k w t) = Table.put k v t
  | [] => by simp [Table.put]
  | (i, x) :: t => by
    by_cases hlt : k < i
    · simp [Table.put, hlt]
    · by_cases heq : k = i
      · simp [Table.put, heq]
      · simp [Table.put, hlt, heq, Table.put_put k v w t]

theorem Table.del_put (k : Nat) (w : α) : ∀ t : Table α, Table.del k (Table.put k w t) = Table.del k t
  | [] => by simp [Table.put, Table.del]
  | (i, x) :: t => by
    by_cases hlt : k < i
    · simp [Table.put, Table.del, hlt]
    · by_cases heq : k = i
      · simp [Table.put, Table.del, heq]
      · have ih := Table.del_put k w t
        simp only [Table.del] at ih
        simp [Table.put, Table.del, hlt, heq, Ne.symm heq, ih]

/-- A key written twice, first with a value that stands in the table. -/
theorem Table.set_set [DecidableEq α] {d : α} (k : Nat) {v w : α} (t : Table α) (hw : w ≠ d) :
    Table.set d k v (Table.set d k w t) = Table.set d k v t := by
  unfold Table.set
  rw [if_neg hw, Table.put_put, Table.del_put]

end

/-! ## The slot arbiter (R145) -/

/-- The record's head entry could go forward, but for a slot. -/
def InRec.Could (r : InRec) : Prop := r.held = false ∧ r.inFlight = none ∧ r.queue ≠ []

/-- The record wants a slot, and stands on neither list. -/
def ApplyUnit.Wants (a : ApplyUnit) (k : Nat) (r : InRec) : Prop := r.Could
  ∧ (∃ e rest, r.queue = e :: rest ∧ e.notice.kind ≠ 4) ∧ k ∉ a.granted ∧ k ∉ a.waitList

theorem InRec.canForward_iff (r : InRec) : r.canForward = true ↔ r.Could := by
  simp only [InRec.canForward, InRec.Could, Bool.and_eq_true, Bool.not_eq_true', Option.isNone_iff_eq_none,
    List.isEmpty_eq_false_iff, and_assoc]

theorem InRec.headNeedsSlot_iff (r : InRec) : r.headNeedsSlot = true ↔ ∃ e rest, r.queue = e :: rest ∧ e.notice.kind ≠ 4 := by
  unfold InRec.headNeedsSlot
  cases r.queue <;> simp

theorem InRec.wantsSlot_iff (r : InRec) : r.wantsSlot = true ↔ r.Could ∧ ∃ e rest, r.queue = e :: rest ∧ e.notice.kind ≠ 4 := by
  rw [InRec.wantsSlot, Bool.and_eq_true, InRec.canForward_iff, InRec.headNeedsSlot_iff]

theorem ApplyUnit.spare_eq (a : ApplyUnit) : a.spare = 256 - a.slots.length - a.granted.length := rfl

section
variable {s : State} {k : Nat}

theorem State.forwardTest_waits (hwants : s.apply.Wants k (s.inRec k))
    (hfull : 256 ≤ s.apply.slots.length + s.apply.granted.length) :
    s.forwardTest k = { s with apply := { s.apply with waitList := s.apply.waitList ++ [k] } } := by
  obtain ⟨hcould, hneeds, hgranted, hlisted⟩ := hwants
  have hspare : s.apply.spare = 0 := by
    rw [ApplyUnit.spare_eq]
    omega
  simp [State.forwardTest, (InRec.canForward_iff _).mpr hcould, (InRec.headNeedsSlot_iff _).mpr hneeds, hgranted, hlisted,
    hspare, State.setApply]

theorem State.forwardTest_stays (hcould : (s.inRec k).Could)
    (hnot : ¬ (s.apply.Wants k (s.inRec k) ∧ 256 ≤ s.apply.slots.length + s.apply.granted.length)) :
    s.forwardTest k = s := by
  have htest : ¬ ((s.inRec k).headNeedsSlot && !s.apply.granted.contains k && !s.apply.waitList.contains k
      && s.apply.spare == 0) = true := by
    intro h
    simp only [Bool.and_eq_true, Bool.not_eq_true', List.contains_eq_mem, decide_eq_false_iff_not, beq_iff_eq,
      InRec.headNeedsSlot_iff, ApplyUnit.spare_eq] at h
    obtain ⟨⟨⟨hneeds, hgranted⟩, hlisted⟩, hspare⟩ := h
    exact hnot ⟨⟨hcould, hneeds, hgranted, hlisted⟩, by omega⟩
  simp only [State.forwardTest, (InRec.canForward_iff _).mpr hcould, if_true, if_neg htest]

theorem State.forwardTest_returns (hnot : ¬ (s.inRec k).Could) : s.forwardTest k = s.returnSlots fun j => j == k := by
  unfold State.forwardTest
  exact if_neg (mt (InRec.canForward_iff _).mp hnot)

end

/-! ## APPLY_RESUME (R150) -/

section
variable {body : List Byte} {s : State} {t : Trunk}

theorem answerApplyResume_ok (ht : fieldAt body 0 1 = t.index) (hb : fieldAt body 2 2 ≤ 4095) :
    answerApplyResume body s = ⟨s.resume (recKey t (fieldAt body 2 2)), .ok,
      ((s.resume (recKey t (fieldAt body 2 2))).inRec (recKey t (fieldAt body 2 2))).body⟩ := by
  have htrunk : Trunk.ofNat? (parseResume body).trunk = some t := (congrArg Trunk.ofNat? ht).trans (Trunk.ofNat?_index t)
  have hbucket : decide ((parseResume body).bucket < Config.buckets) = true := decide_eq_true (Nat.lt_succ_of_le hb)
  simp only [answerApplyResume, htrunk, hbucket]
  rfl

theorem answerApplyResume_badArgument (h : 3 < fieldAt body 0 1 ∨ 4095 < fieldAt body 2 2) :
    answerApplyResume body s = ⟨s, .badArgument, zeroBody 16⟩ := by
  rcases h with h | h
  · have htrunk : Trunk.ofNat? (parseResume body).trunk = none := Trunk.ofNat?_none h
    simp only [answerApplyResume, htrunk]
  · have hbucket : decide ((parseResume body).bucket < Config.buckets) = false := decide_eq_false (Nat.not_lt.mpr h)
    simp only [answerApplyResume, hbucket]
    split <;> first | rfl | contradiction

end

/-- Settles O39: the slot arbiter's moves, and APPLY_RESUME. -/
theorem applyResumed : Obligations.ApplyResumed := by
  refine ⟨fun a => rfl, fun s => ?_, fun s tag => rfl,
    fun s gone => ⟨State.returnSlots_some s gone, State.returnSlots_none s gone⟩,
    fun s k => ⟨State.forwardTest_waits, State.forwardTest_stays, State.forwardTest_returns⟩, fun s gone => rfl,
    fun w s hw hbad => ?_, fun w s t hw ht hb => ?_⟩
  · obtain ⟨joining, n, heq, hmem, hnodup⟩ := s.offerSlots_eq
    refine ⟨joining, n, heq, fun k => (hmem k).trans ?_, fun hwf => hnodup (Table.nodup_of_sorted (Table.sorted_of_wf hwf))⟩
    rw [InRec.wantsSlot_iff, and_assoc]
    exact Iff.rfl
  · rw [hw.exec_eq rfl rfl, answerApplyResume_badArgument hbad]
    rfl
  · intro k r body
    rw [hw.exec_eq rfl rfl, answerApplyResume_ok (s := s.requestTaken) ht hb]
    refine ⟨fun hfree => ?_, fun hheld => ?_⟩
    · have hresume : s.requestTaken.resume k = s.requestTaken := if_neg (show ¬ r.held = true by rw [hfree]; exact Bool.false_ne_true)
      have hbody : r.body = body := by
        unfold InRec.body
        rw [hfree]
        rfl
      show Host.Outcome.next (State.reply (s.requestTaken.resume k) _ _ _ ((s.requestTaken.resume k).inRec k).body) = _
      rw [hresume, ← hbody]
      rfl
    · have hresume : s.requestTaken.resume k = (s.requestTaken.setInRec k { r with held := false }).forwardTest k := if_pos hheld
      have hrec : (s.requestTaken.resume k).inRec k = { r with held := false } := by
        rw [hresume, State.forwardTest_inRec]
        exact Table.get_set_self _ _ _ _
      show Host.Outcome.next (State.reply (s.requestTaken.resume k) _ _ _ ((s.requestTaken.resume k).inRec k).body) = _
      rw [hrec, hresume]
      rfl

end Sys2Proof.Machine

/-! # The Apply Unit: APPLY_FORWARD and APPLY_REPLY -/

namespace Sys2Proof.Machine

/-! ## A head entry finished (R145 to R147, R149) -/

/-- The record of a head entry finished, whose queue goes on with the rest. -/
def InRec.headDone (r : InRec) (e : InEntry) (rest : List InEntry) : InRec :=
  if e.current then { r with queue := rest, applied := e.notice.seq, ackOwed := true } else { r with queue := rest }

/-- An entry has given up its room and its pin, and its record, as written, has left the wait list. -/
def State.headLeft (s : State) (k : Nat) (done : InRec) (e : InEntry) : State := { s with
  apply := { (s.setInRec k done).apply with
    waitList := s.apply.waitList.filter fun j => j != k
    backlog := s.apply.backlog - 1 }
  body := { s.body with inUse := s.body.inUse - e.slots }
  map := if e.mapped then mapChanged s.map e.notice.bucket e.notice.digest fun x => { x with pins := x.pins - 1 } else s.map }

theorem State.discardInbound_leaveList (s : State) (k : Nat) (e : InEntry) :
    ((s.discardInbound e).leaveList fun j => j == k) = { s with
      apply := { s.apply with waitList := s.apply.waitList.filter fun j => j != k, backlog := s.apply.backlog - 1 }
      body := { s.body with inUse := s.body.inUse - e.slots }
      map := if e.mapped then mapChanged s.map e.notice.bucket e.notice.digest fun x => { x with pins := x.pins - 1 }
        else s.map } := by
  rw [State.discardInbound_eq]
  rfl

theorem State.finishHead_eq {s : State} {k : Nat} {e : InEntry} {rest : List InEntry}
    (hqueue : (s.inRec k).queue = e :: rest) :
    s.finishHead k e = (s.headLeft k ((s.inRec k).headDone e rest) e).forwardTest k := by
  have hdone : { s.inRec k with queue := (s.inRec k).queue.drop 1 }.finish e = (s.inRec k).headDone e rest := by
    rw [hqueue]
    rfl
  have hfinish : s.finishHead k e = (((s.setInRec k ({ s.inRec k with queue := (s.inRec k).queue.drop 1 }.finish
      e)).discardInbound e).leaveList fun j => j == k).forwardTest k := rfl
  rw [hfinish, hdone, State.discardInbound_leaveList]
  rfl

/-- What the next forward test leaves of a record finished. -/
theorem State.headLeft_forwardTest (s : State) (k : Nat) (done : InRec) (e : InEntry) :
    let u := (s.headLeft k done e).forwardTest k
    u.inRec k = done ∧ (∀ j, j ≠ k → u.inRec j = s.inRec j) ∧ u.apply.backlog = s.apply.backlog - 1
      ∧ u.body = { s.body with inUse := s.body.inUse - e.slots } ∧ u.apply.slots = s.apply.slots := by
  refine ⟨?_, fun j hj => ?_, ?_, ?_, ?_⟩
  · rw [State.forwardTest_inRec]
    exact Table.get_set_self _ _ _ _
  · rw [State.forwardTest_inRec]
    exact Table.get_set_ne _ _ _ hj
  · rw [State.forwardTest_apply_backlog]
    rfl
  · rw [State.forwardTest_body]
    rfl
  · rw [State.forwardTest_apply_slots]
    rfl

/-! ## APPLY_FORWARD (R145 to R148) -/

section
variable {s : State} {t : Trunk} {b : Nat} {e : InEntry} {rest : List InEntry}

theorem exec_applyForward (hb : b < 4096) : exec (.applyForward t b) s = .next (s.forward t b) :=
  congrArg Host.Outcome.next (if_pos (show b < Config.buckets from hb))

theorem exec_applyForward_above (hb : 4096 ≤ b) : exec (.applyForward t b) s = .next s :=
  congrArg Host.Outcome.next (if_neg (show ¬ b < Config.buckets from Nat.not_lt.mpr hb))

theorem State.forward_empty (h : (s.inRec (recKey t b)).queue = []) : s.forward t b = s := by
  have hcan : (s.inRec (recKey t b)).canForward = false := by simp [InRec.canForward, h]
  simp only [State.forward, hcan]

theorem State.forward_blocked (h : (s.inRec (recKey t b)).held = true ∨ (s.inRec (recKey t b)).inFlight.isSome = true) :
    s.forward t b = s := by
  have hcan : (s.inRec (recKey t b)).canForward = false := by
    rw [← Bool.not_eq_true, InRec.canForward_iff]
    rintro ⟨hheld, hflight, -⟩
    rcases h with h | h
    · exact Bool.false_ne_true (hheld.symm.trans h)
    · rw [hflight] at h
      cases h
  simp only [State.forward, hcan]

theorem State.forward_head (hheld : (s.inRec (recKey t b)).held = false) (hflight : (s.inRec (recKey t b)).inFlight = none)
    (hqueue : (s.inRec (recKey t b)).queue = e :: rest) : s.forward t b =
      if e.notice.kind = 4 then s.finishHead (recKey t b) e
      else if s.apply.slotFor (recKey t b) then s.forwardEntry t b e
      else s.forwardTest (recKey t b) := by
  have hcan : (s.inRec (recKey t b)).canForward = true :=
    (InRec.canForward_iff _).mpr ⟨hheld, hflight, by rw [hqueue]; exact List.cons_ne_nil _ _⟩
  simp only [State.forward, hcan, hqueue]

theorem ApplyUnit.slotFor_iff (a : ApplyUnit) (k : Nat) : a.slotFor k = true ↔
    k ∈ a.granted ∨ a.slots.length + a.granted.length < 256 := by
  rw [ApplyUnit.slotFor, Bool.or_eq_true, List.contains_iff_mem, decide_eq_true_iff, ApplyUnit.spare_eq]
  refine or_congr Iff.rfl ?_
  omega

/-- The entry is stale: its record holds a later stamp (Table 3-3). -/
theorem State.staleTest_iff (s : State) (e : InEntry) : s.staleTest e = .stale ↔ e.mapped = true ∧
    ∃ x st, s.findObj e.notice.bucket e.notice.digest = some x ∧ x.stamp = some st ∧ e.notice.stamp.toNat < st.toNat := by
  unfold State.staleTest
  cases hmapped : e.mapped with
  | false => simp
  | true =>
    cases hfind : s.findObj e.notice.bucket e.notice.digest with
    | none => simp
    | some r =>
      cases hstamp : r.stamp with
      | none => simp [staleOutcome, hstamp]
      | some st => by_cases hlater : e.notice.stamp.toNat < st.toNat <;> simp [staleOutcome, hstamp, hlater]

/-- An entry that is not stale is sent, checked or unchecked (R148). -/
theorem State.forwardEntry_sent (h : s.staleTest e ≠ .stale) : s.forwardEntry t b e = s.sendApply t b e
    (decide (e.mapped = false) || ((s.findObj e.notice.bucket e.notice.digest).bind fun x => x.stamp).isNone) := by
  unfold State.forwardEntry
  unfold State.staleTest at h ⊢
  cases hmapped : e.mapped with
  | false => simp
  | true =>
    cases hfind : s.findObj e.notice.bucket e.notice.digest with
    | none => simp
    | some r =>
      cases hstamp : r.stamp with
      | none => simp [staleOutcome, hstamp]
      | some st =>
        have hnot : ¬ e.notice.stamp.toNat < st.toNat := fun hlater => h (by simp [staleOutcome, hmapped, hfind, hstamp, hlater])
        simp [staleOutcome, hstamp, hnot]

theorem State.forwardEntry_stale (h : s.staleTest e = .stale) : s.forwardEntry t b e = s.discardStale (recKey t b) e := by
  rw [State.forwardEntry, h]

/-- A stale entry is counted, and its record touched (R53, R147). -/
def State.staleLeft (s : State) (e : InEntry) : State := { s with
  map := mapTouched s.map e.notice.bucket e.notice.digest id
  sli := { s.sli with stats := { s.sli.stats with staleDiscards := s.sli.stats.staleDiscards + 1 } } }

theorem State.discardStale_eq {k : Nat} (hmapped : e.mapped = true) (hqueue : (s.inRec k).queue = e :: rest) :
    s.discardStale k e = ((s.staleLeft e).headLeft k ((s.inRec k).headDone e rest) e).forwardTest k := by
  have htouch : s.touch e = s.setMap (mapTouched s.map e.notice.bucket e.notice.digest id) := if_pos hmapped
  have hcounted : s.discardStale k e = (s.staleLeft e).finishHead k e := by
    rw [State.discardStale, htouch]
    rfl
  rw [hcounted]
  exact State.finishHead_eq (s := s.staleLeft e) hqueue

theorem State.priorDrop_eq (s : State) (e : InEntry) : s.priorDrop e =
    (e.mapped && ((s.findObj e.notice.bucket e.notice.digest).map fun x => x.tombstone).getD false) := by
  unfold State.priorDrop
  cases s.findObj e.notice.bucket e.notice.digest <;> rfl

theorem PartStats.countUnchecked_applies (x : PartStats) (unchecked : Bool) :
    (x.countUnchecked unchecked).uncheckedApplies = x.uncheckedApplies + (if unchecked then 1 else 0) := by
  cases unchecked <;> simp [PartStats.countUnchecked]

theorem State.sendApply_fields (s : State) (t : Trunk) (b : Nat) (e : InEntry) (unchecked : Bool) :
    let u := s.sendApply t b e unchecked
    let k := recKey t b
    let tag := s.apply.nextTag
    u.inRec k = { s.inRec k with inFlight := some tag } ∧ (∀ j, j ≠ k → u.inRec j = s.inRec j)
      ∧ u.apply.slots = s.apply.slots ++ [⟨tag, t, b, none⟩] ∧ u.apply.granted = s.apply.granted.filter (fun j => j != k)
      ∧ u.apply.waitList = s.apply.waitList.filter (fun j => j != k)
      ∧ u.map = (if e.mapped then mapTouched s.map e.notice.bucket e.notice.digest fun x => { x with
        stamp := some e.notice.stamp, tombstone := e.notice.kind == 3 } else s.map)
      ∧ u.sli.partQueue = s.sli.partQueue ++ bodyOutRecords tag e ++ [applyRecord tag t e.notice unchecked (s.priorDrop e)]
      ∧ u.sli.stats.uncheckedApplies = s.sli.stats.uncheckedApplies + (if unchecked then 1 else 0)
      ∧ u.apply.backlog = s.apply.backlog ∧ u.body = s.body ∧ u.journal = s.journal ∧ u.clock = s.clock ∧ u.ports = s.ports := by
  intro u k tag
  have hadopt : s.adoptStamp e = s.setMap (if e.mapped then mapTouched s.map e.notice.bucket e.notice.digest fun x => { x with
      stamp := some e.notice.stamp, tombstone := e.notice.kind == 3 } else s.map) := by
    unfold State.adoptStamp
    split <;> rfl
  unfold u State.sendApply
  rw [hadopt]
  refine ⟨Table.get_set_self _ _ _ _, fun j hj => Table.get_set_ne _ _ _ hj, rfl, rfl, rfl, rfl, rfl,
    PartStats.countUnchecked_applies _ _, rfl, rfl, rfl, rfl, rfl⟩

theorem bodyOutRecords_eq (tag : Nat) (e : InEntry) : bodyOutRecords tag e =
    (List.range ((e.notice.bodyLength + 65511) / 65512)).map (fun i => ⟨0x42#8, true, false, tag, .ok,
      beBytes 4 (i * 65512) ++ beBytes 4 e.notice.bodyLength ++ (e.bytes.drop (i * 65512)).take 65512⟩) := by
  have hsize : Config.bodyOutBytes = 65512 := rfl
  have hceil : ceilDiv e.notice.bodyLength 65512 = (e.notice.bodyLength + 65511) / 65512 := by
    rw [ceilDiv]
    omega
  rw [bodyOutRecords, hsize, hceil]
  refine List.map_congr_left fun i _ => ?_
  rw [bodyOutRecord, hsize]
  rfl

end

/-- Settles O53: the record's head by its kind, its slot, and the stale test. -/
theorem applyForwarded : Obligations.ApplyForwarded := by
  refine ⟨fun s t b hb => exec_applyForward_above hb, fun s t b hb hqueue => ?_, fun s t b e rest hb => ?_⟩
  · rw [exec_applyForward hb, State.forward_empty hqueue]
  intro k r hqueue rec? stale unchecked prior slot done unpin left others
  rw [exec_applyForward hb]
  have hslot : s.apply.slotFor k = true ↔ slot := s.apply.slotFor_iff k
  have hstale : s.staleTest e = .stale ↔ stale := s.staleTest_iff e
  have hforward : r.held = false → r.inFlight = none → s.forward t b = if e.notice.kind = 4 then s.finishHead k e
      else if s.apply.slotFor k then s.forwardEntry t b e else s.forwardTest k := fun hheld hflight =>
    State.forward_head hheld hflight hqueue
  refine ⟨fun hblocked => ?_, fun hheld hflight hkind => ?_, fun hheld hflight hkind hs hst => ?_,
    fun hheld hflight hkind hs hst => ?_, fun hheld hflight hkind hs => ?_⟩
  · rw [State.forward_blocked hblocked]
  · rw [hforward hheld hflight, if_pos hkind, State.finishHead_eq hqueue]
    obtain ⟨hrec, hothers, hbacklog, hbody, hslots⟩ := s.headLeft_forwardTest k (r.headDone e rest) e
    exact ⟨_, rfl, rfl, hrec, hothers, hbacklog, hbody, hslots, State.forwardTest_sli _ _, State.forwardTest_journal _ _,
      State.forwardTest_clock _ _, State.forwardTest_ports _ _⟩
  · have hmapped := hst.1
    rw [hforward hheld hflight, if_neg hkind, if_pos (hslot.mpr hs),
      State.forwardEntry_stale (hstale.mpr hst)]
    have hdiscard : s.discardStale (recKey t b) e = _ := State.discardStale_eq hmapped hqueue
    rw [hdiscard]
    obtain ⟨hrec, hothers, hbacklog, hbody, hslots⟩ := (s.staleLeft e).headLeft_forwardTest k (r.headDone e rest) e
    refine ⟨_, rfl, ?_, hrec, hothers, hbacklog, hbody, hslots, ?_, ?_, ?_, ?_, ?_⟩
    · have hmap : (s.staleLeft e).headLeft k (r.headDone e rest) e = { s.staleLeft e with
          apply := (s.headLeft k (r.headDone e rest) e).apply
          body := (s.headLeft k (r.headDone e rest) e).body
          map := mapTouched s.map e.notice.bucket e.notice.digest unpin } := by
        have hunpinned : mapChanged (s.staleLeft e).map e.notice.bucket e.notice.digest unpin =
            mapTouched s.map e.notice.bucket e.notice.digest unpin := mapChanged_touched unpin fun _ => rfl
        rw [State.headLeft, if_pos hmapped, ← hunpinned]
        rfl
      exact (congrArg (fun v : State => v.forwardTest k) hmap :)
    · rw [State.forwardTest_sli]
      rfl
    · rw [State.forwardTest_sli]
      rfl
    · exact State.forwardTest_journal _ _
    · exact State.forwardTest_clock _ _
    · exact State.forwardTest_ports _ _
  · have hnext : s.forward t b = s.sendApply t b e unchecked := by
      rw [hforward hheld hflight, if_neg hkind, if_pos (hslot.mpr hs), State.forwardEntry_sent (mt hstale.mp hst)]
      rfl
    rw [hnext]
    have hprior : s.priorDrop e = prior := s.priorDrop_eq e
    obtain ⟨hrec, hothers, hslots, hgranted, hwait, hmap, hqueue', hstats, hrest⟩ := s.sendApply_fields t b e unchecked
    rw [hprior, bodyOutRecords_eq] at hqueue'
    refine ⟨_, s.apply.nextTag, rfl, le_lowestFree _ _, fun x hx h => lowestFree_spec _ _ (List.mem_map.mpr ⟨x, hx, h⟩),
      fun n hlo hn => List.mem_map.mp (mem_of_between_lowestFree hlo hn), hrec, hothers, hslots, hgranted, hwait, hmap, hqueue',
      hstats, fun hmapped _ => ?_, hrest⟩
    show List.find? _ (s.sendApply t b e unchecked).map = _
    rw [hmap, if_pos hmapped]
    exact touchObj_find s.map e.notice.bucket e.notice.digest fun _ => rfl
  · rw [hforward hheld hflight, if_neg hkind, if_neg (mt hslot.mp hs)]
    have hcould : (s.inRec k).Could := ⟨hheld, hflight, by rw [hqueue]; exact List.cons_ne_nil _ _⟩
    obtain ⟨hgranted, hroom⟩ := not_or.mp hs
    by_cases hlisted : k ∈ s.apply.waitList
    · have hstays : s.forwardTest k = s := State.forwardTest_stays hcould fun h => h.1.2.2.2 hlisted
      rw [if_pos (List.contains_iff_mem.mpr hlisted)]
      exact congrArg Host.Outcome.next hstays
    · rw [if_neg (mt List.contains_iff_mem.mp hlisted)]
      exact congrArg Host.Outcome.next
        (State.forwardTest_waits ⟨hcould, ⟨e, rest, hqueue, hkind⟩, hgranted, hlisted⟩ (Nat.not_lt.mp hroom))

/-! ## APPLY_REPLY (R149, R151) -/

theorem Sli.latch_tags (x : Sli) (l : PartLatch) : (x.latch l).tags = x.tags := by
  unfold Sli.latch
  split
  · rfl
  · rw [Sli.reportIf_eq]

theorem State.recordTaken_partQueue (s : State) : s.recordTaken.sli.partQueue = s.sli.partQueue := by
  show s.sli.recordEnds.restartSent.partQueue = _
  unfold Sli.restartSent Sli.replySent
  split
  · split <;> rfl
  · rfl

/-- A latch set is set afterwards, whether or not it was before. -/
theorem Sli.latch_set (x : Sli) (l : PartLatch) : (x.latch l).latches.part.get l = true := by
  unfold Sli.latch
  split
  · next h => exact h
  · rw [Sli.reportIf_eq]
    exact (PartLatches.get_put _ _ _ _).trans (if_pos rfl)

theorem State.setInRec_setInRec (s : State) (k : Nat) {r x : InRec} (h : r ≠ .reset) :
    (s.setInRec k r).setInRec k x = s.setInRec k x := by
  unfold State.setInRec
  exact congrArg (fun y => State.setApply s { s.apply with records := y }) (Table.set_set k s.apply.records h)

section
variable {s : State} {tag : Nat} {t : Trunk} {b : Nat}

theorem State.applyAnswer_orphan {e : InEntry} (ok : Bool)
    (h : s.apply.slots.find? (fun x => x.tag == tag) = some ⟨tag, t, b, some e⟩) :
    s.applyAnswer tag ok = (s.freeSlot tag).discardInbound e := by
  rw [State.applyAnswer, h]

theorem State.applyAnswer_head (ok : Bool) (h : s.apply.slots.find? (fun x => x.tag == tag) = some ⟨tag, t, b, none⟩) :
    s.applyAnswer tag ok = (s.freeSlot tag).headAnswer (recKey t b) ok := by
  rw [State.applyAnswer, h]

variable {k : Nat} {e : InEntry} {rest : List InEntry}

theorem State.headAnswer_ok (hqueue : (s.inRec k).queue = e :: rest) : s.headAnswer k true =
    (s.headLeft k ({ s.inRec k with inFlight := none }.headDone e rest) e).forwardTest k := by
  have hanswered : s.headAnswer k true = (s.setInRec k { s.inRec k with inFlight := none }).finishHead k e := by
    simp only [State.headAnswer, hqueue, Bool.not_true, Bool.or_false]
  have hrec : (s.setInRec k { s.inRec k with inFlight := none }).inRec k = { s.inRec k with inFlight := none } :=
    Table.get_set_self _ _ _ _
  have hne : ({ s.inRec k with inFlight := none } : InRec) ≠ .reset := fun h => by
    have hempty : (s.inRec k).queue = [] := congrArg InRec.queue h
    rw [hqueue] at hempty
    cases hempty
  rw [hanswered, State.finishHead_eq (s := s.setInRec k _) (by rw [hrec]; exact hqueue), hrec]
  unfold State.headLeft
  rw [State.setInRec_setInRec s k hne]
  rfl

theorem State.headAnswer_failed : s.headAnswer k false =
    (s.setInRec k { s.inRec k with inFlight := none, held := true }).latch .applyHeld := by
  simp only [State.headAnswer, Bool.not_false, Bool.or_true]

end

/-- Settles O54: the slot freed, and the answer to the entry at the head of its record or to one that a peer change took. -/
theorem applyAnswered : Obligations.ApplyAnswered := by
  intro result w s t b hbuf hcheck htag hb k r x1 f released
  have hexec : exec (.applyReply 0x40#8 result w) s = .next ((s.answerTaken w).applyAnswer w.tag.toNat (resultOk result)) := by
    rw [exec_hostReply .applyReply (by simp) 0x40#8 result w s hbuf,
      State.hostReply_outstanding (kind := 0x40#8) result hcheck htag rfl]
    rfl
  have hfree : (s.answerTaken w).freeSlot w.tag.toNat = { f with sli := x1 } := rfl
  refine ⟨fun e rest hslot hqueue => ?_, fun e hslot => ?_⟩
  · have hhead : exec (.applyReply 0x40#8 result w) s = .next (State.headAnswer { f with sli := x1 } k (resultOk result)) := by
      rw [hexec, State.applyAnswer_head (s := s.answerTaken w) (resultOk result) hslot, hfree]
      rfl
    have hqueue' : x1.partQueue = s.sli.partQueue := s.recordTaken_partQueue
    have hstats : x1.stats = s.sli.stats := s.recordTaken_stats
    rw [hhead]
    by_cases hok : result = 0#16
    · rw [(resultOk_iff result).mpr hok, State.headAnswer_ok (s := { f with sli := x1 }) hqueue]
      obtain ⟨hrec, hothers, hbacklog, hbody, hslots⟩ := State.headLeft_forwardTest { f with sli := x1 } k
        ({ r with inFlight := none }.headDone e rest) e
      have hsli : (State.forwardTest (State.headLeft { f with sli := x1 } k ({ r with inFlight := none }.headDone e rest) e)
          k).sli = x1 := State.forwardTest_sli _ _
      refine ⟨_, rfl, congrArg Sli.tags hsli, (congrArg Sli.partQueue hsli).trans hqueue', (congrArg Sli.stats hsli).trans hstats,
        hslots, fun _ => ⟨hrec, hsli, State.forwardTest_map _ _, rfl, hbacklog, hbody⟩, fun hbad => absurd hok hbad,
        hothers, State.forwardTest_now _ _, State.forwardTest_clock _ _, State.forwardTest_buckets _ _,
        State.forwardTest_journal _ _, State.forwardTest_ports _ _, State.forwardTest_sups _ _⟩
    · rw [Bool.eq_false_of_not_eq_true (mt (resultOk_iff result).mp hok), State.headAnswer_failed]
      refine ⟨_, rfl, Sli.latch_tags x1 .applyHeld, (Sli.latch_partQueue x1 .applyHeld).trans hqueue',
        (Sli.latch_stats x1 .applyHeld).trans hstats, rfl, fun h => absurd h hok,
        fun _ => ⟨Table.get_set_self _ _ _ _, rfl, rfl, rfl, rfl, rfl, Sli.latch_set x1 .applyHeld⟩,
        fun j hj => Table.get_set_ne _ _ _ hj, rfl, rfl, rfl, rfl, rfl, rfl⟩
  · rw [hexec, State.applyAnswer_orphan (s := s.answerTaken w) (resultOk result) hslot, hfree, State.discardInbound_eq]
    rfl

end Sys2Proof.Machine

/-! # A trunk's restart and a peer change -/

namespace Sys2Proof.Machine

/-! ## The inbound records of a trunk -/

theorem recKey_div (v : Trunk) {b : Nat} (hb : b < 4096) : (v.index * 4096 + b) / 4096 = v.index := by omega

theorem Trunk.index_inj {v t : Trunk} (h : v.index = t.index) : v = t := by
  cases v <;> cases t <;> first | rfl | cases h

theorem keyOf_self (t : Trunk) {b : Nat} (hb : b < 4096) : keyOf t (t.index * 4096 + b) = true := by
  have hdiv : (t.index * 4096 + b) / Config.buckets = t.index := recKey_div t hb
  rw [keyOf, hdiv, beq_self_eq_true]

theorem keyOf_other {t v : Trunk} (hv : v ≠ t) {b : Nat} (hb : b < 4096) : keyOf t (v.index * 4096 + b) = false := by
  have hdiv : (v.index * 4096 + b) / Config.buckets = v.index := recKey_div v hb
  rw [keyOf, hdiv, beq_eq_false_iff_ne]
  exact fun h => hv (Trunk.index_inj h)

/-- Every inbound record of a trunk changed: what a record reads as. -/
theorem State.mapInRecs_inRec {s : State} {t : Trunk} {g : InRec → InRec} (hg : g .reset = .reset)
    (hwf : Table.wf .reset s.apply.records = true) (k : Nat) :
    (s.mapInRecs t g).inRec k = if keyOf t k = true then g (s.inRec k) else s.inRec k :=
  Table.get_mapOn (fun _ => hg) (Table.sorted_of_wf hwf)

/-! ## The trunk restart (R90, R152) -/

/-- A record after a trunk restart (R152). -/
def InRec.restarted (r : InRec) : InRec := { r with reassembly := none, skip := none, ackOwed := r.ackOwed || r.epoch.isSome }

theorem State.restartInbound_eq (s : State) (t : Trunk) : s.restartInbound t = State.mapInRecs { s with
    apply := { s.apply with backlog := s.apply.backlog - (s.reassembling t).length }
    body := { s.body with inUse := s.body.inUse - ((s.reassembling t).map fun e => e.slots).sum }
    map := mapReleased s.map (s.reassembling t) } t InRec.restarted := by
  unfold State.restartInbound
  rw [State.reassembling_eq, State.discardAll_eq]
  rfl

theorem JEntry.requeue_eq (t : Trunk) (e : JEntry) :
    e.requeue t = { e with peers := e.peers.set t ((e.peers.get t).map fun _ => .queued) } := by
  unfold JEntry.requeue
  cases h : e.peers.get t with
  | none =>
    have hsame : e.peers.set t none = e.peers := by rw [← h, Quad.set_get]
    simp [hsame]
  | some p => rfl

/-- The entries after a trunk restart: their frames have left the store, and the slot is QUEUED again (R30, R70). -/
def State.requeued (s : State) (t : Trunk) : List JEntry := s.journal.entries.map fun e => { e with
  framesOut := e.framesOut - (s.port t).store.countP (fun f => f.handle = ⟨e.index, e.gen⟩)
  peers := e.peers.set t ((e.peers.get t).map fun _ => .queued) }

theorem State.trunkRestart_eq (s : State) (t : Trunk) (goal : TrunkState) (cause : Option Signature) :
    s.trunkRestart t goal cause = State.refillRefresh (State.mapInRecs { s with
      ports := s.ports.set t ((s.port t).restarted s.now goal)
      sups := s.sups.set t ((s.sup t).restarted cause)
      journal := { s.journal with entries := s.requeued t }
      apply := { s.apply with backlog := s.apply.backlog - (s.reassembling t).length }
      body := { s.body with inUse := s.body.inUse - ((s.reassembling t).map fun e => e.slots).sum }
      map := mapReleased s.map (s.reassembling t) } t InRec.restarted) := by
  have hentries : (s.framesLeave (s.port t).store).journal.entries.map (JEntry.requeue t) = s.requeued t := by
    unfold State.framesLeave State.setEntries State.setJournal State.requeued
    rw [List.map_map]
    refine List.map_congr_left fun e _ => ?_
    exact JEntry.requeue_eq t _
  unfold State.trunkRestart
  dsimp only
  rw [State.restartInbound_eq, hentries]
  rfl

theorem Port.restarted_eq (p : Port) (now : Nat) (goal : TrunkState) : p.restarted now goal = {
    state := goal
    config := { p.config with paced := p.staged.getD p.config.paced }
    staged := none
    cycleAt := now, frameAt := now, position := 0, cycleCounter := 0, rxPos := p.rxPos
    lock := ⟨false, none, none, 0, 0, false⟩
    filter := ⟨false, 0⟩
    lastCycle := 0, headCycles := 0, alignCycle := 0, alignDelay := p.alignDelay, runCycle := 0
    cycleService := none
    peerSeenRunning := false, peerHears := false, heard := false, prevHead := false
    probeEntry := now
    lastProbe := none
    recorded := p.recorded
    expressStart := 0, bulkStart := 0, nextFrame := 0
    store := []
    peerThrough := none
    peerThroughAt := p.peerThroughAt
    ackStart := p.ackStart
    reorder := []
    expectedFrame := 0
    test := p.test
    stats := p.stats
    line := p.line } := by
  rw [Port.restarted, Port.stagedInForce_eq]
  rfl

/-- Bringing the refill queue up to date keeps those that are due, and adds others. -/
theorem State.refillRefresh_queue (s : State) : ∃ joining, s.refillRefresh.body.refillQueue =
    (s.body.refillQueue.filter fun i => s.refillRefresh.journal.entries.any fun e =>
      e.index == i && dueForRefill s.refillRefresh e) ++ joining ∧ ∀ i ∈ joining, i ∉ s.body.refillQueue := by
  obtain ⟨joining, n, heq, hnew⟩ := s.refillRefresh_eq
  have hdue : ∀ e, dueForRefill s.refillRefresh e = dueForRefill s e := dueForRefill_congr rfl rfl
  refine ⟨joining, ?_, hnew⟩
  simp only [hdue]
  exact (congrArg (fun u : State => u.body.refillQueue) heq :)

/-- Settles O36: the trunk restart as one update, read off field by field. -/
theorem trunkRestartProcedure : Obligations.TrunkRestartProcedure := by
  intro s t goal cause hwf u p
  have hrec : ∀ k, u.inRec k = if keyOf t k = true then (s.inRec k).restarted else s.inRec k := by
    intro k
    unfold u
    rw [State.trunkRestart_eq]
    exact State.mapInRecs_inRec rfl hwf k
  have hport : u.port t = _ := (s.trunkRestart_port t goal cause).trans (Port.restarted_eq _ _ _)
  have heq := s.trunkRestart_eq t goal cause
  refine ⟨hport, s.trunkRestart_sup t goal cause, fun v hv => ⟨?_, ?_⟩, ?_, fun b hb => ?_, fun v b hv hb => ?_, ?_⟩
  · unfold u
    rw [State.port, State.trunkRestart_ports]
    exact Quad.get_set_ne _ _ hv
  · unfold u
    rw [State.sup, State.trunkRestart_sups]
    exact Quad.get_set_ne _ _ hv
  · unfold u
    rw [heq]
    rfl
  · rw [hrec, if_pos (keyOf_self t hb)]
    rfl
  · rw [hrec, if_neg (by rw [keyOf_other hv hb]; exact Bool.false_ne_true)]
  · unfold u
    rw [heq]
    exact ⟨rfl, rfl, rfl, State.refillRefresh_current _, State.refillRefresh_queue _, rfl, rfl⟩

/-! ## Removals and drain tests, one after another (R6, R29, R31) -/

theorem State.foldRemove_eq (l : List JEntry) : ∀ s : State, l.foldl State.removeEntry s = { s with
    journal := { s.journal with entries := s.journal.entries.filter fun y => !l.any fun e => e.index == y.index }
    body := bodyAfter s.body l
    map := mapAfter s.map l
    buckets := (l.foldl State.removeEntry s).buckets } := by
  intro s
  rw [← State.foldRemove_journal, ← State.foldRemove_body, ← State.foldRemove_map]
  induction l generalizing s with
  | nil => rfl
  | cons e l ih =>
    rw [List.foldl_cons, ih, State.removeEntry_eq]

theorem State.foldDrain_eq (l : List Nat) : ∀ s : State, l.foldl State.drainTest s = { s with
    buckets := (l.foldl State.drainTest s).buckets } := by
  induction l with
  | nil => exact fun s => rfl
  | cons b l ih =>
    intro s
    rw [List.foldl_cons, ih, State.drainTest_eq]

/-- A DRAINING bucket that has become ABSENT (R6). -/
def Bucket.drained (r : Bucket) : Bucket :=
  { r with state := .absent, targets := .all false, band := .express, rebase := .all false }

/-- The bucket is DRAINING and has no entry. -/
def State.DrainsNow (s : State) (b : Nat) : Prop :=
  (s.bucket b).state = .draining ∧ ∀ e ∈ s.journal.entries, e.bucket ≠ b

/-- While entries leave, a bucket stands as it stood, or has passed to ABSENT for want of entries. -/
def DrainedOrSame (s u : State) : Prop := ∀ b, u.bucket b = s.bucket b
  ∨ (s.bucket b).state = .draining ∧ (∀ e ∈ u.journal.entries, e.bucket ≠ b) ∧ u.bucket b = (s.bucket b).drained

section
variable {s u v : State}

theorem DrainedOrSame.refl (s : State) : DrainedOrSame s s := fun _ => .inl rfl

/-- One more drain test, entries having left. -/
theorem DrainedOrSame.step {b : Nat} (h : DrainedOrSame s u) (hv : Drained u v b)
    (hsub : ∀ e ∈ v.journal.entries, e ∈ u.journal.entries) : DrainedOrSame s v := by
  intro i
  have hlater : u.bucket i = v.bucket i → v.bucket i = s.bucket i ∨ (s.bucket i).state = .draining
      ∧ (∀ e ∈ v.journal.entries, e.bucket ≠ i) ∧ v.bucket i = (s.bucket i).drained := fun hsame => (h i).imp (fun hi => hsame.symm.trans hi)
    fun ⟨hdraining, hempty, hi⟩ => ⟨hdraining, fun e he => hempty e (hsub e he), hsame.symm.trans hi⟩
  by_cases hi : i = b
  · subst hi
    by_cases hpassed : (u.bucket i).state = .draining ∧ ∀ e ∈ v.journal.entries, e.bucket ≠ i
    · have hpass : v.bucket i = (u.bucket i).drained := hv.passed hpassed.1 hpassed.2
      rcases h i with hsame | ⟨-, -, hdone⟩
      · rw [hsame] at hpass hpassed
        exact .inr ⟨hpassed.1, hpassed.2, hpass⟩
      · rw [hdone] at hpassed
        exact absurd hpassed.1 (by simp [Bucket.drained])
    · exact hlater (hv.stays hpassed).symm
  · exact hlater (hv.others i hi).symm

theorem DrainedOrSame.removeAll (l : List JEntry) : ∀ {u : State}, DrainedOrSame s u →
    DrainedOrSame s (l.foldl State.removeEntry u) := by
  induction l with
  | nil => exact fun h => h
  | cons e l ih =>
    intro u h
    refine ih (h.step (u.removeEntry_drained e) fun x hx => ?_)
    rw [State.removeEntry_eq] at hx
    exact (List.mem_filter.mp hx).1

theorem State.drainTest_entries (u : State) (b : Nat) : (u.drainTest b).journal.entries = u.journal.entries := by
  rw [State.drainTest_eq]

theorem DrainedOrSame.drainTests (l : List Nat) : ∀ {u : State}, DrainedOrSame s u →
    DrainedOrSame s (l.foldl State.drainTest u) := by
  induction l with
  | nil => exact fun h => h
  | cons b l ih =>
    intro u h
    refine ih (h.step (u.drainTest_drained b) fun x hx => ?_)
    rw [State.drainTest_entries] at hx
    exact hx

theorem State.drainTest_settles (u : State) (b : Nat) : ¬ (u.drainTest b).DrainsNow b := by
  rintro ⟨hstate, hempty⟩
  by_cases hpassed : (u.bucket b).state = .draining ∧ ∀ e ∈ (u.drainTest b).journal.entries, e.bucket ≠ b
  · rw [(u.drainTest_drained b).passed hpassed.1 hpassed.2] at hstate
    cases hstate
  · rw [(u.drainTest_drained b).stays hpassed] at hstate
    exact hpassed ⟨hstate, hempty⟩

theorem State.drainTest_keeps_settled {i : Nat} (b : Nat) (h : ¬ u.DrainsNow i) : ¬ (u.drainTest b).DrainsNow i := by
  by_cases hi : i = b
  · rw [hi]
    exact u.drainTest_settles b
  · rintro ⟨hstate, hempty⟩
    rw [(u.drainTest_drained b).others i hi] at hstate
    rw [State.drainTest_entries] at hempty
    exact h ⟨hstate, hempty⟩

theorem State.drainTests_keep_settled {i : Nat} (l : List Nat) : ∀ {u : State}, ¬ u.DrainsNow i →
    ¬ (l.foldl State.drainTest u).DrainsNow i := by
  induction l with
  | nil => exact fun h => h
  | cons b l ih => exact fun h => ih (State.drainTest_keeps_settled b h)

theorem State.drainTests_settle {i : Nat} (l : List Nat) : ∀ {u : State}, i ∈ l → ¬ (l.foldl State.drainTest u).DrainsNow i := by
  induction l with
  | nil => exact fun h => absurd h List.not_mem_nil
  | cons b l ih =>
    intro u h
    by_cases hmem : i ∈ l
    · exact ih hmem
    · obtain rfl := (List.mem_cons.mp h).resolve_right hmem
      exact State.drainTests_keep_settled l (u.drainTest_settles i)

/-- After the tests of all buckets none is DRAINING without an entry: an unlisted bucket is ABSENT. -/
theorem State.drainAll_settled (u : State) (i : Nat) : ¬ u.drainAll.DrainsNow i := by
  by_cases hlisted : i ∈ u.buckets.map (·.1)
  · exact State.drainTests_settle _ hlisted
  · refine State.drainTests_keep_settled _ fun h => ?_
    have habsent : u.bucket i = .reset := by
      have hnone : u.buckets.lookup i = none :=
        Table.lookup_of_absent fun e he hi => hlisted (List.mem_map.mpr ⟨e, he, hi⟩)
      rw [State.bucket, Table.get, hnone]
      rfl
    rw [State.DrainsNow, habsent] at h
    exact absurd h.1 (by decide)

/-- Each bucket after removals and the tests of all buckets. -/
theorem DrainedOrSame.settled (h : DrainedOrSame s u) {b : Nat} (hsettled : ¬ u.DrainsNow b) :
    let drained := (s.bucket b).state = .draining ∧ ∀ e ∈ u.journal.entries, e.bucket ≠ b
    (drained → u.bucket b = (s.bucket b).drained) ∧ (¬ drained → u.bucket b = s.bucket b) := by
  refine ⟨fun hd => ?_, fun hnot => ?_⟩
  · rcases h b with hsame | ⟨-, -, hdone⟩
    · exact absurd ⟨hsame ▸ hd.1, hd.2⟩ hsettled
    · exact hdone
  · rcases h b with hsame | ⟨hstate, hempty, -⟩
    · exact hsame
    · exact absurd ⟨hstate, hempty⟩ hnot

end

/-! ## The inbound part of a peer change (R154, R145) -/

/-- What giving up slots makes of the Apply Unit depends on the Apply Unit and the free choice alone. -/
theorem State.returnSlots_apply_congr {s u : State} (gone : Nat → Bool) (happly : s.apply = u.apply)
    (hfree : s.freeCount = u.freeCount) : (s.returnSlots gone).apply = (u.returnSlots gone).apply := by
  unfold State.returnSlots State.offerSlots State.setApply
  rw [happly, hfree]
  split
  · rfl
  · exact happly

/-- The Apply Unit that a peer change leaves, before the slots its records were handed are given up. -/
def State.peerChangedApply (s : State) (t : Trunk) : ApplyUnit := { s.apply with
  slots := s.apply.slots.map (s.orphaned t)
  records := s.apply.records.filter (fun e => !keyOf t e.1)
  waitList := s.apply.waitList.filter (fun k => !keyOf t k)
  backlog := s.apply.backlog - ((s.inRecsOf t).flatMap InRec.discarded).length }

theorem State.peerChangeInbound_eq (s : State) (t : Trunk) : s.peerChangeInbound t = State.returnSlots { s with
    apply := s.peerChangedApply t
    body := { s.body with inUse := s.body.inUse - (((s.inRecsOf t).flatMap InRec.discarded).map fun e => e.slots).sum }
    map := mapReleased s.map ((s.inRecsOf t).flatMap InRec.discarded) } (keyOf t) := by
  unfold State.peerChangeInbound
  rw [State.discardAll_eq]
  rfl

/-! ## The peer change (R86, R31) -/

theorem Bucket.dropTarget_reset (t : Trunk) : Bucket.dropTarget t .reset = .reset := by cases t <;> rfl

/-- The journal's part of a peer change, before the entries left without a slot go. -/
def State.slotDropped (s : State) (t : Trunk) : State := { s with
  buckets := s.buckets.mapOn .reset (fun _ => true) (Bucket.dropTarget t)
  journal := { s.journal with entries := s.journal.entries.map fun e => e.dropSlot t } }

theorem State.slotDropped_bucket {s : State} (t : Trunk) (hwf : Table.wf .reset s.buckets = true) (b : Nat) :
    (s.slotDropped t).bucket b = (s.bucket b).dropTarget t :=
  Table.get_mapOn (p := fun _ => true) (k := b) (fun _ => Bucket.dropTarget_reset t) (Table.sorted_of_wf hwf)

theorem State.slotDropped_emptied (s : State) (t : Trunk) : (s.slotDropped t).emptied =
    (s.journal.entries.filter fun e => (e.dropSlot t).noPending).map fun e => e.dropSlot t := by
  show (s.journal.entries.map fun e => e.dropSlot t).filter _ = _
  rw [List.filter_map]
  rfl

/-- The journal's part of a peer change. -/
def State.peerDropped (s : State) (t : Trunk) : State :=
  ((s.slotDropped t).emptied.foldl State.removeEntry (s.slotDropped t)).drainAll

theorem State.peerChange_dropped (s : State) (t : Trunk) : s.peerChange t = State.refillRefresh
    (State.setPort ((s.peerDropped t).peerChangeInbound t) t
      { ((s.peerDropped t).peerChangeInbound t).port t with recorded := none, peerHears := false }) := rfl

theorem State.peerDropped_eq {s : State} (t : Trunk) (hpositions : (s.journal.entries.map (·.index)).Nodup) :
    s.peerDropped t = { s with
      journal := { s.journal with entries := (s.journal.entries.map fun e => e.dropSlot t).filter fun e => !e.noPending }
      body := bodyAfter s.body (s.journal.entries.filter fun e => (e.dropSlot t).noPending)
      map := mapAfter s.map (s.journal.entries.filter fun e => (e.dropSlot t).noPending)
      buckets := (s.peerDropped t).buckets } := by
  have hnodup : ((s.slotDropped t).journal.entries.map (·.index)).Nodup := by
    have hindex : ((s.journal.entries.map fun e => e.dropSlot t).map (·.index)) = s.journal.entries.map (·.index) :=
      JEntry.map_index fun _ => rfl
    exact hindex.symm ▸ hpositions
  have hbody : bodyAfter s.body (s.slotDropped t).emptied =
      bodyAfter s.body (s.journal.entries.filter fun e => (e.dropSlot t).noPending) := by
    rw [State.slotDropped_emptied]
    exact bodyAfter_congr _ _ _ fun _ => ⟨rfl, rfl⟩
  have hmap : mapAfter s.map (s.slotDropped t).emptied =
      mapAfter s.map (s.journal.entries.filter fun e => (e.dropSlot t).noPending) := by
    rw [State.slotDropped_emptied]
    exact mapAfter_congr _ _ _ fun _ => ⟨rfl, rfl, rfl⟩
  have hdrain : s.peerDropped t = { (s.slotDropped t).emptied.foldl State.removeEntry (s.slotDropped t) with
      buckets := (s.peerDropped t).buckets } := State.foldDrain_eq _ _
  rw [hdrain, State.foldRemove_eq, State.filter_emptied hnodup, ← hbody, ← hmap]
  rfl

theorem State.refillRefresh_body_eq (s : State) :
    s.refillRefresh.body = { s.body with refillQueue := s.refillRefresh.body.refillQueue } := rfl

theorem State.peerChange_buckets (s : State) (t : Trunk) : (s.peerChange t).buckets = (s.peerDropped t).buckets := by
  rw [State.peerChange_dropped, State.refillRefresh_buckets, State.setPort_buckets, State.peerChangeInbound_buckets]

theorem State.peerChange_journal (s : State) (t : Trunk) : (s.peerChange t).journal = (s.peerDropped t).journal := by
  rw [State.peerChange_dropped, State.refillRefresh_journal, State.setPort_journal, State.peerChangeInbound_journal]

/-- Each bucket after a peer change. -/
theorem State.peerChange_bucket {s : State} (t : Trunk) (hwf : Table.wf .reset s.buckets = true) (b : Nat) :
    let v := (s.bucket b).dropTarget t
    let drained := (s.bucket b).state = .draining ∧ ∀ e ∈ (s.peerChange t).journal.entries, e.bucket ≠ b
    (drained → (s.peerChange t).bucket b = v.drained) ∧ (¬ drained → (s.peerChange t).bucket b = v) := by
  have hsame : DrainedOrSame (s.slotDropped t) (s.peerDropped t) :=
    ((DrainedOrSame.refl (s.slotDropped t)).removeAll (s.slotDropped t).emptied).drainTests _
  have hbucket : (s.peerChange t).bucket b = (s.peerDropped t).bucket b :=
    congrArg (Table.get Bucket.reset b) (s.peerChange_buckets t)
  have hsettled := hsame.settled (State.drainAll_settled _ b)
  rw [State.slotDropped_bucket t hwf b] at hsettled
  rw [hbucket, State.peerChange_journal]
  exact hsettled

/-- The entries that a peer change discards. -/
theorem State.discarded_eq (s : State) (t : Trunk) : (s.inRecsOf t).flatMap InRec.discarded =
    (s.apply.records.filter fun x => x.1 / 4096 == t.index).flatMap fun x =>
      x.2.reassembly.toList ++ (if x.2.inFlight.isSome then x.2.queue.drop 1 else x.2.queue) := by
  unfold State.inRecsOf
  rw [List.flatMap_map]
  rfl

theorem State.orphaned_eq (s : State) (t : Trunk) : s.orphaned t = fun x =>
    if x.trunk = t ∧ x.orphan = none then { x with
      orphan := ((s.inRec (t.index * 4096 + x.bucket)).queue.head?).map fun e => { e with current := false } }
    else x := by
  funext x
  unfold State.orphaned
  by_cases hx : x.trunk = t ∧ x.orphan = none
  · rw [if_pos ⟨hx.1, Option.isNone_iff_eq_none.mpr hx.2⟩, if_pos hx, hx.1]
    rfl
  · rw [if_neg fun h => hx ⟨h.1, Option.isNone_iff_eq_none.mp h.2⟩, if_neg hx]

/-- Settles O33: the journal's part by removals and drain tests, the inbound part by one clearing. -/
theorem peerChangeActs : Obligations.PeerChangeActs := by
  intro s t hentries hbuckets hrecords u
  have hbucket := fun b => s.peerChange_bucket t hbuckets b
  have hports := s.peerChange_ports t
  have hdropped := State.peerDropped_eq t hentries.positions
  have hu := s.peerChange_dropped t
  rw [State.peerChangeInbound_eq] at hu
  generalize (s.peerDropped t).buckets = bs at hdropped
  rw [hdropped] at hu
  have hrec : ∀ k, u.inRec k = if (!keyOf t k) = true then s.inRec k else .reset := by
    intro k
    refine Eq.trans ?_ (Table.get_filter InRec.reset (fun k => !keyOf t k) k s.apply.records)
    unfold u
    rw [hu]
    exact (State.returnSlots_inRec _ _ _ :)
  refine ⟨?_, hbucket, fun b hb => ?_, fun v b hv hb => ?_, ?_, hports, State.peerChange_sups _ _, State.peerChange_clock _ _,
    State.peerChange_now _ _, State.peerChange_sli _ _, ?_⟩
  · unfold u
    rw [State.peerChange_journal, hdropped]
  · rw [hrec, keyOf_self t hb]
    rfl
  · rw [hrec, keyOf_other hv hb]
    rfl
  · intro gone discards a
    have hdiscards : (s.inRecsOf t).flatMap InRec.discarded = discards := s.discarded_eq t
    have hslots := s.orphaned_eq t
    refine ⟨?_, ?_, ?_, ?_⟩
    · have hmodel : u.apply = (State.returnSlots { s with apply := s.peerChangedApply t } (keyOf t)).apply := by
        unfold u
        rw [hu]
        exact State.returnSlots_apply_congr (keyOf t) rfl rfl
      have hrecords : u.apply.records = s.apply.records.filter fun e => !keyOf t e.1 := by
        rw [hmodel, State.returnSlots_apply_records]
        rfl
      have ha : a = s.peerChangedApply t := by
        unfold a State.peerChangedApply
        rw [hrecords, hdiscards, hslots]
        rfl
      rw [ha]
      exact hmodel
    · have hbody := congrArg State.body hu
      rw [State.refillRefresh_body_eq, State.setPort_body, State.returnSlots_body] at hbody
      rw [← hdiscards]
      have hqueue := congrArg (fun x : State => x.body.refillQueue) hu
      exact hbody.trans (congrArg (fun q : List Nat => ({ bodyAfter s.body gone with
        inUse := s.body.inUse - (((s.inRecsOf t).flatMap InRec.discarded).map fun e => e.slots).sum
        refillQueue := q } : BodyStore)) hqueue.symm)
    · have hmap := congrArg State.map hu
      rw [State.refillRefresh_map, State.setPort_map, State.returnSlots_map] at hmap
      rw [← hdiscards]
      exact hmap
    · exact State.refillRefresh_current _
  · unfold u
    rw [State.peerChange_journal, hdropped]

end Sys2Proof.Machine

/-! # Timers: identifications, timeouts and probes -/

namespace Sys2Proof.Machine

/-! ## A restart by itself, and the latch of its cause (R90, R103, R170) -/

/-- A trunk restart and the link do not meet. -/
theorem State.trunkRestart_withSli (s : State) (y : Sli) (t : Trunk) (g : TrunkState) (c : Option Signature) :
    State.trunkRestart { s with sli := y } t g c = { s.trunkRestart t g c with sli := y } := by
  rw [State.trunkRestart_eq, State.trunkRestart_eq]
  rfl

theorem State.moveDown_eq (s : State) (t : Trunk) :
    s.moveDown t = { s.trunkRestart t .down none with sli := s.sli.latchTrunk t .down true } := by
  rw [State.moveDown, State.latchTrunk, State.trunkRestart_sli]
  rfl

theorem State.moveFaulted_eq (s : State) (t : Trunk) (c : Signature) : s.moveFaulted t c =
    { s.trunkRestart t .faulted (some c) with sli := s.sli.latchTrunk t .faulted true } := by
  rw [State.moveFaulted, State.latchTrunk, State.trunkRestart_sli]
  rfl

theorem Sli.latchTrunk_set (x : Sli) (t : Trunk) (l : TrunkLatch) (ok : Bool) :
    ((x.latchTrunk t l ok).latches.trunk.get t).get l = true := by
  unfold Sli.latchTrunk
  split
  · next h => exact h
  · rw [Sli.reportIf_eq]
    show ((x.latches.trunk.set t _).get t).get l = true
    rw [Quad.get_set_self]
    exact (TrunkLatches.get_put _ _ _ _).trans (if_pos rfl)

theorem Sli.saturated_one_latch (x : Sli) (t : Trunk) (c : CounterName) :
    ((x.saturated t c 1).latches.trunk.get t).counterSat = true := by
  have hset := x.latchTrunk_set t .counterSat true
  simp only [Sli.saturated]
  split
  · exact hset
  · exact hset

/-! ## IDENTIFICATION_ACTION (R167, Table 8-3) -/

section
variable {s : State} {t : Trunk} {sig : Signature}

theorem State.consequence_silent (h : (s.port t).state.locking = true) : s.consequence t .silent = s.moveDown t := by
  simp only [State.consequence, h, if_true]

theorem State.consequence_silent_idle (h : ¬ (s.port t).state.locking = true) : s.consequence t .silent = s :=
  if_neg h

theorem State.consequence_wrong (hsig : sig = .looped ∨ sig = .foreign)
    (h : (s.port t).state.locking = true ∨ (s.port t).state = .down) : s.consequence t sig = s.moveFaulted t sig := by
  have hmoves : ((s.port t).state.locking || decide ((s.port t).state = .down)) = true := by simpa using h
  rcases hsig with rfl | rfl
  · exact if_pos hmoves
  · exact if_pos hmoves

theorem State.consequence_wrong_faulted (hsig : sig = .looped ∨ sig = .foreign) (h : (s.port t).state = .faulted) :
    s.consequence t sig = s.setSup t { s.sup t with faultCause := some sig } := by
  rcases hsig with rfl | rfl <;> simp [State.consequence, h, TrunkState.locking]

/-- A signature for which Table 8-3 has no row, or a trunk in OFF or TEST. -/
theorem State.consequence_none (h : sig = .garbled ∨ (s.port t).state = .off ∨ (s.port t).state = .test) :
    s.consequence t sig = s := by
  rcases h with rfl | h | h
  · rfl
  · cases sig <;> simp [State.consequence, h, TrunkState.locking]
  · cases sig <;> simp [State.consequence, h, TrunkState.locking]

theorem TrunkState.locking_cases (x : TrunkState) :
    x.locking = true ↔ x = .hunt ∨ x = .align ∨ x = .running ∨ x = .resync := by cases x <;> simp [TrunkState.locking]

theorem State.takeRequest_nil (h : (s.sup t).requests = []) : s.takeRequest t = s := by
  rw [State.takeRequest, h]

theorem State.takeRequest_cons {rest : List Signature} (h : (s.sup t).requests = sig :: rest) :
    s.takeRequest t = (s.setSup t { s.sup t with requests := rest }).consequence t sig := by
  rw [State.takeRequest, h]

end

/-- Settles O45: Table 8-3, row by row. -/
theorem identificationTable : Obligations.IdentificationTable := by
  refine ⟨fun s t h => congrArg _ (State.takeRequest_nil h), ?_⟩
  intro s t sig rest h s1 st moving down faulted
  have hexec : exec (.identificationAction t) s = .next (s1.consequence t sig) :=
    congrArg _ (State.takeRequest_cons h)
  rw [hexec]
  have hmoving : (s1.port t).state.locking = true ↔ moving := TrunkState.locking_cases _
  refine ⟨?silent, ?silentIdle, ?wrong, ?wrongFaulted, fun hnone => congrArg _ (State.consequence_none hnone)⟩
  case silent =>
    rintro rfl hmoves
    rw [State.consequence_silent (hmoving.2 hmoves), State.moveDown_eq]
  case silentIdle =>
    rintro rfl hstays
    rw [State.consequence_silent_idle fun hlocks => hstays (hmoving.1 hlocks)]
  case wrong =>
    intro hsig hmoves
    rw [State.consequence_wrong hsig (hmoves.imp hmoving.2 id), State.moveFaulted_eq]
  case wrongFaulted =>
    intro hsig hfaulted
    rw [State.consequence_wrong_faulted (s := s1) hsig hfaulted]
    simp only [s1, State.setSup, State.sup, Quad.get_set_self, Quad.set_set]

/-! ## The timers (R102, R125, R169, R171) -/

section
variable {s : State} {t : Trunk}

/-- A frame behind another change of the same port. -/
theorem State.setPort_emit (s : State) (t : Trunk) (q : Port) (f : Frame) : (s.setPort t q).emit t f =
    s.setPort t { q with line := q.line ++ [f], stats := { q.stats with framesSent := q.stats.framesSent + 1 } } := by
  simp only [State.emit, State.setPort, State.port, Quad.get_set_self, Quad.set_set]

theorem TrunkState.probing_iff (x : TrunkState) : x.probing = true ↔ x = .down ∨ x = .faulted := by
  cases x <;> simp [TrunkState.probing]

theorem exec_probePeriod_probing (h : (s.port t).state = .down ∨ (s.port t).state = .faulted) :
    exec (.probePeriod t) s = .next ((s.advanceTo (s.port t).probeDue).sendProbe t) :=
  congrArg _ (if_pos ((TrunkState.probing_iff _).2 h))

theorem exec_probePeriod_idle (h : ¬ ((s.port t).state = .down ∨ (s.port t).state = .faulted)) :
    exec (.probePeriod t) s = .next s :=
  congrArg _ (if_neg fun hprobes => h ((TrunkState.probing_iff _).1 hprobes))

theorem exec_rtoExpiry_waiting {n : Nat} {f : SentFrame} (hup : (s.port t).state = .running ∨ (s.port t).state = .resync)
    (h : (s.port t).waiting n = some f) :
    exec (.rtoExpiry t n) s = .next ((s.advanceTo (f.lastSend + (s.port t).rtoNs)).joinResend t n) := by
  show execRtoExpiry t n s = _
  rw [execRtoExpiry, if_pos ((TrunkState.up_iff _).2 hup), h]

theorem exec_rtoExpiry_idle {n : Nat} (h : ¬ ((s.port t).state = .running ∨ (s.port t).state = .resync)
    ∨ (s.port t).waiting n = none) : exec (.rtoExpiry t n) s = .next s := by
  show execRtoExpiry t n s = _
  rw [execRtoExpiry]
  split
  · next hup =>
    rw [h.resolve_left fun hdown => hdown ((TrunkState.up_iff _).1 hup)]
  · rfl

theorem Port.waiting_none {p : Port} {n : Nat} (h : ∀ y ∈ p.store, y.number = n → y.queued = true) :
    p.waiting n = none := by
  rw [Port.waiting, List.find?_eq_none]
  intro y hy
  simpa using h y hy

theorem exec_resyncTimeout_set {x : Timer} (h : (s.port t).state = .align ∨ (s.port t).state = .resync)
    (hx : (s.sup t).resync = some x) : exec (.resyncTimeout t) s = .next ((s.advanceTo x.due).moveDown t) := by
  show execResyncTimeout t s = _
  rw [execResyncTimeout, if_pos h, hx]

theorem exec_resyncTimeout_idle (h : ¬ ((s.port t).state = .align ∨ (s.port t).state = .resync) ∨ (s.sup t).resync = none) :
    exec (.resyncTimeout t) s = .next s := by
  show execResyncTimeout t s = _
  rw [execResyncTimeout]
  split
  · next hruns => rw [h.resolve_left fun hstopped => hstopped hruns]
  · rfl

theorem exec_stallExpiry_set {x : Timer} (h : (s.port t).state = .running ∨ (s.port t).state = .resync)
    (hx : (s.sup t).stall = some x) :
    exec (.stallExpiry t) s = .next (((s.advanceTo x.due).identifyStalled t).moveFaulted t .stalled) := by
  show execStallExpiry t s = _
  rw [execStallExpiry, if_pos ((TrunkState.up_iff _).2 h), hx]

theorem exec_stallExpiry_idle (h : ¬ ((s.port t).state = .running ∨ (s.port t).state = .resync) ∨ (s.sup t).stall = none) :
    exec (.stallExpiry t) s = .next s := by
  show execStallExpiry t s = _
  rw [execStallExpiry]
  split
  · next hup => rw [h.resolve_left fun hdown => hdown ((TrunkState.up_iff _).1 hup)]
  · rfl

end

/-- Settles O44: each timer by its own condition; RTO_EXPIRY by whether the counter stands at its limit. -/
theorem timersExpire : Obligations.TimersExpire := by
  intro s t p x up
  refine ⟨fun hprobes => ?_, fun hdown hfaulted => exec_probePeriod_idle (not_or.2 ⟨hdown, hfaulted⟩), fun n f hup hf => ?_,
    fun n hidle => exec_rtoExpiry_idle (hidle.imp id Port.waiting_none), fun y hruns hy => ?_, exec_resyncTimeout_idle,
    fun y hup hy => ?_, exec_stallExpiry_idle⟩
  · intro due
    rw [exec_probePeriod_probing hprobes, State.sendProbe, State.setPort_emit]
    rfl
  · rw [exec_rtoExpiry_waiting hup hf, State.joinResend]
    intro s1
    have hs1 : (s.advanceTo (f.lastSend + p.rtoNs)).setPort t { p with
        store := p.store.map fun y => if y.number = n then { y with queued := true } else y } = s1 := rfl
    refine ⟨fun hbelow => ?_, fun hfull => ⟨s.sli.saturated t .resend 1, ?_, rfl, Sli.saturated_one_latch _ _ _⟩⟩
    · refine congrArg _ ((congrArg (fun u => State.countEvent u t .resend) hs1).trans ?_)
      rw [State.countEvent]
      exact if_pos hbelow
    · refine congrArg _ ((congrArg (fun u => State.countEvent u t .resend) hs1).trans ?_)
      exact State.countEvent_atLimit s1 t .resend hfull
  · rw [exec_resyncTimeout_set hruns hy, State.moveDown_eq]
    rfl
  · rw [exec_stallExpiry_set hup hy, State.moveFaulted_eq]
    intro u
    have hidentified : (s.advanceTo y.due).identifyStalled t = { ({ s with
        now := max s.now (y.start + y.length)
        sups := s.sups.set t { x with lastIdentified := some .stalled } } : State) with
        sli := s.sli.latchTrunk t .identified true } := rfl
    rw [hidentified, State.trunkRestart_withSli]

end Sys2Proof.Machine

/-! # FRAME_PERIOD: the frame of each position, and the SERVICE frame's acknowledgements -/

namespace Sys2Proof.Machine

/-! ## The scan for owed acknowledgements (R130) -/

section
variable {α : Type}

theorem Table.get_of_mem {d : α} : ∀ {t : Table α} {e : Nat × α}, Table.sorted t = true → e ∈ t → t.get d e.1 = e.2
  | x :: t, e, h, hmem => by
    obtain ⟨hlt, hrest⟩ := Table.sorted_cons_iff.mp h
    rcases List.mem_cons.mp hmem with rfl | htail
    · exact congrArg (fun o => Option.getD o d) (Table.lookup_cons_self e.1 e.2 t)
    · have hne : x.1 ≠ e.1 := Nat.ne_of_lt (hlt e htail)
      exact (congrArg (fun o => Option.getD o d) (Table.lookup_cons_ne t hne)).trans (Table.get_of_mem hrest htail)

end

/-- The acknowledgement of a record that has an epoch. -/
def ackOf (x : Nat × InRec) : EntryAck := ⟨x.1, x.2.epoch.getD 0, x.2.applied⟩

/-- The records of a turn that owe an acknowledgement. -/
def owing (l : List (Nat × InRec)) : List (Nat × InRec) := l.filter fun x => x.2.ackOwed

/-- A bucket whose record the scan with room for n passes: fewer than n acknowledgements are placed before it. -/
def Passed (l : List (Nat × InRec)) (n b : Nat) : Prop :=
  ∃ xs y ys, owing l = xs ++ y :: ys ∧ y.1 = b ∧ xs.countP (fun x => x.2.epoch.isSome) < n

section
variable {x : Nat × InRec} {l : List (Nat × InRec)} {n b : Nat}

theorem owing_cons_owed (h : x.2.ackOwed = true) : owing (x :: l) = x :: owing l := List.filter_cons_of_pos h

theorem owing_cons_clear (h : x.2.ackOwed = false) : owing (x :: l) = owing l :=
  List.filter_cons_of_neg (by simp [h])

theorem ackScan_zero (l : List (Nat × InRec)) : ackScan l 0 = ([], []) := by cases l <;> rfl

theorem ackScan_clear (h : x.2.ackOwed = false) : ackScan (x :: l) (n + 1) = ackScan l (n + 1) := by
  rw [ackScan, h]
  rfl

theorem ackScan_placed {e : Nat} (h : x.2.ackOwed = true) (he : x.2.epoch = some e) : ackScan (x :: l) (n + 1) =
    (ackOf x :: (ackScan l n).1, x.1 :: (ackScan l n).2) := by
  rw [ackScan, h, he, ackOf, he]
  rfl

theorem ackScan_passed (h : x.2.ackOwed = true) (he : x.2.epoch = none) : ackScan (x :: l) (n + 1) =
    ((ackScan l (n + 1)).1, x.1 :: (ackScan l (n + 1)).2) := by
  rw [ackScan, h, he]
  rfl

theorem not_passed_zero : ¬ Passed l 0 b := fun ⟨_, _, _, _, _, h⟩ => Nat.not_lt_zero _ h

theorem passed_cons_clear (h : x.2.ackOwed = false) : Passed (x :: l) n b ↔ Passed l n b := by
  rw [Passed, owing_cons_clear h, Passed]

/-- A record that owes is passed where there is room; a later one needs the room that this one leaves. -/
theorem passed_cons_owed (h : x.2.ackOwed = true) : Passed (x :: l) (n + 1) b ↔
    b = x.1 ∨ Passed l (n + 1 - if x.2.epoch.isSome = true then 1 else 0) b := by
  rw [Passed, owing_cons_owed h, Passed]
  constructor
  · rintro ⟨xs, y, ys, hsplit, rfl, hroom⟩
    cases xs with
    | nil => exact .inl (congrArg Prod.fst (List.cons.inj hsplit).1).symm
    | cons z xs =>
      obtain ⟨rfl, hrest⟩ := List.cons.inj hsplit
      refine .inr ⟨xs, y, ys, hrest, rfl, ?_⟩
      rw [List.countP_cons] at hroom
      omega
  · rintro (rfl | ⟨xs, y, ys, hsplit, rfl, hroom⟩)
    · exact ⟨[], x, owing l, rfl, rfl, Nat.succ_pos n⟩
    · refine ⟨x :: xs, y, ys, congrArg (List.cons x) hsplit, rfl, ?_⟩
      rw [List.countP_cons]
      omega

/-- The acknowledgements that the scan places. -/
theorem ackScan_acks : ∀ (l : List (Nat × InRec)) (n : Nat),
    (ackScan l n).1 = (((owing l).filter fun x => x.2.epoch.isSome).take n).map ackOf
  | [], n => by simp [ackScan, owing]
  | x :: l, 0 => by simp [ackScan]
  | x :: l, n + 1 => by
    cases howed : x.2.ackOwed with
    | false => rw [ackScan_clear howed, owing_cons_clear howed, ackScan_acks l (n + 1)]
    | true =>
      rw [owing_cons_owed howed]
      cases hepoch : x.2.epoch with
      | none => rw [ackScan_passed howed hepoch, List.filter_cons_of_neg (by simp [hepoch]), ackScan_acks l (n + 1)]
      | some e =>
        rw [ackScan_placed howed hepoch, List.filter_cons_of_pos (by simp [hepoch]), ackScan_acks l n, List.take_succ_cons,
          List.map_cons]

/-- The buckets whose flag the scan clears. -/
theorem mem_ackScan_cleared : ∀ (l : List (Nat × InRec)) (n : Nat), b ∈ (ackScan l n).2 ↔ Passed l n b
  | [], n => by simp [ackScan, Passed, owing]
  | x :: l, 0 => by simp [ackScan, not_passed_zero]
  | x :: l, n + 1 => by
    cases howed : x.2.ackOwed with
    | false => rw [ackScan_clear howed, passed_cons_clear howed, mem_ackScan_cleared l (n + 1)]
    | true =>
      rw [passed_cons_owed howed]
      cases hepoch : x.2.epoch with
      | none =>
        rw [ackScan_passed howed hepoch, List.mem_cons, mem_ackScan_cleared l (n + 1)]
        rfl
      | some e =>
        rw [ackScan_placed howed hepoch, List.mem_cons, mem_ackScan_cleared l n]
        rfl

theorem ackScan_acks_cleared : ∀ (l : List (Nat × InRec)) (n : Nat), ∀ a ∈ (ackScan l n).1, a.bucket ∈ (ackScan l n).2
  | [], _, a, h => nomatch h
  | _ :: _, 0, a, h => nomatch h
  | x :: l, n + 1, a, h => by
    cases howed : x.2.ackOwed with
    | false =>
      rw [ackScan_clear howed] at h ⊢
      exact ackScan_acks_cleared l (n + 1) a h
    | true =>
      cases hepoch : x.2.epoch with
      | none =>
        rw [ackScan_passed howed hepoch] at h ⊢
        exact List.mem_cons_of_mem _ (ackScan_acks_cleared l (n + 1) a h)
      | some e =>
        rw [ackScan_placed howed hepoch] at h ⊢
        rcases List.mem_cons.mp h with rfl | hrest
        · exact List.mem_cons_self
        · exact List.mem_cons_of_mem _ (ackScan_acks_cleared l n a hrest)

end

/-! ## The SERVICE frame (R129, R130, R134) -/

/-- A trunk's records in the order of the scan. -/
def State.ackTurn (s : State) (t : Trunk) : List (Nat × InRec) := (s.recsByBucket t).from (s.port t).ackStart

/-- The SERVICE frame that a trunk builds. -/
def State.serviceBuilt (s : State) (t : Trunk) : ServiceFrame :=
  ⟨(s.port t).through, (s.port t).marks, (ackScan (s.ackTurn t) 1000).1⟩

section
variable {s : State} {t : Trunk}

theorem State.sendService_eq (s : State) (t : Trunk) :
    let p := s.port t
    s.sendService t = (s.clearOwed t (ackScan (s.ackTurn t) 1000).2).setPort t { p with
      cycleService := some (s.serviceBuilt t)
      ackStart := match (s.serviceBuilt t).acks.getLast? with
        | none => p.ackStart
        | some a => (a.bucket + 1) % 4096
      line := p.line ++ [serviceFrame (s.serviceBuilt t) false]
      stats := { p.stats with framesSent := p.stats.framesSent + 1 } } := by
  intro p
  rw [State.sendService, State.setPort_emit]
  rfl

theorem State.clearOwed_inRec (hwf : Table.wf .reset s.apply.records = true) (bs : List Nat) (k : Nat) :
    (s.clearOwed t bs).inRec k = if (keyOf t k && bs.contains (k % 4096)) = true then
      { s.inRec k with ackOwed := false } else s.inRec k :=
  Table.get_mapOn (d := InRec.reset) (p := fun k => keyOf t k && bs.contains (k % Config.buckets))
    (g := fun r : InRec => { r with ackOwed := false }) (fun _ => rfl) (Table.sorted_of_wf hwf)

/-- What the scan leaves of a record. -/
theorem State.sendService_inRec (hwf : Table.wf .reset s.apply.records = true) (k : Nat) :
    (s.sendService t).inRec k = if (keyOf t k && (ackScan (s.ackTurn t) 1000).2.contains (k % 4096)) = true then
      { s.inRec k with ackOwed := false } else s.inRec k := by
  rw [State.sendService_eq]
  exact State.clearOwed_inRec hwf _ k

theorem State.sendService_inRec_passed (hwf : Table.wf .reset s.apply.records = true) {b : Nat} (hb : b < 4096)
    (h : Passed (s.ackTurn t) 1000 b) :
    (s.sendService t).inRec (t.index * 4096 + b) = { s.inRec (t.index * 4096 + b) with ackOwed := false } := by
  have hmod : (t.index * 4096 + b) % 4096 = b := by omega
  rw [State.sendService_inRec hwf, keyOf_self t hb, hmod]
  exact if_pos (List.contains_iff_mem.2 ((mem_ackScan_cleared _ _).2 h))

theorem State.sendService_inRec_kept (hwf : Table.wf .reset s.apply.records = true) {b : Nat} (hb : b < 4096)
    (h : ¬ Passed (s.ackTurn t) 1000 b) : (s.sendService t).inRec (t.index * 4096 + b) = s.inRec (t.index * 4096 + b) := by
  have hmod : (t.index * 4096 + b) % 4096 = b := by omega
  rw [State.sendService_inRec hwf, keyOf_self t hb, hmod]
  exact if_neg fun hcleared => h ((mem_ackScan_cleared _ _).1 (List.contains_iff_mem.1 hcleared))

theorem State.sendService_inRec_other (hwf : Table.wf .reset s.apply.records = true) {v : Trunk} (hv : v ≠ t) {b : Nat}
    (hb : b < 4096) : (s.sendService t).inRec (v.index * 4096 + b) = s.inRec (v.index * 4096 + b) := by
  rw [State.sendService_inRec hwf, keyOf_other hv hb]
  rfl

/-- A record of the turn is the trunk's record of its bucket. -/
theorem State.mem_ackTurn (hwf : Table.wf .reset s.apply.records = true) {x : Nat × InRec} (h : x ∈ s.ackTurn t) :
    x.1 < 4096 ∧ s.inRec (t.index * 4096 + x.1) = x.2 := by
  have hmem : x ∈ s.recsByBucket t := by
    rcases List.mem_append.mp h with h | h
    · exact List.mem_of_mem_filter h
    · exact List.mem_of_mem_filter h
  obtain ⟨e, he, rfl⟩ := List.mem_map.mp hmem
  obtain ⟨hrecord, hkey⟩ := List.mem_filter.mp he
  have hdiv : e.1 / 4096 = t.index := by simpa [keyOf, Config.buckets] using hkey
  refine ⟨Nat.mod_lt _ (by decide), ?_⟩
  have hwhole : t.index * 4096 + e.1 % 4096 = e.1 := by omega
  rw [show (e.1 % Config.buckets, e.2).1 = e.1 % 4096 from rfl, hwhole]
  exact Table.get_of_mem (Table.sorted_of_wf hwf) hrecord

/-- An acknowledgement placed tells of a record that owes one. -/
theorem State.serviceBuilt_ack (hwf : Table.wf .reset s.apply.records = true) {a : EntryAck}
    (h : a ∈ (s.serviceBuilt t).acks) : a.bucket < 4096 ∧ (s.inRec (t.index * 4096 + a.bucket)).ackOwed = true
      ∧ (s.inRec (t.index * 4096 + a.bucket)).epoch = some a.epoch
      ∧ (s.inRec (t.index * 4096 + a.bucket)).applied = a.seq
      ∧ Passed (s.ackTurn t) 1000 a.bucket := by
  have hpassed : Passed (s.ackTurn t) 1000 a.bucket :=
    (mem_ackScan_cleared _ _).1 (ackScan_acks_cleared _ _ a h)
  rw [State.serviceBuilt, ackScan_acks] at h
  obtain ⟨x, hx, rfl⟩ := List.mem_map.mp h
  obtain ⟨howing, hepoch⟩ := List.mem_filter.mp (List.mem_of_mem_take hx)
  obtain ⟨hturn, howed⟩ := List.mem_filter.mp howing
  obtain ⟨hb, hrec⟩ := State.mem_ackTurn hwf hturn
  have hread : s.inRec (t.index * 4096 + (ackOf x).bucket) = x.2 := hrec
  rw [hread]
  refine ⟨hb, howed, ?_, rfl, hpassed⟩
  obtain ⟨e, he⟩ := Option.isSome_iff_exists.mp hepoch
  rw [ackOf, he]
  rfl

end

/-! ## The other frames (R84, R96, R104, R114) -/

/-- The frame of a slot that would carry FILL. -/
def State.idleFrame (s : State) (t : Trunk) : Frame :=
  match (s.port t).echoCycle, (s.port t).cycleService with
  | true, some f => serviceFrame f true
  | _, _ => s.fillFrame

theorem State.fillSlot_eq (s : State) (t : Trunk) : s.fillSlot t = s.emit t (s.idleFrame t) := by
  unfold State.fillSlot State.idleFrame
  cases (s.port t).echoCycle <;> cases (s.port t).cycleService <;> rfl

section
variable {s : State} {t : Trunk}

/-- The state in which the frame of a position leaves. -/
def State.atPosition (s : State) (t : Trunk) : State := (s.advanceTo (s.port t).frameAt).setPort t (s.port t).positionDone

theorem State.atPosition_port (s : State) (t : Trunk) : (s.atPosition t).port t = (s.port t).positionDone :=
  Quad.get_set_self _ _ _

theorem exec_framePeriod_off (h : (s.port t).state = .off) : exec (.framePeriod t) s = .next s := by
  show execFramePeriod t s = _
  rw [execFramePeriod, h]

theorem exec_framePeriod_test (h : (s.port t).state = .test) :
    exec (.framePeriod t) s = .next ((s.advanceTo (s.port t).frameAt).sendTest t) := by
  show execFramePeriod t s = _
  rw [execFramePeriod, h]

theorem exec_framePeriod_cycle (hoff : (s.port t).state ≠ .off) (htest : (s.port t).state ≠ .test) :
    exec (.framePeriod t) s = .next (s.sendPosition t) := by
  show execFramePeriod t s = _
  rw [execFramePeriod]
  cases h : (s.port t).state with
  | off => exact absurd h hoff
  | test => exact absurd h htest
  | _ => rfl

/-- A position of the cycle, by the state (Table 5-2). -/
theorem exec_framePeriod_due (hoff : (s.port t).state ≠ .off) (htest : (s.port t).state ≠ .test)
    (h : (s.port t).position < (s.port t).config.k) : exec (.framePeriod t) s = .next
      (match (s.port t).state with
      | .hunt => (s.atPosition t).emit t s.fillFrame
      | .align => (s.atPosition t).sendAlign t (s.port t).position
      | .running => (s.atPosition t).sendUp t (s.port t).position (s.port t).frameAt
      | .resync => (s.atPosition t).sendUp t (s.port t).position (s.port t).frameAt
      | _ => s.atPosition t) := by
  rw [exec_framePeriod_cycle hoff htest, State.sendPosition]
  dsimp only
  rw [if_pos h]
  rfl

theorem exec_framePeriod_hunt (hstate : (s.port t).state = .hunt) (h : (s.port t).position < (s.port t).config.k) :
    exec (.framePeriod t) s = .next ((s.atPosition t).emit t s.fillFrame) := by
  rw [exec_framePeriod_due (by simp [hstate]) (by simp [hstate]) h, hstate]

theorem exec_framePeriod_align (hstate : (s.port t).state = .align) (h : (s.port t).position < (s.port t).config.k) :
    exec (.framePeriod t) s = .next ((s.atPosition t).sendAlign t (s.port t).position) := by
  rw [exec_framePeriod_due (by simp [hstate]) (by simp [hstate]) h, hstate]

theorem exec_framePeriod_quiet (hquiet : (s.port t).state = .down ∨ (s.port t).state = .faulted)
    (h : (s.port t).position < (s.port t).config.k) : exec (.framePeriod t) s = .next (s.atPosition t) := by
  rcases hquiet with hstate | hstate
  · rw [exec_framePeriod_due (by simp [hstate]) (by simp [hstate]) h, hstate]
  · rw [exec_framePeriod_due (by simp [hstate]) (by simp [hstate]) h, hstate]

theorem exec_framePeriod_up (hup : (s.port t).state = .running ∨ (s.port t).state = .resync)
    (h : (s.port t).position < (s.port t).config.k) :
    exec (.framePeriod t) s = .next ((s.atPosition t).sendUp t (s.port t).position (s.port t).frameAt) := by
  rcases hup with hstate | hstate
  · rw [exec_framePeriod_due (by simp [hstate]) (by simp [hstate]) h, hstate]
  · rw [exec_framePeriod_due (by simp [hstate]) (by simp [hstate]) h, hstate]

theorem State.atPosition_emit (s : State) (t : Trunk) (f : Frame) : (s.atPosition t).emit t f = { s with
    now := max s.now (s.port t).frameAt
    ports := s.ports.set t { (s.port t).positionDone with
      line := (s.port t).line ++ [f]
      stats := { (s.port t).stats with framesSent := (s.port t).stats.framesSent + 1 } } } := by
  rw [State.atPosition, State.setPort_emit]
  rfl

/-- The HEAD frame of a port with its two flags. -/
def State.headWith (s : State) (p : Port) (locked alarm : Bool) : Frame :=
  { Frame.blank 1 with
    ready := true
    locked := locked
    alarm := alarm
    site := s.clock.site.getD 0
    k := p.config.k
    align := 0x5E3AC691#32
    incarnation := s.clock.incarnation.getD 0#64
    cycle := p.cycleCounter }

theorem State.headFrame_of_port {p : Port} (h : s.port t = p) : s.headFrame t =
    s.headWith p (if p.state = .align then p.lock.held else p.state = .running) (p.state = .resync) := by
  rw [State.headFrame, h]
  rfl

theorem State.atPosition_headFrame (s : State) (t : Trunk) : (s.atPosition t).headFrame t = s.headWith (s.port t)
    (if (s.port t).state = .align then (s.port t).lock.held else (s.port t).state = .running) ((s.port t).state = .resync) :=
  (State.headFrame_of_port (s.atPosition_port t)).trans rfl

theorem State.atPosition_headFrame_align (h : (s.port t).state = .align) :
    (s.atPosition t).headFrame t = s.headWith (s.port t) (s.port t).lock.held false := by
  rw [State.atPosition_headFrame, h]
  rfl

theorem State.atPosition_headFrame_running (h : (s.port t).state = .running) :
    (s.atPosition t).headFrame t = s.headWith (s.port t) true false := by
  rw [State.atPosition_headFrame, h]
  rfl

theorem State.atPosition_headFrame_resync (h : (s.port t).state = .resync) :
    (s.atPosition t).headFrame t = s.headWith (s.port t) false true := by
  rw [State.atPosition_headFrame, h]
  rfl

theorem State.sendAlign_fill (h : ¬ ((s.port t).position = 0 ∧ (s.port t).alignDelay < (s.port t).alignCycle)) :
    (s.atPosition t).sendAlign t (s.port t).position = (s.atPosition t).emit t s.fillFrame := by
  rw [State.sendAlign, State.atPosition_port]
  exact if_neg h

theorem State.sendAlign_head (h : (s.port t).position = 0 ∧ (s.port t).alignDelay < (s.port t).alignCycle) :
    (s.atPosition t).sendAlign t (s.port t).position = ((s.atPosition t).setPort t
      { (s.port t).positionDone with headCycles := (s.port t).headCycles + 1 }).emit t ((s.atPosition t).headFrame t) := by
  rw [State.sendAlign, State.atPosition_port]
  exact if_pos h

theorem State.sendUp_head (s : State) (t : Trunk) (moment : Nat) : s.sendUp t 0 moment = s.emit t (s.headFrame t) := if_pos rfl

theorem State.sendUp_service (s : State) (t : Trunk) (moment : Nat) : s.sendUp t 1 moment = s.sendService t := rfl

/-- The slots behind the first two positions: one that the band plan gives to no class. -/
theorem State.sendUp_idle {position : Nat} (moment : Nat) (h : 2 ≤ position)
    (hrole : (s.port t).config.paced.plan.role (position - 2) = none) : s.sendUp t position moment = s.fillSlot t := by
  rw [State.sendUp, if_neg (by omega), if_neg (by omega), hrole]

theorem State.sendUp_data {position : Nat} (moment : Nat) {own : Band} (h : 2 ≤ position)
    (hrole : (s.port t).config.paced.plan.role (position - 2) = some own) :
    s.sendUp t position moment = s.dataSlot t own moment := by
  rw [State.sendUp, if_neg (by omega), if_neg (by omega), hrole]

end

/-- The SERVICE frame of position 1. -/
theorem framesByState_service (s : State) (t : Trunk) (hup : (s.port t).state = .running ∨ (s.port t).state = .resync)
    (hdue : (s.port t).position < (s.port t).config.k) (h : (s.port t).position = 1) :
    exec (.framePeriod t) s = .next ((s.atPosition t).sendService t) := by
  rw [exec_framePeriod_up hup hdue, h, State.sendUp_service]

/-- Settles O42: by the state and the position; the SERVICE frame by the scan of R130. -/
theorem framesByState : Obligations.FramesByState := by
  intro s t p due site inc fill head sent at1 paced idle
  refine ⟨exec_framePeriod_off, fun h => ?test, fun hoff htest hpast => ?past, fun hdue => ?due⟩
  case test =>
    rw [exec_framePeriod_test h, State.sendTest]
    dsimp only
    rw [State.setPort_emit]
    rfl
  case past =>
    rw [exec_framePeriod_cycle hoff htest, State.sendPosition]
    exact congrArg _ (if_neg (Nat.not_lt.2 hpast))
  case due =>
    have hemit : ∀ f, (s.atPosition t).emit t f = sent at1 f := s.atPosition_emit t
    refine ⟨fun h => ?hunt, fun h hfill => ?align, fun h hzero hdelay => ?alignHead, fun h hzero => ?running,
      fun h hzero => ?resync, fun hup hone hwf => ?service, fun hup htwo => ?slot, fun h => ?quiet⟩
    case hunt => exact (exec_framePeriod_hunt h hdue).trans (congrArg _ (hemit _))
    case align =>
      exact (exec_framePeriod_align h hdue).trans (congrArg _ ((State.sendAlign_fill hfill).trans (hemit _)))
    case alignHead =>
      refine (exec_framePeriod_align h hdue).trans (congrArg _ ((State.sendAlign_head ⟨hzero, hdelay⟩).trans ?_))
      rw [State.setPort_emit, State.atPosition_headFrame_align h, State.atPosition]
      simp only [State.setPort, Quad.set_set]
      rfl
    case running =>
      rw [exec_framePeriod_up (.inl h) hdue, hzero, State.sendUp_head, State.atPosition_headFrame_running h, hemit]
      rfl
    case resync =>
      rw [exec_framePeriod_up (.inr h) hdue, hzero, State.sendUp_head, State.atPosition_headFrame_resync h, hemit]
      rfl
    case service =>
      refine ⟨(s.atPosition t).sendService t, (s.atPosition t).serviceBuilt t, ?_⟩
      intro recs turn owed passed
      have hturn : (s.atPosition t).ackTurn t = turn := by
        rw [State.ackTurn, State.atPosition_port]
        rfl
      have hpassed : ∀ b, Passed ((s.atPosition t).ackTurn t) 1000 b ↔ passed b := fun b => hturn ▸ Iff.rfl
      have hwf1 : Table.wf .reset (s.atPosition t).apply.records = true := hwf
      have hport : ((s.atPosition t).sendService t).port t = _ :=
        (congrArg (fun u : State => u.port t) (State.sendService_eq (s.atPosition t) t)).trans (Quad.get_set_self _ _ _)
      rw [State.atPosition_port] at hport
      refine ⟨framesByState_service s t hup hdue hone, ?_, fun b hb =>
          ⟨fun h => State.sendService_inRec_passed hwf1 hb ((hpassed b).2 h),
            fun h => State.sendService_inRec_kept hwf1 hb fun hb' => h ((hpassed b).1 hb')⟩,
        fun v b hv hb => State.sendService_inRec_other hwf1 hv hb, hport, congrArg Port.line hport, congrArg (fun q => q.stats.framesSent) hport,
        (congrArg Port.position hport).trans (congrArg (· + 1) hone), ?_, ?_, ?_, fun a ha => ?_, ?_⟩
      · rw [State.serviceBuilt, hturn, ackScan_acks]
        rfl
      · rw [State.serviceBuilt, State.atPosition_port]
        rfl
      · rw [State.serviceBuilt, State.atPosition_port]
        rfl
      · rw [State.serviceBuilt, ackScan_acks, List.length_map, List.length_take]
        exact Nat.min_le_left _ _
      · obtain ⟨hb, howed, hepoch, hseq, hack⟩ := State.serviceBuilt_ack hwf1 ha
        exact ⟨howed, hepoch, hseq, congrArg InRec.ackOwed (State.sendService_inRec_passed hwf1 hb hack)⟩
      · simp only [State.sendService_now, State.sendService_clock, State.sendService_journal, State.sendService_buckets,
          State.sendService_sups, State.sendService_sli]
        exact ⟨rfl, rfl, rfl, rfl, rfl, rfl⟩
    case slot =>
      intro s1 slot plan express bulk
      have hplan : ((s.atPosition t).port t).config.paced.plan = plan := by
        rw [State.atPosition_port]
        rfl
      rw [exec_framePeriod_up hup hdue]
      refine ⟨fun hexpress hbulk => congrArg _ ?_, fun hexpress => congrArg _ ?_, fun hexpress hbulk => congrArg _ ?_⟩
      · rw [State.sendUp_idle _ htwo (by rw [hplan, Plan.role, if_neg hexpress, if_neg hbulk]), State.fillSlot_eq, hemit,
          State.idleFrame, State.atPosition_port]
        rfl
      · exact State.sendUp_data _ htwo (by rw [hplan, Plan.role, if_pos hexpress])
      · exact State.sendUp_data _ htwo (by rw [hplan, Plan.role, if_neg hexpress, if_pos hbulk])
    case quiet => exact exec_framePeriod_quiet h hdue

end Sys2Proof.Machine

/-! # The data slots: what is sendable, the search, and what a slot sends (R113 to R125) -/

namespace Sys2Proof.Machine

/-! ## The search (R115 to R117) -/

section
variable {α : Type}

/-- The first entry of a sorted table with a property is the lowest. -/
theorem Table.find?_lowest {p : Nat × α → Bool} : ∀ {t : Table α} {e : Nat × α}, Table.sorted t = true →
    t.find? p = some e → e ∈ t ∧ p e = true ∧ ∀ x ∈ t, x.1 < e.1 → ¬ p x = true
  | x :: t, e, h, hfind => by
    obtain ⟨hlt, hrest⟩ := Table.sorted_cons_iff.mp h
    cases hp : p x with
    | true =>
      rw [List.find?_cons_of_pos hp] at hfind
      obtain rfl := Option.some.inj hfind
      refine ⟨List.mem_cons_self, hp, fun y hy hbelow => ?_⟩
      rcases List.mem_cons.mp hy with rfl | htail
      · exact absurd hbelow (Nat.lt_irrefl _)
      · exact absurd hbelow (Nat.lt_asymm (hlt y htail))
    | false =>
      rw [List.find?_cons_of_neg (by simp [hp])] at hfind
      obtain ⟨hmem, hpe, hlowest⟩ := Table.find?_lowest hrest hfind
      refine ⟨List.mem_cons_of_mem _ hmem, hpe, fun y hy hbelow => ?_⟩
      rcases List.mem_cons.mp hy with rfl | htail
      · simp [hp]
      · exact hlowest y htail hbelow

/-- The first entry with a property in cyclic order from start: nothing that comes before it has the property. -/
theorem Table.from_find?_some {p : Nat × α → Bool} {t : Table α} {e : Nat × α} {start : Nat} (h : Table.sorted t = true)
    (hfind : (t.from start).find? p = some e) : e ∈ t ∧ p e = true
      ∧ ∀ x ∈ t, (if start ≤ e.1 then start ≤ x.1 ∧ x.1 < e.1 else start ≤ x.1 ∨ x.1 < e.1) → ¬ p x = true := by
  have hhigh : Table.sorted (t.filter fun e => decide (start ≤ e.1)) = true := Table.sorted_filter _ t h
  have hlow : Table.sorted (t.filter fun e => decide (e.1 < start)) = true := Table.sorted_filter _ t h
  rw [Table.from, List.find?_append] at hfind
  cases hfirst : (t.filter fun e => decide (start ≤ e.1)).find? p with
  | some y =>
    rw [hfirst] at hfind
    obtain rfl := Option.some.inj hfind
    obtain ⟨hmem, hpe, hlowest⟩ := Table.find?_lowest hhigh hfirst
    obtain ⟨hmem, hstart⟩ := List.mem_filter.mp hmem
    refine ⟨hmem, hpe, fun x hx hbefore => ?_⟩
    rw [if_pos (of_decide_eq_true hstart)] at hbefore
    obtain ⟨hfrom, hbelow⟩ := hbefore
    exact hlowest x (List.mem_filter.mpr ⟨hx, decide_eq_true hfrom⟩) hbelow
  | none =>
    rw [hfirst] at hfind
    obtain ⟨hmem, hpe, hlowest⟩ := Table.find?_lowest hlow hfind
    obtain ⟨hmem, hstart⟩ := List.mem_filter.mp hmem
    have hbelow : e.1 < start := of_decide_eq_true hstart
    refine ⟨hmem, hpe, fun x hx hbefore => ?_⟩
    rw [if_neg (Nat.not_le.2 hbelow)] at hbefore
    rcases hbefore with hfrom | hbefore
    · exact List.find?_eq_none.mp hfirst x (List.mem_filter.mpr ⟨hx, decide_eq_true hfrom⟩)
    · exact hlowest x (List.mem_filter.mpr ⟨hx, decide_eq_true (Nat.lt_trans hbefore hbelow)⟩) hbefore

theorem Table.from_find?_none {p : Nat × α → Bool} {t : Table α} {start : Nat} :
    (t.from start).find? p = none ↔ ∀ x ∈ t, ¬ p x = true := by
  rw [List.find?_eq_none]
  refine ⟨fun h x hx => h x ?_, fun h x hx => h x ?_⟩
  · rw [Table.from, List.mem_append, List.mem_filter, List.mem_filter]
    exact (Nat.lt_or_ge x.1 start).symm.imp (fun hle => ⟨hx, decide_eq_true hle⟩) fun hlt => ⟨hx, decide_eq_true hlt⟩
  · rcases List.mem_append.mp hx with hx | hx
    · exact List.mem_of_mem_filter hx
    · exact List.mem_of_mem_filter hx

/-- What a key of a table reads as, where it is not the default, is listed. -/
theorem Table.mem_of_get_ne {d : α} {t : Table α} {k : Nat} (h : t.get d k ≠ d) : (k, t.get d k) ∈ t := by
  cases hk : t.lookup k with
  | none => exact absurd (congrArg (fun o => Option.getD o d) hk) h
  | some v =>
    have hget : t.get d k = v := congrArg (fun o => Option.getD o d) hk
    rw [hget]
    obtain ⟨before, after, hsplit, _⟩ := List.lookup_eq_some_iff.mp hk
    rw [hsplit]
    exact List.mem_append_right _ List.mem_cons_self

end

section
variable {s : State} {t : Trunk} {c : Band} {b : Nat}

theorem State.hasWork_iff (r : Bucket) : s.hasWork t c b r = true ↔
    r.band = c ∧ r.targets.get t = true ∧ (s.sendable b t).isSome = true := by
  simp only [State.hasWork, Bool.and_eq_true, decide_eq_true_eq, and_assoc]

/-- A bucket has work as its listed record says; an unlisted bucket has no targets. -/
theorem State.hasWork_mem (h : s.hasWork t c b (s.bucket b) = true) : (b, s.bucket b) ∈ s.buckets := by
  refine Table.mem_of_get_ne fun hreset => ?_
  obtain ⟨_, htarget, _⟩ := (State.hasWork_iff _).1 h
  rw [State.bucket, hreset] at htarget
  cases t <;> exact absurd htarget (by decide)

theorem State.searchClass_some (hwf : Table.wf .reset s.buckets = true) (h : s.searchClass t c = some b) :
    s.hasWork t c b (s.bucket b) = true
      ∧ ∀ b', (if (s.port t).start c ≤ b then (s.port t).start c ≤ b' ∧ b' < b else (s.port t).start c ≤ b' ∨ b' < b) →
        ¬ s.hasWork t c b' (s.bucket b') = true := by
  have hsorted := Table.sorted_of_wf hwf
  obtain ⟨e, hfind, rfl⟩ := Option.map_eq_some_iff.mp h
  obtain ⟨hmem, hwork, hbefore⟩ := Table.from_find?_some hsorted hfind
  have hread : s.bucket e.1 = e.2 := Table.get_of_mem hsorted hmem
  rw [hread]
  exact ⟨hwork, fun b' hb' hwork' => hbefore (b', s.bucket b') (State.hasWork_mem hwork') hb' hwork'⟩

theorem State.searchClass_none (hwf : Table.wf .reset s.buckets = true) :
    s.searchClass t c = none ↔ ∀ b, ¬ s.hasWork t c b (s.bucket b) = true := by
  rw [State.searchClass, Option.map_eq_none_iff, Table.from_find?_none]
  refine ⟨fun h b hwork => h _ (State.hasWork_mem hwork) hwork, fun h e he => ?_⟩
  have hread : s.bucket e.1 = e.2 := Table.get_of_mem (Table.sorted_of_wf hwf) he
  rw [← hread]
  exact h e.1

theorem State.searchSlot_own {own : Band} (h : s.searchClass t own = some b) : s.searchSlot t own = some (own, b) := by
  rw [State.searchSlot, h]

theorem State.searchSlot_other {own other : Band} (hne : own ≠ other) (h : s.searchClass t own = none) :
    s.searchSlot t own = (s.searchClass t other).map fun b => (other, b) := by
  have hother : own.other = other := by
    cases own <;> cases other
    · exact absurd rfl hne
    · rfl
    · rfl
    · exact absurd rfl hne
  rw [State.searchSlot, h, ← hother]

/-! ## Sendable work (R23) -/

theorem JEntry.isSending_iff (e : JEntry) (t : Trunk) : e.isSending t = true ↔ ∃ i, e.peers.get t = some (.sending i) := by
  unfold JEntry.isSending
  split
  · next i h => simp [h]
  · next h => simpa using h

theorem JEntry.toSend_iff (e : JEntry) (t : Trunk) : e.toSend t = true ↔
    e.peers.get t = some .queued ∨ ∃ i, e.peers.get t = some (.sending i) := by
  unfold JEntry.toSend
  split
  · next h => simp [h]
  · next i h => simp [h]
  · next hqueued hsending =>
    refine ⟨fun h => absurd h (by decide), ?_⟩
    rintro (h | ⟨i, h⟩)
    · exact absurd h hqueued
    · exact absurd h (hsending i)

/-- The cursor entry, and the conditions under which its next piece may leave. -/
theorem State.sendable_iff (s : State) (b : Nat) (t : Trunk) (e : JEntry) : s.sendable b t = some e ↔
    s.cursor b t = some e
      ∧ ((s.bucket b).state = .active ∨ (s.bucket b).state = .draining ∨
        (s.bucket b).state = .paused ∧ ∃ i, e.peers.get t = some (.sending i))
      ∧ (e.change = .void ∨ e.bodyState = .ready) ∧ (e.seq.isSome = true ∨ (s.bucket b).seqLimit = false)
      ∧ ∀ i, e.peers.get t = some (.sending i) → i < e.segments := by
  have hpiece : ∀ e : JEntry, (match e.peers.get t with
      | some (.sending i) => decide (i < e.segments)
      | _ => true) = true ↔ ∀ i, e.peers.get t = some (.sending i) → i < e.segments := by
    intro e
    split
    · next i h => simp [h]
    · next h => simpa using fun i hi => absurd hi (h i)
  unfold State.sendable
  cases s.cursor b t with
  | none => simp
  | some y =>
    dsimp only
    rw [Option.some_inj]
    constructor
    · intro h
      obtain ⟨hall, hsome⟩ := Option.ite_none_right_eq_some.mp h
      obtain rfl := Option.some.inj hsome
      obtain ⟨hthree, hleft⟩ := Bool.and_eq_true_iff.mp hall
      simp only [Bool.and_eq_true, Bool.or_eq_true, decide_eq_true_eq, Bool.not_eq_true', JEntry.isSending_iff,
        or_assoc] at hthree
      obtain ⟨⟨hstate, hbody⟩, hseal⟩ := hthree
      exact ⟨rfl, hstate, hbody, hseal, (hpiece y).1 hleft⟩
    · rintro ⟨rfl, hstate, hbody, hseal, hleft⟩
      refine if_pos (Bool.and_eq_true_iff.mpr ⟨?_, (hpiece y).2 hleft⟩)
      simp only [Bool.and_eq_true, Bool.or_eq_true, decide_eq_true_eq, Bool.not_eq_true', JEntry.isSending_iff, or_assoc]
      exact ⟨⟨hstate, hbody⟩, hseal⟩

theorem State.sendable_toSend {e : JEntry} (h : s.sendable b t = some e) : e.toSend t = true :=
  List.find?_some (p := fun x : JEntry => x.toSend t) ((State.sendable_iff s b t e).1 h).1

theorem State.cursor_eq (s : State) (b : Nat) (t : Trunk) : s.cursor b t =
    s.journal.entries.find? fun x => x.bucket == b && match x.peers.get t with
      | some .sent => false
      | some _ => true
      | none => false := by
  rw [State.cursor, State.entriesOf, List.find?_filter]
  congr 1
  funext x
  rw [Bool.decide_and, Bool.decide_eq_true, Bool.decide_eq_true]
  congr 1
  unfold JEntry.toSend
  cases x.peers.get t with
  | none => rfl
  | some y => cases y <;> rfl

end

/-! ## The take of a piece (R24, R25, R118, R120, R121) -/

section
variable {s : State} {t : Trunk} {e : JEntry}

/-- The count of entries begun that the take of an entry's next piece adds. -/
def JEntry.begins (e : JEntry) (t : Trunk) : BitVec 32 := if e.peers.get t = some .queued then 1 else 0

/-- What the take of a piece leaves, whichever it is. -/
theorem State.takePiece_leaves (h : e.toSend t = true) :
    (s.takePiece t e).2.2 = { s with
      journal := { s.journal with entries := (s.takePiece t e).2.2.journal.entries }
      buckets := (s.takePiece t e).2.2.buckets
      map := (s.takePiece t e).2.2.map
      ports := s.ports.set t { s.port t with stats := { (s.port t).stats with
        entriesBegun := (s.port t).stats.entriesBegun + e.begins t } } }
    ∧ (s.takePiece t e).2.1.handle = e.handle := by
  rcases (JEntry.toSend_iff e t).1 h with hqueued | ⟨i, hsending⟩
  · rw [show e.begins t = 1 from if_pos hqueued]
    exact State.takePiece_notice s t e (by simp [hqueued])
  · rw [show e.begins t = 0 from if_neg (by simp [hsending]), State.takePiece_segment s t e i hsending]
    refine ⟨?_, rfl⟩
    have hport : s.ports.set t (s.port t) = s.ports := Quad.set_get _ _
    simp only [add_zero, hport]
    rfl

/-- The map and the buckets are the seal's, the entries those of one write behind it. -/
theorem State.takePiece_queued (h : e.peers.get t = some .queued) :
    let s1 := if e.seq.isNone then s.seal e else s
    let e1 := (s.sealedEntry e).afterNotice t
    s.takePiece t e = (noticePayload (noticeOf e1 (s1.bucket e.bucket) t), e1, (s1.putEntry e1).countBegun t) := by
  rw [State.takePiece, h]

theorem State.seal_entries (s : State) (e : JEntry) : (s.seal e).journal.entries =
    s.journal.entries.map fun x => if x.index = e.index then { e with seq := some (s.bucket e.bucket).nextSeq } else x := rfl

theorem State.seal_map (s : State) (e : JEntry) :
    (s.seal e).map = mapChanged s.map e.bucket e.digest fun x => { x with unsealed := none } := rfl

theorem State.seal_bucket_self (s : State) (e : JEntry) : (s.seal e).bucket e.bucket = { s.bucket e.bucket with
    nextSeq := (s.bucket e.bucket).nextSeq + 1
    seqLimit := (s.bucket e.bucket).seqLimit || (s.bucket e.bucket).nextSeq + 1 == 4294967295 } :=
  State.setBucket_bucket_self s e.bucket _

theorem State.seal_bucket_ne {b : Nat} (h : b ≠ e.bucket) : (s.seal e).bucket b = s.bucket b :=
  Table.get_set_ne _ _ _ h

theorem State.sealedEntry_unsealed (h : e.seq = none) :
    s.sealedEntry e = { e with seq := some (s.bucket e.bucket).nextSeq } := by
  rw [State.sealedEntry, h]

theorem State.sealedEntry_sealed (h : e.seq.isSome = true) : s.sealedEntry e = e := by
  obtain ⟨n, hn⟩ := Option.isSome_iff_exists.mp h
  rw [State.sealedEntry, hn]

/-- An entry as its seal leaves it bears the seq it has, or the bucket's next. -/
theorem State.sealedEntry_eq (s : State) (e : JEntry) :
    s.sealedEntry e = { e with seq := some (e.seq.getD (s.bucket e.bucket).nextSeq) } := by
  cases h : e.seq with
  | none => rw [State.sealedEntry_unsealed h, Option.getD_none]
  | some n =>
    rw [State.sealedEntry_sealed (by rw [h]; rfl), Option.getD_some, ← h]

end

/-! ## The data slot (R113 to R125) -/

section
variable {s : State} {t : Trunk} {own : Band} {moment : Nat}

theorem State.dataSlot_resend {f : SentFrame} (h : (s.port t).resendHead = some f) :
    s.dataSlot t own moment = s.resend t moment f := by
  rw [State.dataSlot]
  dsimp only
  rw [h]

theorem State.dataSlot_full (h : (s.port t).resendHead = none) (hfull : (s.port t).window ≤ (s.port t).store.length) :
    s.dataSlot t own moment = if (s.anyWork t) = true then (s.fillSlot t).latchTrunk t .windowFull else s.fillSlot t := by
  rw [State.dataSlot]
  dsimp only
  rw [h]
  exact if_neg (Nat.not_lt.2 hfull)

section
variable (hhead : (s.port t).resendHead = none) (hroom : (s.port t).store.length < (s.port t).window)
include hhead hroom

theorem State.dataSlot_idle (h : s.searchSlot t own = none) : s.dataSlot t own moment = s.fillSlot t := by
  rw [State.dataSlot]
  dsimp only
  rw [hhead, h]
  exact if_pos hroom

variable {c : Band} {b : Nat} {e : JEntry} (hfound : s.searchSlot t own = some (c, b)) (hwork : s.sendable b t = some e)
include hfound hwork

theorem State.dataSlot_exhausted (h : (s.port t).nextFrame = 281474976710655) :
    s.dataSlot t own moment = (s.fillSlot t).protocolRestart t := by
  rw [State.dataSlot]
  dsimp only
  rw [hhead, hfound]
  dsimp only
  rw [hwork]
  exact (if_pos hroom).trans (if_pos h)

/-- The state and the piece of the take that a slot makes. -/
theorem State.dataSlot_takes (h : (s.port t).nextFrame ≠ 281474976710655) :
    let r := (s.setPort t ((s.port t).served c b)).takePiece t e
    s.dataSlot t own moment = (r.2.2.sendPiece t moment r.1 r.2.1).refillRefresh := by
  rw [State.dataSlot]
  dsimp only
  rw [hhead, hfound]
  dsimp only
  rw [hwork]
  exact (if_pos hroom).trans (if_neg h)

end

end

/-- The piece of an entry that a slot of a class takes for a bucket, and the state with it on its way. -/
def State.pieceSent (s : State) (t : Trunk) (c : Band) (b moment : Nat) (e : JEntry) : State :=
  let r := (s.setPort t ((s.port t).served c b)).takePiece t e
  r.2.2.sendPiece t moment r.1 r.2.1

/-- The payload of that piece. -/
def State.piecePayload (s : State) (t : Trunk) (c : Band) (b : Nat) (e : JEntry) : List Byte :=
  ((s.setPort t ((s.port t).served c b)).takePiece t e).1

section
variable {s : State} {t : Trunk} {c : Band} {b moment : Nat} {e : JEntry}

theorem State.pieceSent_eq (h : e.toSend t = true) :
    let p := s.port t
    let f := { Frame.blank 3 with number := p.nextFrame, payload := s.piecePayload t c b e }
    s.pieceSent t c b moment e = { s with
      ports := s.ports.set t { p with
        expressStart := if c = .express then (b + 1) % 4096 else p.expressStart
        bulkStart := if c = .bulk then (b + 1) % 4096 else p.bulkStart
        nextFrame := p.nextFrame + 1
        store := p.store ++ [⟨p.nextFrame, f, ⟨e.index, e.gen⟩, moment, moment, false⟩]
        line := p.line ++ [f]
        stats := { p.stats with
          framesSent := p.stats.framesSent + 1, entriesBegun := p.stats.entriesBegun + e.begins t } }
      sups := if p.store = [] then s.sups.set t { s.sup t with
          stall := some ⟨s.now, p.config.stallTime * 1000000000⟩ }
        else s.sups
      journal := { s.journal with entries := (s.pieceSent t c b moment e).journal.entries }
      buckets := (s.pieceSent t c b moment e).buckets
      map := (s.pieceSent t c b moment e).map } := by
  intro p f
  have hserved : p.served c b = { p with
      expressStart := if c = .express then (b + 1) % 4096 else p.expressStart
      bulkStart := if c = .bulk then (b + 1) % 4096 else p.bulkStart } := by cases c <;> rfl
  obtain ⟨htake, hhandle⟩ := State.takePiece_leaves (s := s.setPort t (p.served c b)) h
  have hsent := State.sendPiece_eq ((s.setPort t (p.served c b)).takePiece t e).2.2 t moment
    ((s.setPort t (p.served c b)).takePiece t e).1 ((s.setPort t (p.served c b)).takePiece t e).2.1
  have hpayload : s.piecePayload t c b e = ((s.setPort t (p.served c b)).takePiece t e).1 := rfl
  have hu : s.pieceSent t c b moment e = ((s.setPort t (p.served c b)).takePiece t e).2.2.sendPiece t moment
    ((s.setPort t (p.served c b)).takePiece t e).1 ((s.setPort t (p.served c b)).takePiece t e).2.1 := rfl
  dsimp only at hsent
  rw [hhandle, ← hpayload] at hsent
  rw [← hpayload] at hu
  rw [← hu] at hsent
  generalize s.pieceSent t c b moment e = u at hsent ⊢
  clear hu
  generalize ((s.setPort t (p.served c b)).takePiece t e).2.2 = y at htake hsent
  have hbuckets : u.buckets = y.buckets := (congrArg State.buckets hsent :)
  have hmap : u.map = y.map := (congrArg State.map hsent :)
  rw [hbuckets, hmap]
  generalize y.journal.entries = es, y.buckets = bs, y.map = m at htake ⊢
  subst htake
  rw [hserved] at hsent
  simp only [State.setPort, State.port, Quad.get_set_self, Quad.set_set] at hsent
  exact hsent

end

end Sys2Proof.Machine

/-! # The data slot, settled (R113 to R125) -/

namespace Sys2Proof.Machine

/-! ## The piece on its way -/

/-- The refill queue of a state that differs from another in its ports, supervisors, entries, buckets and map. -/
theorem State.refillRefresh_shape {s v : State} {q : Quad Port} {x : Quad Supervisor} {es : List JEntry} {bs : Table Bucket}
    {m : List ObjRec} (hv : v = { s with
      ports := q, sups := x, journal := { s.journal with entries := es }, buckets := bs, map := m }) :
    v.refillRefresh = { s with
      ports := q
      sups := x
      journal := { s.journal with entries := v.refillRefresh.journal.entries }
      buckets := v.refillRefresh.buckets
      map := v.refillRefresh.map
      body := { s.body with refillQueue := v.refillRefresh.body.refillQueue }
      freeCount := v.refillRefresh.freeCount } := by
  obtain ⟨joining, n, hu, _⟩ := v.refillRefresh_eq
  rw [hu]
  subst hv
  rfl

section
variable {s : State} {t : Trunk} {c : Band} {b moment : Nat} {e : JEntry}

theorem State.sendPiece_entries (s : State) (t : Trunk) (moment : Nat) (payload : List Byte) (e : JEntry) :
    (s.sendPiece t moment payload e).journal.entries =
      s.journal.entries.map fun x => if x.index = e.index then { e with framesOut := e.framesOut + 1 } else x := by
  unfold State.sendPiece
  dsimp only
  split <;> rfl

theorem State.pieceSent_segment {i : Nat} (h : e.peers.get t = some (.sending i)) :
    s.piecePayload t c b e = segmentPayload (segmentOf e i)
    ∧ (s.pieceSent t c b moment e).map = s.map ∧ (s.pieceSent t c b moment e).buckets = s.buckets
    ∧ (s.pieceSent t c b moment e).journal.entries = s.journal.entries.map fun x => if x.index = e.index then { e with
        peers := e.peers.set t (some (if i + 1 < e.segments then .sending (i + 1) else .sent))
        framesOut := e.framesOut + 1 } else x := by
  rw [State.piecePayload, State.pieceSent, State.takePiece_segment _ t e i h]
  refine ⟨rfl, State.sendPiece_map _ _ _ _ _, State.sendPiece_buckets _ _ _ _ _, ?_⟩
  exact (State.sendPiece_entries _ _ _ _ _).trans (map_put_put s.journal.entries rfl)

/-- The state in which the NOTICE of an entry is put on its way: its seal is done. -/
def State.sealedFor (s : State) (e : JEntry) : State := if e.seq.isNone then s.seal e else s

theorem State.sealedFor_unsealed (h : e.seq = none) : s.sealedFor e = s.seal e := if_pos (by rw [h]; rfl)

theorem State.sealedFor_sealed (h : e.seq.isSome = true) : s.sealedFor e = s := by
  obtain ⟨n, hn⟩ := Option.isSome_iff_exists.mp h
  exact if_neg (by simp [hn])

theorem State.sealedFor_setPort (s : State) (t : Trunk) (q : Port) (e : JEntry) :
    (s.setPort t q).sealedFor e = (s.sealedFor e).setPort t q := by
  unfold State.sealedFor
  split <;> rfl

/-- The take of a NOTICE changes a bucket in its seq fields alone. -/
theorem State.sealedFor_bucket (s : State) (e : JEntry) : ∃ n l, (s.sealedFor e).bucket e.bucket =
    { s.bucket e.bucket with nextSeq := n, seqLimit := l } := by
  cases h : e.seq with
  | none =>
    rw [State.sealedFor_unsealed h]
    exact ⟨_, _, State.seal_bucket_self s e⟩
  | some n =>
    rw [State.sealedFor_sealed (by rw [h]; rfl)]
    exact ⟨_, _, rfl⟩

theorem State.sealedFor_entries (s : State) (e y : JEntry) :
    ((s.sealedFor e).journal.entries.map fun x => if x.index = e.index then y else x) =
      s.journal.entries.map fun x => if x.index = e.index then y else x := by
  cases h : e.seq with
  | none =>
    rw [State.sealedFor_unsealed h, State.seal_entries]
    exact map_put_put s.journal.entries rfl
  | some n => rw [State.sealedFor_sealed (by rw [h]; rfl)]

theorem State.pieceSent_notice (h : e.peers.get t = some .queued) :
    let r := s.bucket e.bucket
    let seq := e.seq.getD r.nextSeq
    s.piecePayload t c b e = noticePayload ⟨e.change.code, r.rebase.get t, e.bucket, r.epochs.get t, seq, e.change.length,
      e.segments, e.digest, e.stamp, e.change.check, e.change.patches⟩
    ∧ (s.pieceSent t c b moment e).journal.entries = s.journal.entries.map (fun x => if x.index = e.index then { e with
        seq := some seq
        peers := e.peers.set t (some (if e.segments = 0 then .sent else .sending 0))
        framesOut := e.framesOut + 1 } else x)
    ∧ (s.pieceSent t c b moment e).buckets = (s.sealedFor e).buckets
    ∧ (s.pieceSent t c b moment e).map = (s.sealedFor e).map := by
  intro r seq
  have htake := State.takePiece_queued (s := s.setPort t ((s.port t).served c b)) h
  rw [State.sealedEntry_eq] at htake
  have hsealed : (if e.seq.isNone then (s.setPort t ((s.port t).served c b)).seal e else s.setPort t ((s.port t).served c b))
      = (s.sealedFor e).setPort t ((s.port t).served c b) := State.sealedFor_setPort _ _ _ _
  rw [hsealed] at htake
  rw [State.piecePayload, State.pieceSent, htake]
  refine ⟨?_, ?_, State.sendPiece_buckets _ _ _ _ _, State.sendPiece_map _ _ _ _ _⟩
  · obtain ⟨n, l, hbucket⟩ := s.sealedFor_bucket e
    have hread : ((s.sealedFor e).setPort t ((s.port t).served c b)).bucket e.bucket = _ := hbucket
    rw [hread]
    rfl
  · exact (State.sendPiece_entries _ _ _ _ _).trans ((map_put_put _ rfl).trans (s.sealedFor_entries e _))

end

/-- Settles O43: what is sendable, what the search finds, and a slot's five cases; a piece taken by its kind. -/
theorem dataSlotSends : Obligations.DataSlotSends := by
  refine ⟨fun s b t e => ?_, fun s t c hwf => ⟨fun b h => ?_, ?_⟩, fun s t own other hne =>
    ⟨fun b h => State.searchSlot_own h, State.searchSlot_other hne⟩, fun s t own moment => ?_⟩
  · intro r
    exact (congrArg (· = some e) (s.cursor_eq b t)) ▸ s.sendable_iff b t e
  · obtain ⟨hwork, hbefore⟩ := State.searchClass_some hwf h
    refine ⟨(State.hasWork_iff _).1 hwork, fun b' hb' hwork' => hbefore b' ?_ ((State.hasWork_iff _).2 hwork')⟩
    cases c with
    | express => exact hb'
    | bulk => exact hb'
  · exact (State.searchClass_none hwf).trans (forall_congr' fun b => not_congr (State.hasWork_iff _))
  · intro p sent idle
    have hfill : s.fillSlot t = { s with ports := s.ports.set t (sent p idle) } := by
      rw [State.fillSlot_eq]
      rfl
    have hhead : (∀ x ∈ p.store, x.queued = false) → p.resendHead = none := fun h =>
      List.find?_eq_none.mpr fun x hx => by simp [h x hx]
    refine ⟨fun xs ys f hstore hbefore hf => ?resend, fun hstore hfull => ?full, fun hstore hroom hnone => ?none,
      fun c b e hstore hroom hfound hwork hlast => ?exhausted, fun c b e hstore hroom hfound hwork hnext => ?piece⟩
    case resend =>
      have hfirst : p.resendHead = some f := List.find?_eq_some_iff_append.mpr
        ⟨hf, xs, ys, hstore, fun x hx => by simp [hbefore x hx]⟩
      rw [State.dataSlot_resend hfirst, State.resend, State.setPort_emit]
      rfl
    case full =>
      refine ⟨_, ?_, rfl⟩
      rw [State.dataSlot_full (hhead hstore) hfull, hfill]
      show (if (s.searchSlot t .express).isSome = true then _ else _) = _
      split
      · rfl
      · rfl
    case none => rw [State.dataSlot_idle (hhead hstore) hroom hnone, hfill]
    case exhausted =>
      rw [State.dataSlot_exhausted (hhead hstore) hroom hfound hwork hlast, hfill, State.protocolRestart]
      simp only [State.setPort, State.port, Quad.get_set_self, Quad.set_set]
      rfl
    case piece =>
      have htosend := State.sendable_toSend hwork
      refine ⟨s.piecePayload t c b e, ?_⟩
      have hu : s.dataSlot t own moment = (s.pieceSent t c b moment e).refillRefresh :=
        State.dataSlot_takes (hhead hstore) hroom hfound hwork hnext
      rw [hu]
      intro u f begun
      have hsent := State.pieceSent_eq (s := s) (c := c) (b := b) (moment := moment) htosend
      refine ⟨?_, State.refillRefresh_current _, fun i hsending => ?_, fun hqueued => ?_⟩
      · exact State.refillRefresh_shape hsent
      · obtain ⟨hpayload, hmap, hbuckets, hentries⟩ :=
          State.pieceSent_segment (s := s) (c := c) (b := b) (moment := moment) hsending
        exact ⟨hpayload, hmap, hentries, hbuckets⟩
      · obtain ⟨hpayload, hentries, hbuckets, hmap⟩ :=
          State.pieceSent_notice (s := s) (c := c) (b := b) (moment := moment) hqueued
        have hbucket : ∀ b', u.bucket b' = (s.sealedFor e).bucket b' := fun b' =>
          congrArg (fun x => Table.get Bucket.reset b' x) (hbuckets : u.buckets = _)
        intro r seq
        refine ⟨hpayload, hentries, fun hnone => ?_, fun b' hb' => ?_, fun hsome => ?_, fun hnone => ?_⟩
        · rw [hbucket, State.sealedFor_unsealed hnone, State.seal_bucket_self]
        · rw [hbucket]
          cases hseq : e.seq with
          | none => rw [State.sealedFor_unsealed hseq, State.seal_bucket_ne hb']
          | some n => rw [State.sealedFor_sealed (by rw [hseq]; rfl)]
        · rw [State.sealedFor_sealed hsome] at hbuckets hmap
          exact ⟨hbuckets, hmap⟩
        · rw [State.sealedFor_unsealed hnone] at hmap
          exact hmap

end Sys2Proof.Machine

/-! # The events of a cycle start, in every order (R83, R97, R111, R114, R160 to R168) -/

namespace Sys2Proof.Machine

/-! ## The close of a period, as one update -/

/-- The supervisor after its period closes, with the identification that the close makes. -/
def Supervisor.periodClosed (x : Supervisor) : Supervisor :=
  if (x.closed x.tally.signature).runLength = 5 then (x.closed x.tally.signature).identified x.tally.signature
  else x.closed x.tally.signature

/-- The link after a period closes, under an identification policy. -/
def Sli.periodClosed (y : Sli) (t : Trunk) (x : Supervisor) (policy : Bool) : Sli :=
  if (x.closed x.tally.signature).runLength = 5 then y.latchTrunk t .identified true
  else if x.tally.signature = .clean then y
  else y.latchTrunk t .unidentified (!policy)

/-- The supervisor after requests of which none moves the trunk are taken at once. -/
def Supervisor.acted (x : Supervisor) (cause : Option Signature) : Supervisor :=
  if x.runLength = 5 then { x with requests := [], faultCause := cause } else x

section
variable (x : Supervisor)

theorem Supervisor.periodClosed_runLength : x.periodClosed.runLength = (x.closed x.tally.signature).runLength := by
  unfold Supervisor.periodClosed
  split <;> rfl

theorem Supervisor.periodClosed_counters : x.periodClosed.counters = x.counters := by
  unfold Supervisor.periodClosed
  split <;> rfl

theorem Supervisor.periodClosed_resync : x.periodClosed.resync = x.resync := by
  unfold Supervisor.periodClosed
  split <;> rfl

theorem Supervisor.periodClosed_withCounters (k : Counters) :
    Supervisor.periodClosed { x with counters := k } = { x.periodClosed with counters := k } := by
  by_cases h : (x.closed x.tally.signature).runLength = 5
  · have hx : x.periodClosed = _ := if_pos h
    rw [hx]
    exact if_pos h
  · have hx : x.periodClosed = _ := if_neg h
    rw [hx]
    exact if_neg h

theorem Supervisor.periodClosed_withResync (r : Option Timer) :
    Supervisor.periodClosed { x with resync := r } = { x.periodClosed with resync := r } := by
  by_cases h : (x.closed x.tally.signature).runLength = 5
  · have hx : x.periodClosed = _ := if_pos h
    rw [hx]
    exact if_pos h
  · have hx : x.periodClosed = _ := if_neg h
    rw [hx]
    exact if_neg h

theorem Supervisor.acted_withCounters (k : Counters) (c : Option Signature) :
    Supervisor.acted { x with counters := k } c = { x.acted c with counters := k } := by
  by_cases h : x.runLength = 5
  · have hx : x.acted c = _ := if_pos h
    rw [hx]
    exact if_pos h
  · have hx : x.acted c = _ := if_neg h
    rw [hx]
    exact if_neg h

theorem Supervisor.acted_counters (c : Option Signature) : (x.acted c).counters = x.counters := by
  unfold Supervisor.acted
  split <;> rfl

theorem Supervisor.acted_resync (c : Option Signature) : (x.acted c).resync = x.resync := by
  unfold Supervisor.acted
  split <;> rfl

/-- The close identifies exactly at the fifth period of a run. -/
theorem Supervisor.identifiesNow_iff : x.identifiesNow ↔ (x.closed x.tally.signature).runLength = 5 := by
  show _ ↔ (nextRun x.runSignature x.runLength x.tally.signature).2 = 5
  unfold Supervisor.identifiesNow nextRun
  split
  · next h => simp [h]
  · next h =>
    split
    · next hrun =>
      show _ ↔ min (x.runLength + 1) 5 = 5
      simp only [h, hrun, ne_eq, not_false_iff, true_and]
      omega
    · next hrun => simp [hrun]

theorem Supervisor.periodClosed_identified (h : x.identifiesNow) :
    x.periodClosed = (x.closed x.tally.signature).identified x.tally.signature :=
  if_pos ((Supervisor.identifiesNow_iff x).1 h)

theorem Supervisor.periodClosed_other (h : ¬ x.identifiesNow) : x.periodClosed = x.closed x.tally.signature :=
  if_neg fun h5 => h ((Supervisor.identifiesNow_iff x).2 h5)

end

theorem State.closePeriod_eq (s : State) (t : Trunk) : s.closePeriod t =
    (s.setSup t (s.sup t).periodClosed).setSli (s.sli.periodClosed t (s.sup t) (s.port t).config.identifyPolicy) := by
  unfold State.closePeriod Supervisor.periodClosed Sli.periodClosed
  dsimp only
  split
  · rfl
  · split
    · rfl
    · rfl

/-! ## The state that the events of a cycle start leave -/

/-- A state with a port, a supervisor and the link replaced. -/
def State.cycleLeft (b : State) (t : Trunk) (q : Port) (x : Supervisor) (y : Sli) : State := ((b.setPort t q).setSup t x).setSli y

section
variable {b : State} {t : Trunk} {q : Port} {x : Supervisor} {y : Sli}

theorem State.cycleLeft_self (b : State) (t : Trunk) : b.cycleLeft t (b.port t) (b.sup t) b.sli = b := by
  show { b with ports := b.ports.set t (b.ports.get t), sups := b.sups.set t (b.sups.get t) } = b
  rw [Quad.set_get, Quad.set_get]

theorem State.cycleLeft_port : (b.cycleLeft t q x y).port t = q := Quad.get_set_self _ _ _

theorem State.cycleLeft_sup : (b.cycleLeft t q x y).sup t = x := Quad.get_set_self _ _ _

theorem State.cycleLeft_setSup (z : Supervisor) : (b.cycleLeft t q x y).setSup t z = b.cycleLeft t q z y := by
  simp only [State.cycleLeft, State.setPort, State.setSup, State.setSli, Quad.set_set]

theorem State.cycleLeft_setPort (z : Port) : (b.cycleLeft t q x y).setPort t z = b.cycleLeft t z x y := by
  simp only [State.cycleLeft, State.setPort, State.setSup, State.setSli, Quad.set_set]

theorem State.cycleLeft_setSli (z : Sli) : (b.cycleLeft t q x y).setSli z = b.cycleLeft t q x z := rfl

theorem State.cycleLeft_closePeriod : (b.cycleLeft t q x y).closePeriod t =
    b.cycleLeft t q x.periodClosed (y.periodClosed t x q.config.identifyPolicy) := by
  rw [State.closePeriod_eq, State.cycleLeft_sup, State.cycleLeft_port, State.cycleLeft_setSup, State.cycleLeft_setSli]
  rfl

theorem State.cycleLeft_stagedStart (b : State) (t : Trunk) (q : Port) (x : Supervisor) (y : Sli) :
    ∃ k y', (b.cycleLeft t q x y).stagedStart t = b.cycleLeft t (q.stagedStarted b.now) { x with counters := k } y'
      ∧ (x.counters.resend ≤ 255 →
        let n := x.counters.resend + q.store.countP (q.joinsAt b.now)
        k = { x.counters with resend := min 255 n } ∧ y' = y.saturated t .resend (n - 255)) := by
  have hnow : (b.cycleLeft t q x y).now = b.now := rfl
  by_cases h : x.counters.resend ≤ 255
  · have heq := State.stagedStart_eq (b.cycleLeft t q x y) t (by rw [State.cycleLeft_sup]; exact h)
    dsimp only at heq
    rw [State.cycleLeft_sup, State.cycleLeft_port, State.cycleLeft_setPort, State.cycleLeft_setSup,
      State.cycleLeft_setSli, hnow] at heq
    exact ⟨_, _, heq, fun _ => ⟨rfl, rfl⟩⟩
  · obtain ⟨k, y', heq⟩ := State.stagedStart_frame (b.cycleLeft t q x y) t
    rw [State.cycleLeft_sup, State.cycleLeft_port, State.cycleLeft_setPort, State.cycleLeft_setSup,
      State.cycleLeft_setSli, hnow] at heq
    exact ⟨k, y', heq, fun hlow => absurd hlow h⟩

/-- An identification taken at once, where no request moves the trunk. -/
theorem State.cycleLeft_actAtOnce (h : x.runLength = 5 → ∀ g ∈ x.requests, ¬ movesTrunk q.state g) :
    ∃ c, (b.cycleLeft t q x y).actAtOnce t = b.cycleLeft t q (x.acted c) y := by
  unfold State.actAtOnce Supervisor.acted
  rw [State.cycleLeft_sup]
  by_cases h5 : x.runLength = 5
  · obtain ⟨c, htaken⟩ := State.takeRequests_stay (b.cycleLeft t q x y) t
      (by rw [State.cycleLeft_sup, State.cycleLeft_port]; exact h h5)
    refine ⟨c, ?_⟩
    rw [if_pos h5, if_pos h5, htaken, State.cycleLeft_sup, State.cycleLeft_setSup]
  · exact ⟨none, by rw [if_neg h5, if_neg h5]⟩

theorem State.cycleLeft_actAtOnce_taken (h5 : x.runLength = 5) :
    (b.cycleLeft t q x y).actAtOnce t = (b.cycleLeft t q x y).takeRequests t := by
  unfold State.actAtOnce
  rw [State.cycleLeft_sup, if_pos h5]

end

/-- On a trunk that an identification has moved, the staged fields are in force already. -/
theorem State.Moved.stagedStart_eq {s : State} {t : Trunk} (h : s.Moved t) : s.stagedStart t = s := by
  have hport : (s.port t).stagedStarted s.now = s.port t := by
    unfold Port.stagedStarted Port.stagedInForce
    rw [h.staged, h.store, List.map_nil]
    show { s.port t with store := [] } = s.port t
    rw [← h.store]
  have hjoins : (s.port t).store.countP ((s.port t).joinsAt s.now) = 0 := by
    rw [h.store]
    rfl
  unfold State.stagedStart
  dsimp only
  rw [hport, hjoins]
  show { s with ports := s.ports.set t (s.ports.get t) } = s
  rw [Quad.set_get]

theorem Port.stagedStarted_state (p : Port) (now : Nat) : (p.stagedStarted now).state = p.state := by
  unfold Port.stagedStarted
  rw [Port.stagedInForce_eq]

theorem Port.stagedStarted_policy (p : Port) (now : Nat) :
    (p.stagedStarted now).config.identifyPolicy = p.config.identifyPolicy := by
  unfold Port.stagedStarted
  rw [Port.stagedInForce_eq]

theorem Port.cycleCounted_policy (p : Port) : p.cycleCounted.config.identifyPolicy = p.config.identifyPolicy := by
  unfold Port.cycleCounted
  (repeat' split) <;> rfl

/-- The refill queue and the close of a period do not meet. -/
theorem State.closePeriod_refillRefresh (s : State) (t : Trunk) :
    s.refillRefresh.closePeriod t = (s.closePeriod t).refillRefresh := by
  rw [State.closePeriod_eq, State.closePeriod_eq]
  rfl

/-- The count of cycles makes no use of the supervisor or the link. -/
theorem State.cycleLeft_countCycle {b : State} {t : Trunk} {q : Port} {x : Supervisor} {y : Sli} :
    (b.cycleLeft t q x y).countCycle t =
      if q.state = .align ∧ q.readyToRun = true then
        (b.cycleLeft t q.cycleCounted { x with resync := none } y).refillRefresh
      else b.cycleLeft t q.cycleCounted x y := by
  unfold State.countCycle Port.cycleCounted
  rw [State.cycleLeft_port]
  dsimp only
  by_cases halign : q.state = .align
  · by_cases hready : q.readyToRun = true
    · rw [if_pos halign, if_pos hready, if_pos ⟨halign, hready⟩, if_pos halign, if_pos hready, State.enterRunning,
        State.cycleLeft_port, State.cycleLeft_sup, State.cycleLeft_setPort, State.cycleLeft_setSup]
    · rw [if_pos halign, if_neg hready, if_neg (fun h => hready h.2), if_pos halign, if_neg hready, State.cycleLeft_setPort]
  · rw [if_neg halign, if_neg (show ¬ (q.state = .align ∧ q.readyToRun = true) from fun h => halign h.1), if_neg halign]
    by_cases hup : q.state.up = true
    · rw [if_pos hup, if_pos hup, State.cycleLeft_setPort]
    · rw [if_neg hup, if_neg hup]

/-- The close of a period and the count of cycles do not meet. -/
theorem State.cycleLeft_countCycle_closePeriod {b : State} {t : Trunk} {q : Port} {x : Supervisor} {y : Sli} :
    ((b.cycleLeft t q x y).countCycle t).closePeriod t = ((b.cycleLeft t q x y).closePeriod t).countCycle t := by
  rw [State.cycleLeft_closePeriod, State.cycleLeft_countCycle, State.cycleLeft_countCycle]
  split
  · rw [State.closePeriod_refillRefresh, State.cycleLeft_closePeriod, Port.cycleCounted_policy,
      Supervisor.periodClosed_withResync]
    rfl
  · rw [State.cycleLeft_closePeriod, Port.cycleCounted_policy]

/-! ## The six orders -/

/-- The orders in which the period closes before the staged fields come into force. -/
def closesFirst : Config.CycleOrder → Bool
  | .closeLast | .closeMiddle | .closeMiddleActed => false
  | .closeFirst | .closeFirstActed | .identificationFirst => true

/-- The RESEND events that a counter has to take: its value, and the frames that join. -/
def State.resendsAt (b : State) (t : Trunk) : Nat :=
  (b.sup t).counters.resend + (b.port t).store.countP ((b.port t).joinsAt b.now)

section
variable {b : State} {t : Trunk}

/-- The counters and the link where the period closes before the RESEND events, or behind them. -/
def LinkLeft (b : State) (t : Trunk) (first : Bool) (k : Counters) (y : Sli) : Prop :=
  (b.sup t).counters.resend ≤ 255 →
    k = { (b.sup t).counters with resend := min 255 (b.resendsAt t) }
    ∧ y = if first = true then
        (b.sli.periodClosed t (b.sup t) (b.port t).config.identifyPolicy).saturated t .resend (b.resendsAt t - 255)
      else (b.sli.saturated t .resend (b.resendsAt t - 255)).periodClosed t (b.sup t) (b.port t).config.identifyPolicy

/-- The staged fields come into force, then the period closes. -/
theorem State.staged_closed (b : State) (t : Trunk) : ∃ k y,
    (b.stagedStart t).closePeriod t = b.cycleLeft t ((b.port t).stagedStarted b.now)
      { (b.sup t).periodClosed with counters := k } y ∧ LinkLeft b t false k y := by
  obtain ⟨k, y, hstaged, hlink⟩ := State.cycleLeft_stagedStart b t (b.port t) (b.sup t) b.sli
  rw [State.cycleLeft_self] at hstaged
  refine ⟨k, y.periodClosed t (b.sup t) (b.port t).config.identifyPolicy, ?_, fun hlow => ?_⟩
  · rw [hstaged, State.cycleLeft_closePeriod, Supervisor.periodClosed_withCounters, Port.stagedStarted_policy]
    rfl
  · obtain ⟨hk, hy⟩ := hlink hlow
    rw [hy]
    exact ⟨hk, (if_neg (by decide)).symm⟩

/-- The period closes, then requests that are taken leave a supervisor, then the staged fields come into force. -/
theorem State.closed_staged (b : State) (t : Trunk) {z : Supervisor} (hz : z.counters = (b.sup t).counters) : ∃ k y,
    (b.cycleLeft t (b.port t) z (b.sli.periodClosed t (b.sup t) (b.port t).config.identifyPolicy)).stagedStart t =
      b.cycleLeft t ((b.port t).stagedStarted b.now) { z with counters := k } y ∧ LinkLeft b t true k y := by
  obtain ⟨k, y, hstaged, hlink⟩ := State.cycleLeft_stagedStart b t (b.port t) z
    (b.sli.periodClosed t (b.sup t) (b.port t).config.identifyPolicy)
  rw [hz] at hlink
  refine ⟨k, y, hstaged, fun hlow => ?_⟩
  obtain ⟨hk, hy⟩ := hlink hlow
  exact ⟨hk, hy.trans (if_pos rfl).symm⟩

theorem State.closePeriod_cycleLeft (b : State) (t : Trunk) : b.closePeriod t =
    b.cycleLeft t (b.port t) (b.sup t).periodClosed (b.sli.periodClosed t (b.sup t) (b.port t).config.identifyPolicy) := by
  have h := State.cycleLeft_closePeriod (b := b) (t := t) (q := b.port t) (x := b.sup t) (y := b.sli)
  rwa [State.cycleLeft_self] at h

/-- No order in which the trunk is not moved leaves anything else than the others do. -/
theorem State.cycleEvents_stays (o : Config.CycleOrder) (h : actsAtOnce o = true → (b.sup t).periodClosed.runLength = 5 →
      ∀ g ∈ (b.sup t).periodClosed.requests, ¬ movesTrunk (b.port t).state g) : ∃ k y c,
    b.cycleEvents t o = (b.cycleLeft t ((b.port t).stagedStarted b.now)
      { (if actsAtOnce o = true then (b.sup t).periodClosed.acted c else (b.sup t).periodClosed) with counters := k } y).countCycle t
    ∧ LinkLeft b t (closesFirst o) k y := by
  have hstate := (b.port t).stagedStarted_state b.now
  cases o with
  | closeLast =>
    obtain ⟨k, y, hclosed, hlink⟩ := State.staged_closed b t
    refine ⟨k, y, none, ?_, hlink⟩
    obtain ⟨k', y', hstaged, -⟩ := State.cycleLeft_stagedStart b t (b.port t) (b.sup t) b.sli
    rw [State.cycleLeft_self] at hstaged
    show ((b.stagedStart t).countCycle t).closePeriod t = _
    rw [hstaged, State.cycleLeft_countCycle_closePeriod, ← hstaged, hclosed]
    rfl
  | closeMiddle =>
    obtain ⟨k, y, hclosed, hlink⟩ := State.staged_closed b t
    exact ⟨k, y, none, congrArg (fun u => State.countCycle u t) hclosed, hlink⟩
  | closeFirst =>
    obtain ⟨k, y, hstaged, hlink⟩ := State.closed_staged b t (b.sup t).periodClosed_counters
    rw [← State.closePeriod_cycleLeft] at hstaged
    exact ⟨k, y, none, congrArg (fun u => State.countCycle u t) hstaged, hlink⟩
  | closeMiddleActed =>
    obtain ⟨k, y, hclosed, hlink⟩ := State.staged_closed b t
    obtain ⟨c, hacted⟩ := State.cycleLeft_actAtOnce (b := b) (t := t) (q := (b.port t).stagedStarted b.now)
      (x := { (b.sup t).periodClosed with counters := k }) (y := y) (by rw [hstate]; exact h rfl)
    rw [← hclosed, Supervisor.acted_withCounters] at hacted
    exact ⟨k, y, c, congrArg (fun u => State.countCycle u t) hacted, hlink⟩
  | closeFirstActed =>
    obtain ⟨k, y, hstaged, hlink⟩ := State.closed_staged b t (b.sup t).periodClosed_counters
    rw [← State.closePeriod_cycleLeft] at hstaged
    obtain ⟨c, hacted⟩ := State.cycleLeft_actAtOnce (b := b) (t := t) (q := (b.port t).stagedStarted b.now)
      (x := { (b.sup t).periodClosed with counters := k }) (y := y) (by rw [hstate]; exact h rfl)
    rw [← hstaged, Supervisor.acted_withCounters] at hacted
    exact ⟨k, y, c, congrArg (fun u => State.countCycle u t) hacted, hlink⟩
  | identificationFirst =>
    obtain ⟨c, hacted⟩ := State.cycleLeft_actAtOnce (b := b) (t := t) (q := b.port t) (x := (b.sup t).periodClosed)
      (y := b.sli.periodClosed t (b.sup t) (b.port t).config.identifyPolicy) (h rfl)
    obtain ⟨k, y, hstaged, hlink⟩ := State.closed_staged b t
      (((b.sup t).periodClosed.acted_counters c).trans (b.sup t).periodClosed_counters)
    rw [← hacted, ← State.closePeriod_cycleLeft] at hstaged
    exact ⟨k, y, c, congrArg (fun u => State.countCycle u t) hstaged, hlink⟩

/-- An order that takes an identification at once, and with it a request that moves the trunk: the requests taken in the
state in which the period has closed are the last event that does anything. -/
theorem State.cycleEvents_moves {o : Config.CycleOrder} (hacts : actsAtOnce o = true)
    (h5 : (b.sup t).periodClosed.runLength = 5)
    (h : ∃ g ∈ (b.sup t).periodClosed.requests, movesTrunk (b.port t).state g) : ∃ k y v,
    v = b.cycleLeft t (if o = .identificationFirst then b.port t else (b.port t).stagedStarted b.now)
      { (b.sup t).periodClosed with counters := k } y
    ∧ b.cycleEvents t o = v.takeRequests t ∧ (v.takeRequests t).Moved t
    ∧ (o = .identificationFirst →
      k = (b.sup t).counters ∧ y = b.sli.periodClosed t (b.sup t) (b.port t).config.identifyPolicy)
    ∧ (o ≠ .identificationFirst → LinkLeft b t (closesFirst o) k y) := by
  have hstate := (b.port t).stagedStarted_state b.now
  have hmoved : ∀ {q : Port} {k : Counters} {y : Sli}, q.state = (b.port t).state →
      ((b.cycleLeft t q { (b.sup t).periodClosed with counters := k } y).takeRequests t).Moved t := by
    intro q k y hq
    refine State.takeRequests_moved _ t ?_
    rw [State.cycleLeft_sup, State.cycleLeft_port, hq]
    exact h
  have htaken : ∀ {q : Port} {k : Counters} {y : Sli},
      (b.cycleLeft t q { (b.sup t).periodClosed with counters := k } y).actAtOnce t =
        (b.cycleLeft t q { (b.sup t).periodClosed with counters := k } y).takeRequests t :=
    State.cycleLeft_actAtOnce_taken h5
  cases o with
  | closeLast => exact absurd hacts (by decide)
  | closeMiddle => exact absurd hacts (by decide)
  | closeFirst => exact absurd hacts (by decide)
  | closeMiddleActed =>
    obtain ⟨k, y, hclosed, hlink⟩ := State.staged_closed b t
    refine ⟨k, y, _, rfl, ?_, hmoved hstate, fun ho => absurd ho (by decide), fun _ => hlink⟩
    show (((b.stagedStart t).closePeriod t).actAtOnce t).countCycle t = _
    rw [hclosed, htaken]
    exact State.countCycle_idle _ _ (hmoved hstate).goal
  | closeFirstActed =>
    obtain ⟨k, y, hstaged, hlink⟩ := State.closed_staged b t (b.sup t).periodClosed_counters
    rw [← State.closePeriod_cycleLeft] at hstaged
    refine ⟨k, y, _, rfl, ?_, hmoved hstate, fun ho => absurd ho (by decide), fun _ => hlink⟩
    show (((b.closePeriod t).stagedStart t).actAtOnce t).countCycle t = _
    rw [hstaged, htaken]
    exact State.countCycle_idle _ _ (hmoved hstate).goal
  | identificationFirst =>
    refine ⟨(b.sup t).counters, _, _, rfl, ?_, hmoved rfl, fun _ => ⟨rfl, rfl⟩, fun ho => absurd rfl ho⟩
    show (((b.closePeriod t).actAtOnce t).stagedStart t).countCycle t = _
    have hcounters : (b.sup t).periodClosed = { (b.sup t).periodClosed with counters := (b.sup t).counters } := by
      rw [← (b.sup t).periodClosed_counters]
    rw [State.closePeriod_cycleLeft, hcounters, htaken, (hmoved rfl).stagedStart_eq]
    exact State.countCycle_idle _ _ (hmoved rfl).goal

end

end Sys2Proof.Machine

/-! # CYCLE_START, settled (R83, R97, R111, R160 to R168) -/

namespace Sys2Proof.Machine

section
variable {s : State} {t : Trunk}

theorem exec_cycleStart_idle (h : (s.port t).state = .off ∨ (s.port t).state = .test) : exec (.cycleStart t) s = .next s := by
  rcases h with h | h
  · exact congrArg _ (if_neg (by simp [h, TrunkState.supervised]))
  · exact congrArg _ (if_neg (by simp [h, TrunkState.supervised]))

theorem exec_cycleStart (hoff : (s.port t).state ≠ .off) (htest : (s.port t).state ≠ .test) :
    ∃ o, exec (.cycleStart t) s = .next ((s.beginCycle t).cycleEvents t o) := by
  refine ⟨Config.cycleOrder s.freeCount, congrArg _ (if_pos ?_)⟩
  cases h : (s.port t).state with
  | off => exact absurd h hoff
  | test => exact absurd h htest
  | _ => rfl

/-! ## The state in which the events come -/

theorem State.beginCycle_port (s : State) (t : Trunk) : (s.beginCycle t).port t = (s.port t).cycleBegun :=
  Quad.get_set_self _ _ _

theorem Supervisor.periodClosed_requests (h : x.identifiesNow) :
    (Supervisor.periodClosed x).requests = x.requests ++ [x.tally.signature] := by
  rw [x.periodClosed_identified h]
  rfl

/-- Where no identification moves the trunk, none of the requests that an order takes at once does. -/
theorem State.notMoved (o : Config.CycleOrder) (h : ¬ s.movedAtStart t o) :
    actsAtOnce o = true → ((s.beginCycle t).sup t).periodClosed.runLength = 5 →
      ∀ g ∈ ((s.beginCycle t).sup t).periodClosed.requests, ¬ movesTrunk ((s.beginCycle t).port t).state g := by
  intro hacts h5 g hg hmoves
  have hnow : (s.sup t).identifiesNow := by
    rw [Supervisor.identifiesNow_iff, ← Supervisor.periodClosed_runLength]
    exact h5
  rw [State.beginCycle_port] at hmoves
  exact h ⟨hnow, hacts, g, (Supervisor.periodClosed_requests hnow) ▸ hg, hmoves⟩

/-- Where one does, the period's close makes the run five long, and a request that waits then moves the trunk. -/
theorem State.movedAtStart_requests {o : Config.CycleOrder} (h : s.movedAtStart t o) :
    actsAtOnce o = true ∧ ((s.beginCycle t).sup t).periodClosed.runLength = 5
      ∧ ∃ g ∈ ((s.beginCycle t).sup t).periodClosed.requests, movesTrunk ((s.beginCycle t).port t).state g := by
  obtain ⟨hnow, hacts, g, hg, hmoves⟩ := h
  refine ⟨hacts, ?_, g, ?_, ?_⟩
  · rw [Supervisor.periodClosed_runLength]
    exact (Supervisor.identifiesNow_iff _).1 hnow
  · exact (Supervisor.periodClosed_requests hnow).symm ▸ hg
  · rw [State.beginCycle_port]
    exact hmoves

end

/-! ## The port and the refill queue -/

/-- The staged fields in force, with the frames on the resend queue that a shorter RTO makes overdue. -/
theorem Port.stagedStarted_eq (p : Port) (now : Nat) : p.stagedStarted now = { p with
    config := { p.config with paced := p.staged.getD p.config.paced }
    staged := none
    store := p.store.map fun f => if p.joinsAt now f = true then { f with queued := true } else f } := by
  unfold Port.stagedStarted
  rw [Port.stagedInForce_eq]

theorem Port.readyToRun_iff (p : Port) : p.state = .align ∧ p.readyToRun = true ↔
    p.state = .align ∧ 4 ≤ p.headCycles ∧ p.lock.held = true ∧ p.lock.peerLocked = true := by
  simp only [Port.readyToRun, Bool.and_eq_true, decide_eq_true_eq, and_assoc]

/-- The R97 test and the count of cycles, as one update. -/
theorem Port.cycleCounted_eq (p : Port) :
    let ready := p.state = .align ∧ 4 ≤ p.headCycles ∧ p.lock.held = true ∧ p.lock.peerLocked = true
    p.cycleCounted = { p with
      state := if ready then .running else p.state
      alignCycle := if p.state = .align ∧ ¬ ready then p.alignCycle + 1 else p.alignCycle
      runCycle := if ready then 0 else if p.state = .running ∨ p.state = .resync then p.runCycle + 1 else p.runCycle
      nextFrame := if ready then 0 else p.nextFrame
      expectedFrame := if ready then 0 else p.expectedFrame } := by
  intro ready
  have hready := p.readyToRun_iff
  unfold Port.cycleCounted
  by_cases halign : p.state = .align
  · by_cases hrun : p.readyToRun = true
    · have hr : ready := hready.1 ⟨halign, hrun⟩
      simp only [halign, hrun, hr, if_true, not_true, and_false, if_false]
    · have hr : ¬ ready := fun h => hrun (hready.2 h).2
      simp only [halign, hrun, hr, if_true, if_false, not_false_iff, and_true, reduceCtorEq, or_false]
  · have hr : ¬ ready := fun h => halign h.1
    simp only [halign, hr, if_false, false_and, ← TrunkState.up_iff]
    split
    · rfl
    · rfl

/-- What the count of cycles leaves of the refill queue (R72). -/
theorem State.countCycle_refill (s : State) (t : Trunk) :
    ((s.port t).state = .align ∧ (s.port t).readyToRun = true →
      RefillCurrent (s.countCycle t)
      ∧ (s.countCycle t).body = { s.body with refillQueue := (s.countCycle t).body.refillQueue }
      ∧ ∃ joining, (s.countCycle t).body.refillQueue = (s.body.refillQueue.filter fun i =>
          (s.countCycle t).journal.entries.any fun e => e.index == i && dueForRefill (s.countCycle t) e) ++ joining
        ∧ ∀ i ∈ joining, i ∉ s.body.refillQueue)
    ∧ (¬ ((s.port t).state = .align ∧ (s.port t).readyToRun = true) → (s.countCycle t).body = s.body) := by
  have h := State.cycleLeft_countCycle (b := s) (t := t) (q := s.port t) (x := s.sup t) (y := s.sli)
  rw [State.cycleLeft_self] at h
  rw [h]
  constructor
  · intro hready
    rw [if_pos hready]
    exact ⟨State.refillRefresh_current _, State.refillRefresh_body_eq _, State.refillRefresh_queue _⟩
  · intro hstays
    rw [if_neg hstays]
    rfl

/-! ## The other trunks -/

/-- The trunks but one are left as they are. -/
def OthersKept (s : State) (t : Trunk) (u : State) : Prop := ∀ v, v ≠ t → u.port v = s.port v ∧ u.sup v = s.sup v

section
variable {s u : State} {t : Trunk}

theorem OthersKept.refl (s : State) (t : Trunk) : OthersKept s t s := fun _ _ => ⟨rfl, rfl⟩

theorem OthersKept.setPort (h : OthersKept s t u) {w : State} {q : Port} (hports : w.ports = u.ports.set t q)
    (hsups : w.sups = u.sups) : OthersKept s t w := by
  intro v hv
  obtain ⟨hport, hsup⟩ := h v hv
  refine ⟨?_, ?_⟩
  · rw [← hport, State.port, hports]
    exact Quad.get_set_ne _ _ hv
  · rw [← hsup, State.sup, hsups, State.sup]

theorem OthersKept.setSup (h : OthersKept s t u) {w : State} {x : Supervisor} (hports : w.ports = u.ports)
    (hsups : w.sups = u.sups.set t x) : OthersKept s t w := by
  intro v hv
  obtain ⟨hport, hsup⟩ := h v hv
  refine ⟨?_, ?_⟩
  · rw [← hport, State.port, hports, State.port]
  · rw [← hsup, State.sup, hsups]
    exact Quad.get_set_ne _ _ hv

theorem OthersKept.cycleLeft (h : OthersKept s t u) (q : Port) (x : Supervisor) (y : Sli) :
    OthersKept s t (u.cycleLeft t q x y) :=
  (h.setPort (w := u.setPort t q) rfl rfl).setSup (x := x) rfl rfl

theorem OthersKept.trunkRestart (h : OthersKept s t u) (g : TrunkState) (c : Option Signature) {w : State}
    (hports : w.ports = (u.trunkRestart t g c).ports) (hsups : w.sups = (u.trunkRestart t g c).sups) : OthersKept s t w := by
  rw [State.trunkRestart_ports] at hports
  rw [State.trunkRestart_sups] at hsups
  exact (h.setPort (w := { u with ports := u.ports.set t ((u.port t).restarted u.now g) }) rfl rfl).setSup hports hsups

theorem OthersKept.takeRequest (h : OthersKept s t u) : OthersKept s t (u.takeRequest t) := by
  cases hrequests : (u.sup t).requests with
  | nil =>
    rw [State.takeRequest_nil hrequests]
    exact h
  | cons g rest =>
    rw [State.takeRequest_cons hrequests]
    have h1 : OthersKept s t (u.setSup t { u.sup t with requests := rest }) := h.setSup rfl rfl
    by_cases hmoves : movesTrunk ((u.setSup t { u.sup t with requests := rest }).port t).state g
    · rcases State.consequence_moves _ t g hmoves with ⟨-, heq⟩ | ⟨-, heq⟩
      · rw [heq, State.moveDown_eq]
        exact h1.trunkRestart _ _ rfl rfl
      · rw [heq, State.moveFaulted_eq]
        exact h1.trunkRestart _ _ rfl rfl
    · obtain ⟨c, heq⟩ := State.consequence_stays _ t g hmoves
      rw [heq]
      exact h1.setSup rfl rfl

theorem OthersKept.stagedStart (h : OthersKept s t u) : OthersKept s t (u.stagedStart t) := by
  obtain ⟨k, y, heq⟩ := u.stagedStart_frame t
  rw [heq]
  exact h.cycleLeft _ _ _

theorem OthersKept.closePeriod (h : OthersKept s t u) : OthersKept s t (u.closePeriod t) := by
  rw [State.closePeriod_cycleLeft]
  exact h.cycleLeft _ _ _

theorem OthersKept.countCycle (h : OthersKept s t u) : OthersKept s t (u.countCycle t) := by
  have heq := State.cycleLeft_countCycle (b := u) (t := t) (q := u.port t) (x := u.sup t) (y := u.sli)
  rw [State.cycleLeft_self] at heq
  rw [heq]
  split
  · exact h.cycleLeft (u.port t).cycleCounted { u.sup t with resync := none } u.sli
  · exact h.cycleLeft _ _ _

theorem OthersKept.cycleEvents (h : OthersKept s t u) (o : Config.CycleOrder) : OthersKept s t (u.cycleEvents t o) :=
  State.cycleEvents_keeps (P := OthersKept s t) t (fun _ h => h.stagedStart) (fun _ h => h.closePeriod)
    (fun _ h => h.countCycle) (fun _ h => h.takeRequest) o h

end

/-! ## A cycle start by whether it moves the trunk -/

section
variable {s : State} {t : Trunk}

/-- What a cycle start leaves where no identification moves the trunk. -/
theorem State.cycleStart_stays (o : Config.CycleOrder) (h : ¬ s.movedAtStart t o) : ∃ k y z,
    (s.beginCycle t).cycleEvents t o = ((s.beginCycle t).cycleLeft t
      ((s.port t).cycleBegun.stagedStarted (max s.now (s.port t).cycleDue)) { z with counters := k } y).countCycle t
    ∧ (∃ c, z = if actsAtOnce o = true then (s.sup t).periodClosed.acted c else (s.sup t).periodClosed)
    ∧ LinkLeft (s.beginCycle t) t (closesFirst o) k y := by
  obtain ⟨k, y, c, heq, hlink⟩ := State.cycleEvents_stays o (State.notMoved o h)
  rw [State.beginCycle_port] at heq
  exact ⟨k, y, _, heq, ⟨c, rfl⟩, hlink⟩

/-- The RESEND events of a cycle start. -/
theorem State.beginCycle_resendsAt (s : State) (t : Trunk) : (s.beginCycle t).resendsAt t = (s.sup t).counters.resend
    + (s.port t).store.countP ((s.port t).cycleBegun.joinsAt (max s.now (s.port t).cycleDue)) := by
  rw [State.resendsAt, State.beginCycle_port]
  rfl

/-- A frame joins where a shorter RTO has run since its last send. -/
theorem Port.cycleBegun_joinsAt (p : Port) (now : Nat) : p.cycleBegun.joinsAt now = fun f : SentFrame => decide
    (p.cycleBegun.stagedInForce.rtoNs < p.rtoNs ∧ f.queued = false ∧ f.lastSend + p.cycleBegun.stagedInForce.rtoNs ≤ now) := by
  funext f
  have hrto : p.cycleBegun.rtoNs = p.rtoNs := rfl
  rw [Port.joinsAt, SentFrame.overdue, hrto, Bool.decide_and, Bool.decide_and]
  cases f.queued <;> rfl

theorem Supervisor.nextRun_identifies {x : Supervisor} (h : x.identifiesNow) :
    nextRun x.runSignature x.runLength x.tally.signature = (x.runSignature, 5) := by
  obtain ⟨hsig, hrun, hlen⟩ := h
  rw [nextRun, if_neg hsig, if_pos hrun, hrun]
  exact congrArg (Prod.mk _) (Nat.min_eq_right (by omega))

/-- The supervisor after a close that identifies. -/
theorem Supervisor.periodClosed_fields {x : Supervisor} (h : x.identifiesNow) : x.periodClosed = { x with
    tally := ⟨0, 0, false, false, false⟩
    history := (⟨x.tally.signature, x.tally.looped, x.tally.foreign, x.tally.peer⟩ :: x.history).take 5
    runLength := 5
    latest := some x.tally.signature
    lastIdentified := some x.tally.signature
    requests := x.requests ++ [x.tally.signature] } := by
  rw [x.periodClosed_identified h, Supervisor.closed, Supervisor.nextRun_identifies h]
  rfl

/-- A cycle begun, with a port, a supervisor and the link replaced. -/
theorem State.beginCycle_cycleLeft (s : State) (t : Trunk) (q : Port) (x : Supervisor) (y : Sli) :
    (s.beginCycle t).cycleLeft t q x y = { s with
      now := max s.now (s.port t).cycleDue
      ports := s.ports.set t q
      sups := s.sups.set t x
      sli := y
      freeCount := s.freeCount + 1 } := by
  simp only [State.cycleLeft, State.beginCycle, State.setPort, State.setSup, State.setSli, Quad.set_set]
  rfl

/-- The link at a close that identifies. -/
theorem Sli.periodClosed_identified (y : Sli) (t : Trunk) {x : Supervisor} (policy : Bool) (h : x.identifiesNow) :
    y.periodClosed t x policy = y.latchTrunk t .identified true := if_pos ((Supervisor.identifiesNow_iff x).1 h)

/-- The only request that waits, taken, moves the trunk by its signature. -/
theorem State.takeRequest_moves {g : Signature} (h : (s.sup t).requests = [g]) (hmoves : movesTrunk (s.port t).state g) :
    (g = .silent → ((s.takeRequest t).port t).state = .down)
    ∧ (g ≠ .silent → ((s.takeRequest t).port t).state = .faulted ∧ ((s.takeRequest t).sup t).faultCause = some g) := by
  rw [State.takeRequest_cons h]
  rcases State.consequence_moves (s.setSup t { s.sup t with requests := [] }) t g hmoves with ⟨hg, heq⟩ | ⟨hg, heq⟩
  · refine ⟨fun _ => ?_, fun hne => absurd hg hne⟩
    rw [heq, State.moveDown_port]
    rfl
  · refine ⟨fun hsilent => absurd hsilent hg, fun _ => ?_⟩
    rw [heq, State.moveFaulted_port, State.moveFaulted_sup]
    exact ⟨rfl, rfl⟩

end

/-- Settles O40: the state that the events leave, by whether an identification moves the trunk. -/
theorem cycleStarts : Obligations.CycleStarts := by
  refine ⟨fun s t h => exec_cycleStart_idle h, fun s t => rfl, fun s t => ?_⟩
  intro p hoff htest
  refine ⟨exec_cycleStart hoff htest, fun o => ?_⟩
  intro u due x sig begun inForce joins store resend
  have hinForce : p.cycleBegun.stagedInForce = inForce := Port.stagedInForce_eq _
  have hjoins : p.cycleBegun.joinsAt (max s.now p.cycleDue) = joins := by
    rw [Port.cycleBegun_joinsAt, hinForce]
    rfl
  have hport : p.cycleBegun.stagedStarted (max s.now p.cycleDue) = { inForce with store := store } := by
    rw [Port.stagedStarted_eq, hjoins]
    rfl
  have hresends : (s.beginCycle t).resendsAt t = x.counters.resend + p.store.countP joins := by
    rw [State.beginCycle_resendsAt, hjoins]
  refine ⟨⟨State.cycleEvents_now _ _ _, ?_, State.cycleEvents_clock _ _ _, State.cycleEvents_buckets _ _ _⟩, fun hstays => ?_,
    fun hmoves => ?_⟩
  · exact ((OthersKept.refl s t).setPort (w := s.beginCycle t) rfl rfl).cycleEvents o
  · intro ready up
    obtain ⟨k, y, z, hu, ⟨c, hz⟩, hlink⟩ := State.cycleStart_stays o hstays
    have hu : u = _ := hu
    rw [hport] at hu
    have hresync : z.resync = x.resync := by
      rw [hz]
      split
      · rw [Supervisor.acted_resync, Supervisor.periodClosed_resync]
      · rw [Supervisor.periodClosed_resync]
    have hready : ({ inForce with store := store } : Port).state = .align
        ∧ ({ inForce with store := store } : Port).readyToRun = true ↔ ready := Port.readyToRun_iff _
    have hsup := congrArg (fun v : State => v.sup t) hu
    rw [State.countCycle_sup, State.cycleLeft_port, State.cycleLeft_sup] at hsup
    simp only [hready] at hsup
    obtain ⟨hfill, hkept⟩ := State.countCycle_refill ((s.beginCycle t).cycleLeft t { inForce with store := store }
      { z with counters := k } y) t
    rw [State.cycleLeft_port, hready, ← hu] at hfill hkept
    refine ⟨?_, fun hlow => ?_, ?_, hfill, hkept, ?_, ?_, ?_⟩
    · rw [hu, State.countCycle_port, State.cycleLeft_port, Port.cycleCounted_eq]
    · obtain ⟨hk, -⟩ := hlink hlow
      rw [hresends] at hk
      refine Eq.trans ?_ hk
      rw [hsup]
      split
      · rfl
      · rfl
    · rw [hsup, ← hresync]
      split
      · rfl
      · rfl
    · rw [hu, State.countCycle_journal]
      rfl
    · rw [hu, State.countCycle_map]
      rfl
    · rw [hu, State.countCycle_apply]
      rfl
  · obtain ⟨hacts, h5, hrequests⟩ := State.movedAtStart_requests hmoves
    obtain ⟨hnow, -, g, hg, hgmoves⟩ := hmoves
    obtain ⟨k, y, v, hv, heq, hmoved, hfirst, hlink⟩ := State.cycleEvents_moves hacts h5 hrequests
    have hsup : v.sup t = { x.periodClosed with counters := k } := by
      rw [hv]
      exact State.cycleLeft_sup
    have hwaiting : (v.sup t).requests = x.requests ++ [sig] := by
      rw [hsup]
      exact Supervisor.periodClosed_requests hnow
    have hu : u = Nat.repeat (fun w => w.takeRequest t) (x.requests.length + 1) v := by
      have hlength : (v.sup t).requests.length = x.requests.length + 1 := by rw [hwaiting, List.length_append]; rfl
      rw [← hlength]
      exact heq
    have hstate : (v.port t).state = p.state := by
      rw [hv, State.cycleLeft_port]
      split
      · rw [State.beginCycle_port]
        rfl
      · rw [Port.stagedStarted_state, State.beginCycle_port]
        rfl
    have hsli : v.sli = y := by rw [hv]; rfl
    have hq : (if o = .identificationFirst then (s.beginCycle t).port t
        else ((s.beginCycle t).port t).stagedStarted (s.beginCycle t).now) =
          if o = .identificationFirst then begun else { inForce with store := store } := by
      rw [State.beginCycle_port]
      exact congrArg (fun q : Port => if o = .identificationFirst then begun else q) hport
    have hcounters : (v.sup t).counters = k := by rw [hsup]
    refine ⟨v, hu, ?_, fun hnone => ?_, ?_, fun ho => ?_, fun ho hlow => ?_⟩
    · have hleft : u.Moved t := by
        rw [show u = v.takeRequests t from heq]
        exact hmoved
      exact hleft.goal
    · rw [hnone] at hwaiting hu hg
      have hgsig : g = sig := List.mem_singleton.mp hg
      have hmoves : movesTrunk (v.port t).state sig := by
        rw [hstate, ← hgsig]
        exact hgmoves
      have hu : u = v.takeRequest t := hu
      rw [hu]
      exact State.takeRequest_moves hwaiting hmoves
    · rw [hcounters, hsli, hv, State.beginCycle_cycleLeft, hq]
      have hx : ((s.beginCycle t).sup t).periodClosed = _ := Supervisor.periodClosed_fields hnow
      rw [hx]
      rfl
    · obtain ⟨hk, hy⟩ := hfirst ho
      rw [hcounters, hsli, hk, hy]
      exact ⟨rfl, Sli.periodClosed_identified _ _ _ hnow⟩
    · obtain ⟨hk, hy⟩ := hlink ho hlow
      rw [hresends] at hk hy
      rw [hcounters, hsli]
      refine ⟨hk, hy.trans ?_⟩
      have hclosed : ∀ (z : Sli) (policy : Bool), z.periodClosed t ((s.beginCycle t).sup t) policy =
          z.latchTrunk t .identified true := fun z policy => Sli.periodClosed_identified z t policy hnow
      rw [hclosed, hclosed]
      cases o with
      | closeLast => exact absurd hacts (by decide)
      | closeMiddle => exact absurd hacts (by decide)
      | closeFirst => exact absurd hacts (by decide)
      | closeMiddleActed => rfl
      | closeFirstActed => rfl
      | identificationFirst => exact absurd rfl ho

end Sys2Proof.Machine

/-! # The close of a period, settled (R160 to R168) -/

namespace Sys2Proof.Machine

/-! ## The signature (Table 8-2) -/

theorem Tally.signature_rows (x : Tally) :
    (x.arrivals = 0 → x.signature = .silent)
    ∧ (x.arrivals ≠ 0 → x.looped = true → x.signature = .looped)
    ∧ (x.arrivals ≠ 0 → x.looped = false → x.foreign = true → x.signature = .foreign)
    ∧ (x.arrivals ≠ 0 → x.looped = false → x.foreign = false → x.arrivals ≤ x.invalid * 2 → x.signature = .garbled)
    ∧ (x.arrivals ≠ 0 → x.looped = false → x.foreign = false → x.invalid * 2 < x.arrivals → x.signature = .clean) := by
  unfold Tally.signature
  refine ⟨fun h => if_pos h, fun h hl => ?_, fun h hl hf => ?_, fun h hl hf hg => ?_, fun h hl hf hg => ?_⟩
  · rw [if_neg h, if_pos hl]
  · rw [if_neg h, if_neg (by simp [hl]), if_pos hf]
  · rw [if_neg h, if_neg (by simp [hl]), if_neg (by simp [hf]), if_pos hg]
  · rw [if_neg h, if_neg (by simp [hl]), if_neg (by simp [hf]), if_neg (by omega)]

/-! ## Latches that stay set -/

/-- A latch of a trunk stands set. -/
def State.Latched (s : State) (t : Trunk) (l : TrunkLatch) : Prop := (s.sli.latches.trunk.get t).get l = true

theorem Sli.latchTrunk_keeps {x : Sli} {t : Trunk} {l : TrunkLatch} (h : (x.latches.trunk.get t).get l = true) (k : TrunkLatch)
    (ok : Bool) : ((x.latchTrunk t k ok).latches.trunk.get t).get l = true := by
  unfold Sli.latchTrunk
  split
  · exact h
  · rw [Sli.reportIf_eq]
    show ((x.latches.trunk.set t _).get t).get l = true
    rw [Quad.get_set_self, TrunkLatches.get_put, h, ite_self]

section
variable {s : State} {t : Trunk} {l : TrunkLatch}

theorem State.Latched.countEvent (h : s.Latched t l) (c : CounterName) : (s.countEvent t c).Latched t l := by
  unfold State.countEvent
  dsimp only
  split
  · exact h
  · show (((s.sli.latchTrunk t .counterSat true).reportIf _ _).latches.trunk.get t).get l = true
    rw [Sli.reportIf_eq]
    exact Sli.latchTrunk_keeps h _ _

theorem State.Latched.countEvents (c : CounterName) (n : Nat) : ∀ {s : State}, s.Latched t l → (s.countEvents t c n).Latched t l := by
  induction n with
  | zero => exact fun h => h
  | succ n ih => exact fun h => ih (h.countEvent c)

theorem State.Latched.stagedStart (h : s.Latched t l) : (s.stagedStart t).Latched t l :=
  State.Latched.countEvents .resend _ (s := s.setPort t ((s.port t).stagedStarted s.now)) h

theorem State.Latched.countCycle (h : s.Latched t l) : (s.countCycle t).Latched t l := by
  unfold State.Latched
  rw [State.countCycle_sli]
  exact h

theorem State.Latched.takeRequest (h : s.Latched t l) : (s.takeRequest t).Latched t l := by
  cases hrequests : (s.sup t).requests with
  | nil =>
    rw [State.takeRequest_nil hrequests]
    exact h
  | cons g rest =>
    rw [State.takeRequest_cons hrequests]
    by_cases hmoves : movesTrunk ((s.setSup t { s.sup t with requests := rest }).port t).state g
    · rcases State.consequence_moves _ t g hmoves with ⟨-, heq⟩ | ⟨-, heq⟩
      · rw [heq, State.moveDown_eq]
        exact Sli.latchTrunk_keeps h _ _
      · rw [heq, State.moveFaulted_eq]
        exact Sli.latchTrunk_keeps h _ _
    · obtain ⟨c, heq⟩ := State.consequence_stays _ t g hmoves
      rw [heq]
      exact h

theorem State.Latched.actAtOnce (h : s.Latched t l) : (s.actAtOnce t).Latched t l := by
  unfold State.actAtOnce
  split
  · exact State.takeRequests_keeps (P := fun u => u.Latched t l) t (fun _ h => h.takeRequest) h
  · exact h

/-- A latch that every close of the period's tally and run sets stands at the end of the cycle start, in every order. -/
theorem State.cycleEvents_latched (o : Config.CycleOrder) (hclose : ∀ u : State, (u.sup t).tally = (s.sup t).tally →
    (u.sup t).runSignature = (s.sup t).runSignature → (u.sup t).runLength = (s.sup t).runLength →
      (u.closePeriod t).Latched t l) : (s.cycleEvents t o).Latched t l := by
  have hfirst : (s.closePeriod t).Latched t l := hclose s rfl rfl rfl
  have hstaged : ((s.stagedStart t).closePeriod t).Latched t l := by
    obtain ⟨k, hsup⟩ := s.stagedStart_sup t
    exact hclose _ (by rw [hsup]) (by rw [hsup]) (by rw [hsup])
  have hcounted : (((s.stagedStart t).countCycle t).closePeriod t).Latched t l := by
    obtain ⟨k, hsup⟩ := s.stagedStart_sup t
    have hsup' : ((s.stagedStart t).countCycle t).sup t = _ := State.countCycle_sup _ t
    rw [hsup] at hsup'
    refine hclose _ ?_ ?_ ?_
    all_goals
      rw [hsup']
      split <;> rfl
  cases o with
  | closeLast => exact hcounted
  | closeMiddle => exact hstaged.countCycle
  | closeFirst => exact hfirst.stagedStart.countCycle
  | closeMiddleActed => exact hstaged.actAtOnce.countCycle
  | closeFirstActed => exact hfirst.stagedStart.actAtOnce.countCycle
  | identificationFirst => exact hfirst.actAtOnce.stagedStart.countCycle

/-- A close that identifies sets IDENTIFIED; another one, of a signature other than CLEAN, UNIDENTIFIED. -/
theorem State.closePeriod_latched (s : State) (t : Trunk) :
    ((s.sup t).identifiesNow → (s.closePeriod t).Latched t .identified)
    ∧ (¬ (s.sup t).identifiesNow → (s.sup t).tally.signature ≠ .clean → (s.closePeriod t).Latched t .unidentified) := by
  rw [State.closePeriod_eq]
  refine ⟨fun h => ?_, fun h hsig => ?_⟩
  · show ((Sli.periodClosed _ _ _ _).latches.trunk.get t).get _ = true
    rw [Sli.periodClosed_identified _ _ _ h]
    exact Sli.latchTrunk_set _ _ _ _
  · have hopen : s.sli.periodClosed t (s.sup t) (s.port t).config.identifyPolicy = s.sli.latchTrunk t .unidentified _ :=
      (if_neg fun h5 => h ((Supervisor.identifiesNow_iff _).2 h5)).trans (if_neg hsig)
    show ((Sli.periodClosed _ _ _ _).latches.trunk.get t).get _ = true
    rw [hopen]
    exact Sli.latchTrunk_set _ _ _ _

/-- The latches of a cycle start's close (R164, R165). -/
theorem State.cycleStart_latched (s : State) (t : Trunk) (o : Config.CycleOrder) :
    ((s.sup t).identifiesNow → ((s.beginCycle t).cycleEvents t o).Latched t .identified)
    ∧ (¬ (s.sup t).identifiesNow → (s.sup t).tally.signature ≠ .clean →
      ((s.beginCycle t).cycleEvents t o).Latched t .unidentified) := by
  have hsame : ∀ u : State, (u.sup t).tally = (s.sup t).tally → (u.sup t).runSignature = (s.sup t).runSignature →
      (u.sup t).runLength = (s.sup t).runLength → ((u.sup t).identifiesNow ↔ (s.sup t).identifiesNow) := by
    intro u htally hrun hlen
    rw [Supervisor.identifiesNow, htally, hrun, hlen, Supervisor.identifiesNow]
  refine ⟨fun h => State.cycleEvents_latched o fun u htally hrun hlen => ?_,
    fun h hsig => State.cycleEvents_latched o fun u htally hrun hlen => ?_⟩
  · exact (u.closePeriod_latched t).1 ((hsame u htally hrun hlen).2 h)
  · exact (u.closePeriod_latched t).2 (fun hu => h ((hsame u htally hrun hlen).1 hu)) (by rw [htally]; exact hsig)

/-! ## The supervisor at the end of a cycle start -/

/-- Where no identification moves the trunk: the supervisor's period closed, and the requests that an order takes taken. -/
theorem State.cycleStart_sup_stays (o : Config.CycleOrder) (h : ¬ s.movedAtStart t o) : ∃ k r z,
    ((s.beginCycle t).cycleEvents t o).sup t = { z with counters := k, resync := r }
    ∧ ∃ c, z = if actsAtOnce o = true then (s.sup t).periodClosed.acted c else (s.sup t).periodClosed := by
  obtain ⟨k, y, z, heq, hz, -⟩ := State.cycleStart_stays o h
  rw [heq, State.countCycle_sup, State.cycleLeft_sup]
  split
  · exact ⟨k, none, z, rfl, hz⟩
  · exact ⟨k, z.resync, z, rfl, hz⟩

/-- Where one does: the supervisor as the restart leaves it, no request left. -/
theorem State.cycleStart_moved {o : Config.CycleOrder} (h : s.movedAtStart t o) :
    ((s.beginCycle t).cycleEvents t o).Moved t
    ∧ (((s.beginCycle t).cycleEvents t o).sup t).requests = []
    ∧ (((s.beginCycle t).cycleEvents t o).sup t).lastIdentified = some (s.sup t).tally.signature := by
  obtain ⟨hacts, h5, hrequests⟩ := State.movedAtStart_requests h
  obtain ⟨k, y, v, hv, heq, hmoved, -⟩ := State.cycleEvents_moves hacts h5 hrequests
  rw [heq]
  obtain ⟨hnone, hlast⟩ := v.takeRequests_sup t
  refine ⟨hmoved, hnone, hlast.trans ?_⟩
  have hx : ((s.beginCycle t).sup t).periodClosed = _ := Supervisor.periodClosed_fields h.1
  rw [hv, State.cycleLeft_sup, hx]
  rfl

end

/-- The link at the close of a period, in the words of R164 to R166. -/
theorem Sli.periodClosed_eq (y : Sli) (t : Trunk) (x : Supervisor) (policy : Bool) : y.periodClosed t x policy =
    if (nextRun x.runSignature x.runLength x.tally.signature).2 = 5 then y.latchTrunk t .identified true
    else if x.tally.signature = .clean then y
    else y.latchTrunk t .unidentified (decide (policy = false)) := by
  cases policy <;> rfl

/-- What a close leaves of a supervisor's period, history and run. -/
theorem Supervisor.periodClosed_period (x : Supervisor) : x.periodClosed.tally = .empty
    ∧ x.periodClosed.latest = some x.tally.signature
    ∧ x.periodClosed.history =
      (⟨x.tally.signature, x.tally.looped, x.tally.foreign, x.tally.peer⟩ :: x.history).take 5
    ∧ x.periodClosed.runSignature = (nextRun x.runSignature x.runLength x.tally.signature).1
    ∧ x.periodClosed.runLength = (nextRun x.runSignature x.runLength x.tally.signature).2 := by
  unfold Supervisor.periodClosed
  split
  · exact ⟨rfl, rfl, rfl, rfl, rfl⟩
  · exact ⟨rfl, rfl, rfl, rfl, rfl⟩

theorem Supervisor.acted_period (x : Supervisor) (c : Option Signature) : (x.acted c).tally = x.tally
    ∧ (x.acted c).latest = x.latest ∧ (x.acted c).history = x.history ∧ (x.acted c).runSignature = x.runSignature
    ∧ (x.acted c).runLength = x.runLength := by
  unfold Supervisor.acted
  split
  · exact ⟨rfl, rfl, rfl, rfl, rfl⟩
  · exact ⟨rfl, rfl, rfl, rfl, rfl⟩

/-- What an order leaves of the identification: the last identified signature and the requests. -/
theorem Supervisor.periodClosed_requested (x : Supervisor) (acts : Bool) (c : Option Signature) :
    let z := if acts = true then x.periodClosed.acted c else x.periodClosed
    (x.identifiesNow → z.lastIdentified = some x.tally.signature
      ∧ z.requests = if acts = true then [] else x.requests ++ [x.tally.signature])
    ∧ (¬ x.identifiesNow → z.lastIdentified = x.lastIdentified ∧ z.requests = x.requests) := by
  intro z
  refine ⟨fun h => ?_, fun h => ?_⟩
  · have hx := Supervisor.periodClosed_fields h
    cases acts with
    | true =>
      have hz : z = { x.periodClosed with requests := [], faultCause := c } :=
        if_pos (show x.periodClosed.runLength = 5 by rw [hx])
      rw [hz, hx]
      exact ⟨rfl, rfl⟩
    | false =>
      have hz : z = x.periodClosed := rfl
      rw [hz, hx]
      exact ⟨rfl, rfl⟩
  · have hx := Supervisor.periodClosed_other x h
    have hz : z = x.closed x.tally.signature := by
      cases acts with
      | true =>
        have h5 : ¬ x.periodClosed.runLength = 5 := by
          rw [hx]
          exact fun h5 => h ((Supervisor.identifiesNow_iff x).2 h5)
        exact (if_neg h5).trans hx
      | false => exact hx
    rw [hz]
    exact ⟨rfl, rfl⟩

/-- The link at the end of a cycle start in which no identification moves the trunk. -/
theorem State.cycleStart_link {s : State} {t : Trunk} (o : Config.CycleOrder) (h : ¬ s.movedAtStart t o)
    (hlow : (s.sup t).counters.resend ≤ 255) : ((s.beginCycle t).cycleEvents t o).sli =
      if closesFirst o = true then
        (s.sli.periodClosed t (s.sup t) (s.port t).config.identifyPolicy).saturated t .resend ((s.beginCycle t).resendsAt t - 255)
      else (s.sli.saturated t .resend ((s.beginCycle t).resendsAt t - 255)).periodClosed t (s.sup t)
        (s.port t).config.identifyPolicy := by
  obtain ⟨k, y, z, heq, -, hlink⟩ := State.cycleStart_stays o h
  obtain ⟨-, hy⟩ := hlink hlow
  rw [State.beginCycle_port] at hy
  rw [heq, State.countCycle_sli]
  exact hy

/-- The RTO in force at the end of such a cycle start. -/
theorem State.cycleStart_rto {s : State} {t : Trunk} (o : Config.CycleOrder) (h : ¬ s.movedAtStart t o) :
    (((s.beginCycle t).cycleEvents t o).port t).rtoNs = (s.port t).cycleBegun.stagedInForce.rtoNs := by
  obtain ⟨k, y, z, heq, -⟩ := State.cycleStart_stays o h
  rw [heq, State.countCycle_port, State.cycleLeft_port, Port.cycleCounted_eq]
  rfl

/-- Settles O41: Table 8-2 row by row; the close by whether it identifies, and the link by the order of the events. -/
theorem periodClassified : Obligations.PeriodClassified := by
  refine ⟨Tally.signature_rows, fun s t hoff htest => ⟨exec_cycleStart hoff htest, fun o => ?_⟩, fun s t goal cause => ?_,
    fun t => ?_, fun s t => ?_⟩
  · intro u x sig run
    have hnow : run.2 = 5 ↔ x.identifiesNow := (Supervisor.identifiesNow_iff x).symm
    obtain ⟨hidentified, hunidentified⟩ := s.cycleStart_latched t o
    by_cases hmoves : s.movedAtStart t o
    · obtain ⟨hleft, hnone, hlast⟩ := State.cycleStart_moved hmoves
      have hmoved := hmoves
      obtain ⟨hidentifies, hacts, -⟩ := hmoved
      refine ⟨hleft.tally, fun _ => ⟨hlast, hnone.trans (if_pos hacts).symm, hidentified hidentifies⟩,
        fun hne => absurd (hnow.2 hidentifies) hne, fun hstays => absurd hmoves hstays,
        fun _ => ⟨hleft.latest, hleft.history, hleft.runSignature, hleft.runLength⟩⟩
    · obtain ⟨k, r, z, hsup, c, hz⟩ := State.cycleStart_sup_stays o hmoves
      have hsup : u.sup t = _ := hsup
      have hperiod : z.tally = .empty ∧ z.latest = some sig
          ∧ z.history = (⟨sig, x.tally.looped, x.tally.foreign, x.tally.peer⟩ :: x.history).take 5
          ∧ z.runSignature = run.1 ∧ z.runLength = run.2 := by
        obtain ⟨h1, h2, h3, h4, h5⟩ := x.periodClosed.acted_period c
        rw [hz]
        split
        · rw [h1, h2, h3, h4, h5]
          exact x.periodClosed_period
        · exact x.periodClosed_period
      obtain ⟨htally, hlatest, hhistory, hrun, hlength⟩ := hperiod
      obtain ⟨hasked, hnotAsked⟩ := x.periodClosed_requested (actsAtOnce o) c
      rw [← hz] at hasked hnotAsked
      rw [hsup]
      refine ⟨htally, fun h5 => ?_, fun h5 => ?_, fun _ => ⟨hlatest, hhistory, hrun, hlength, fun hlow => ?_⟩,
        fun hmoved => absurd hmoved hmoves⟩
      · obtain ⟨hlast, hrequests⟩ := hasked (hnow.1 h5)
        exact ⟨hlast, hrequests, hidentified (hnow.1 h5)⟩
      · obtain ⟨hlast, hrequests⟩ := hnotAsked fun h => h5 (hnow.2 h)
        exact ⟨hlast, hrequests, hunidentified fun h => h5 (hnow.2 h)⟩
      · intro p joined full closed
        have hjoined : (s.beginCycle t).resendsAt t = x.counters.resend + joined := by
          have hrto : (u.port t).rtoNs = p.cycleBegun.stagedInForce.rtoNs := State.cycleStart_rto o hmoves
          have htime : u.now = max s.now p.cycleDue := State.cycleEvents_now _ _ _
          rw [State.beginCycle_resendsAt, Port.cycleBegun_joinsAt, ← hrto, ← htime]
        have hclosed : ∀ y : Sli, y.periodClosed t x p.config.identifyPolicy = closed y := fun y => Sli.periodClosed_eq _ _ _ _
        have hsli := State.cycleStart_link o hmoves hlow
        rw [hjoined, hclosed, hclosed] at hsli
        refine hsli.trans ?_
        cases o <;> rfl
  · rw [State.trunkRestart_sup]
    rfl
  · cases t <;> rfl
  · cases t <;> rfl

end Sys2Proof.Machine

/-! # The receive lock and the alarm filter (R95, R98, R99, R101) -/

namespace Sys2Proof.Machine

/-! ## The candidate run and the filter -/

theorem AlarmFilter.take_same {x : AlarmFilter} {alarm : Bool} (h : alarm = x.alarm) : x.take alarm = ⟨x.alarm, 0⟩ := if_pos h

theorem AlarmFilter.take_run {x : AlarmFilter} {alarm : Bool} (h : alarm ≠ x.alarm) (hrun : x.run + 1 < 3) :
    x.take alarm = ⟨x.alarm, x.run + 1⟩ := (if_neg h).trans (if_pos hrun)

theorem AlarmFilter.take_flip {x : AlarmFilter} {alarm : Bool} (h : alarm ≠ x.alarm) (hrun : 3 ≤ x.run + 1) :
    x.take alarm = ⟨alarm, 0⟩ := (if_neg h).trans (if_neg (by omega))

section
variable {x : Lock} {pos k : Nat}

theorem Lock.seek_goes_on (hrun : 0 < x.run) (hpos : x.expected = some pos) (hk : x.remoteK = some k) :
    x.seek pos (some k) = { x with run := x.run + 1, expected := some (pos + k) } := if_pos ⟨hrun, hpos, hk⟩

theorem Lock.seek_begins (h : ¬ (0 < x.run ∧ x.expected = some pos ∧ x.remoteK = some k)) :
    x.seek pos (some k) = { x with run := 1, remoteK := some k, expected := some (pos + k) } := if_neg h

end

/-! ## An arrival at the lock, case by case -/

section
variable {s : State} {t : Trunk} {k : Option Nat}

theorem State.lockArrival_elsewhere (hheld : (s.port t).lock.held = true)
    (h : (s.port t).lock.expected ≠ some (s.port t).rxPos) : s.lockArrival t k = s :=
  (if_pos hheld).trans (if_neg h)

theorem State.lockArrival_matches (hheld : (s.port t).lock.held = true)
    (hpos : (s.port t).lock.expected = some (s.port t).rxPos) (h : k.isSome = true ∧ k = (s.port t).lock.remoteK) :
    s.lockArrival t k = s.setPort t { s.port t with lock := { (s.port t).lock with
      headErrors := 0, expected := some ((s.port t).rxPos + (s.port t).lock.remoteK.getD 0) } } :=
  (if_pos hheld).trans ((if_pos hpos).trans (if_pos h))

theorem State.lockArrival_fails (hheld : (s.port t).lock.held = true)
    (hpos : (s.port t).lock.expected = some (s.port t).rxPos) (h : ¬ (k.isSome = true ∧ k = (s.port t).lock.remoteK)) :
    s.lockArrival t k = s.headError t :=
  (if_pos hheld).trans ((if_pos hpos).trans (if_neg h))

theorem State.lockArrival_running (hheld : ¬ (s.port t).lock.held = true) (h : (s.port t).state = .running) :
    s.lockArrival t k = s := (if_neg hheld).trans (if_pos h)

theorem State.lockArrival_seeks (hheld : ¬ (s.port t).lock.held = true) (hrunning : (s.port t).state ≠ .running)
    (hresync : (s.port t).state ≠ .resync) : s.lockArrival t k = s.setPort t { s.port t with
      lock := (if ((s.port t).lock.seek (s.port t).rxPos k).run = 3 then
        { Lock.seek (s.port t).lock (s.port t).rxPos k with held := true, headErrors := 0 }
      else (s.port t).lock.seek (s.port t).rxPos k) } := by
  refine (if_neg hheld).trans ((if_neg hrunning).trans ((if_neg hresync).trans ?_))
  split
  · rfl
  · rfl

theorem State.lockArrival_regains (hheld : ¬ (s.port t).lock.held = true) (hresync : (s.port t).state = .resync)
    (hrun : ((s.port t).lock.seek (s.port t).rxPos k).run = 2) : s.lockArrival t k =
      (s.setPort t { s.port t with lock :=
        { (Lock.seek (s.port t).lock (s.port t).rxPos k) with held := true, headErrors := 0 } }).regainRunning t :=
  (if_neg hheld).trans ((if_neg (by simp [hresync])).trans ((if_pos hresync).trans (if_pos hrun)))

theorem State.lockArrival_seeks_resync (hheld : ¬ (s.port t).lock.held = true) (hresync : (s.port t).state = .resync)
    (hrun : ((s.port t).lock.seek (s.port t).rxPos k).run ≠ 2) : s.lockArrival t k =
      s.setPort t { s.port t with lock := (s.port t).lock.seek (s.port t).rxPos k } :=
  (if_neg hheld).trans ((if_neg (by simp [hresync])).trans ((if_pos hresync).trans (if_neg hrun)))

/-- The state in which a head error is counted (R98, R156). -/
def State.headErrorCounted (s : State) (t : Trunk) : State :=
  if (s.port t).state = .align ∨ (s.port t).state = .running then s.countEvent t .headError else s

theorem State.headErrorCounted_ports (s : State) (t : Trunk) : (s.headErrorCounted t).ports = s.ports := by
  unfold State.headErrorCounted
  split
  · exact State.countEvent_ports _ _ _
  · rfl

theorem State.headErrorCounted_now (s : State) (t : Trunk) : (s.headErrorCounted t).now = s.now := by
  unfold State.headErrorCounted
  split
  · exact State.countEvent_now _ _ _
  · rfl

theorem State.headError_kept (h : (s.port t).lock.headErrors + 1 < 3) : s.headError t =
    (s.headErrorCounted t).setPort t { s.port t with lock := { (s.port t).lock with
      headErrors := (s.port t).lock.headErrors + 1
      expected := (s.port t).lock.expected.map (· + (s.port t).lock.remoteK.getD 0) } } := if_pos h

theorem State.headError_lost (h : ¬ (s.port t).lock.headErrors + 1 < 3) (hstate : (s.port t).state ≠ .running) :
    s.headError t = (s.headErrorCounted t).setPort t { s.port t with lock := (s.port t).lock.lost } :=
  (if_neg h).trans (if_neg hstate)

theorem State.headError_resync (h : ¬ (s.port t).lock.headErrors + 1 < 3) (hstate : (s.port t).state = .running) :
    s.headError t =
      ((s.headErrorCounted t).setPort t { s.port t with lock := (s.port t).lock.lost }).enterResync t :=
  (if_neg h).trans (if_pos hstate)

end

/-! ## What an arrival at the lock leaves as it is -/

/-- The lock's part of an arrival changes the trunk's lock and state, its HEAD-ERROR count and resync timer, and the link;
a latch that is set stays set. -/
structure LockKept (s u : State) (t : Trunk) : Prop where
  frame : u = { s with ports := u.ports, sups := u.sups, sli := u.sli }
  ports : ∃ st l, u.ports = s.ports.set t { s.port t with state := st, lock := l }
  sups : ∃ n r, u.sups = s.sups.set t
    { s.sup t with counters := { (s.sup t).counters with headError := n }, resync := r }
  latched : ∀ l, s.Latched t l → u.Latched t l

section
variable {s u : State} {t : Trunk}

theorem LockKept.refl (s : State) (t : Trunk) : LockKept s s t where
  frame := rfl
  ports := ⟨_, _, (Quad.set_get s.ports t).symm⟩
  sups := ⟨_, _, (Quad.set_get s.sups t).symm⟩
  latched := fun _ h => h

theorem LockKept.port (h : LockKept s u t) : ∃ st l, u.port t = { s.port t with state := st, lock := l } := by
  obtain ⟨st, l, hports⟩ := h.ports
  exact ⟨st, l, by rw [State.port, hports, Quad.get_set_self]⟩

theorem LockKept.sup (h : LockKept s u t) : ∃ n r, u.sup t =
    { s.sup t with counters := { (s.sup t).counters with headError := n }, resync := r } := by
  obtain ⟨n, r, hsups⟩ := h.sups
  exact ⟨n, r, by rw [State.sup, hsups, Quad.get_set_self]⟩

theorem LockKept.setPort (h : LockKept s u t) (st : TrunkState) (l : Lock) :
    LockKept s (u.setPort t { u.port t with state := st, lock := l }) t where
  frame := by
    conv_lhs => rw [h.frame]
    rfl
  ports := by
    obtain ⟨st', l', hport⟩ := h.port
    obtain ⟨st'', l'', hports⟩ := h.ports
    refine ⟨st, l, ?_⟩
    rw [hport]
    show u.ports.set t _ = _
    rw [hports, Quad.set_set]
  sups := h.sups
  latched := h.latched

theorem LockKept.setResync (h : LockKept s u t) (r : Option Timer) :
    LockKept s (u.setSup t { u.sup t with resync := r }) t where
  frame := by
    conv_lhs => rw [h.frame]
    rfl
  ports := h.ports
  sups := by
    obtain ⟨n, r', hsup⟩ := h.sup
    obtain ⟨n', r'', hsups⟩ := h.sups
    refine ⟨n, r, ?_⟩
    rw [hsup]
    show u.sups.set t _ = _
    rw [hsups, Quad.set_set]
  latched := h.latched

theorem LockKept.latchTrunk (h : LockKept s u t) (l : TrunkLatch) : LockKept s (u.latchTrunk t l) t where
  frame := by
    conv_lhs => rw [h.frame]
    rfl
  ports := h.ports
  sups := h.sups
  latched := fun _ hl => Sli.latchTrunk_keeps (h.latched _ hl) _ _

theorem LockKept.countHeadError (h : LockKept s u t) : LockKept s (u.countEvent t .headError) t where
  frame := by
    unfold State.countEvent
    dsimp only
    split
    · conv_lhs => rw [h.frame]
      rfl
    · conv_lhs => rw [h.frame]
      rfl
  ports := by
    rw [State.countEvent_ports]
    exact h.ports
  sups := by
    obtain ⟨n, r, hsup⟩ := h.sup
    obtain ⟨n', r', hsups⟩ := h.sups
    unfold State.countEvent
    dsimp only
    split
    · refine ⟨(u.sup t).counters.get .headError + 1, r, ?_⟩
      show u.sups.set t _ = _
      rw [hsups, Quad.set_set, hsup]
      rfl
    · exact h.sups
  latched := fun _ hl => (h.latched _ hl).countEvent _

theorem State.headErrorCounted_kept (s : State) (t : Trunk) : LockKept s (s.headErrorCounted t) t := by
  unfold State.headErrorCounted
  split
  · exact (LockKept.refl s t).countHeadError
  · exact LockKept.refl s t

/-- What a head error leaves as it is; in HUNT and ALIGN, DOWN and FAULTED also the state. -/
theorem State.headError_leaves (s : State) (t : Trunk) : LockKept s (s.headError t) t := by
  have hcounted := s.headErrorCounted_kept t
  have hport : (s.headErrorCounted t).port t = s.port t := by rw [State.port, State.headErrorCounted_ports, State.port]
  have hset : ∀ l, LockKept s ((s.headErrorCounted t).setPort t { s.port t with lock := l }) t := by
    intro l
    have h := hcounted.setPort (s.port t).state l
    rwa [hport] at h
  by_cases hthird : (s.port t).lock.headErrors + 1 < 3
  · rw [State.headError_kept hthird]
    exact hset _
  · by_cases hstate : (s.port t).state = .running
    · rw [State.headError_resync hthird hstate, State.enterResync]
      exact (((hset _).setPort .resync _).setResync _).latchTrunk _
    · rw [State.headError_lost hthird hstate]
      exact hset _

theorem State.lockArrival_kept (s : State) (t : Trunk) (k : Option Nat) : LockKept s (s.lockArrival t k) t := by
  have hset : ∀ l, LockKept s (s.setPort t { s.port t with lock := l }) t := (LockKept.refl s t).setPort (s.port t).state
  by_cases hheld : (s.port t).lock.held = true
  · by_cases hpos : (s.port t).lock.expected = some (s.port t).rxPos
    · by_cases hmatches : k.isSome = true ∧ k = (s.port t).lock.remoteK
      · rw [State.lockArrival_matches hheld hpos hmatches]
        exact hset _
      · rw [State.lockArrival_fails hheld hpos hmatches]
        exact s.headError_leaves t
    · rw [State.lockArrival_elsewhere hheld hpos]
      exact LockKept.refl s t
  · by_cases hrunning : (s.port t).state = .running
    · rw [State.lockArrival_running hheld hrunning]
      exact LockKept.refl s t
    · by_cases hresync : (s.port t).state = .resync
      · by_cases hrun : ((s.port t).lock.seek (s.port t).rxPos k).run = 2
        · rw [State.lockArrival_regains hheld hresync hrun, State.regainRunning]
          exact ((hset _).setPort .running _).setResync _
        · rw [State.lockArrival_seeks_resync hheld hresync hrun]
          exact hset _
      · rw [State.lockArrival_seeks hheld hrunning hresync]
        exact hset _

/-- Outside RUNNING and RESYNC the lock changes no state, and in these two none but the one into the other. -/
theorem State.lockArrival_state (s : State) (t : Trunk) (k : Option Nat) :
    ((s.port t).state ≠ .running → (s.port t).state ≠ .resync → ((s.lockArrival t k).port t).state = (s.port t).state)
    ∧ ((s.port t).state = .running ∨ (s.port t).state = .resync →
      ((s.lockArrival t k).port t).state = .running ∨ ((s.lockArrival t k).port t).state = .resync) := by
  have hset : ∀ {u : State} {l : Lock}, ((u.setPort t { s.port t with lock := l }).port t).state = (s.port t).state := by
    intro u l
    rw [State.port, State.setPort_ports, Quad.get_set_self]
  have hsame : ∀ {u : State}, (u.port t).state = (s.port t).state →
      ((s.port t).state ≠ .running → (s.port t).state ≠ .resync → (u.port t).state = (s.port t).state)
      ∧ ((s.port t).state = .running ∨ (s.port t).state = .resync →
        (u.port t).state = .running ∨ (u.port t).state = .resync) :=
    fun h => ⟨fun _ _ => h, fun hup => by rw [h]; exact hup⟩
  by_cases hheld : (s.port t).lock.held = true
  · by_cases hpos : (s.port t).lock.expected = some (s.port t).rxPos
    · by_cases hmatches : k.isSome = true ∧ k = (s.port t).lock.remoteK
      · rw [State.lockArrival_matches hheld hpos hmatches]
        exact hsame hset
      · rw [State.lockArrival_fails hheld hpos hmatches]
        by_cases hthird : (s.port t).lock.headErrors + 1 < 3
        · rw [State.headError_kept hthird]
          exact hsame hset
        · by_cases hstate : (s.port t).state = .running
          · rw [State.headError_resync hthird hstate, State.enterResync]
            refine ⟨fun hne => absurd hstate hne, fun _ => .inr ?_⟩
            simp [State.port]
          · rw [State.headError_lost hthird hstate]
            exact hsame hset
    · rw [State.lockArrival_elsewhere hheld hpos]
      exact hsame rfl
  · by_cases hrunning : (s.port t).state = .running
    · rw [State.lockArrival_running hheld hrunning]
      exact hsame rfl
    · by_cases hresync : (s.port t).state = .resync
      · by_cases hrun : ((s.port t).lock.seek (s.port t).rxPos k).run = 2
        · rw [State.lockArrival_regains hheld hresync hrun, State.regainRunning]
          refine ⟨fun _ hne => absurd hresync hne, fun _ => .inl ?_⟩
          simp [State.port]
        · rw [State.lockArrival_seeks_resync hheld hresync hrun]
          exact hsame hset
      · rw [State.lockArrival_seeks hheld hrunning hresync]
        exact hsame hset

end

end Sys2Proof.Machine

/-! # Arrivals: what passes the lock, and frames that are not valid (R82, R95, R156, R160) -/

namespace Sys2Proof.Machine

/-! ## An arrival that is no matching HEAD -/

/-- The state behind the lock of an arrival that is no matching HEAD. -/
def State.lockPassed (s : State) (t : Trunk) : State :=
  if (s.port t).state ∈ [TrunkState.hunt, .align, .running, .resync] then s.lockArrival t none else s

section
variable (s : State) (t : Trunk)

theorem State.passedLock_eq : s.passedLock t =
    (s.lockPassed t).setPort t { (s.lockPassed t).port t with prevHead := false } := rfl

theorem State.lockPassed_kept : LockKept s (s.lockPassed t) t := by
  unfold State.lockPassed
  split
  · exact s.lockArrival_kept t none
  · exact LockKept.refl s t

theorem State.lockPassed_state :
    ((s.port t).state ≠ .running → (s.port t).state ≠ .resync → ((s.lockPassed t).port t).state = (s.port t).state)
    ∧ ((s.port t).state = .running ∨ (s.port t).state = .resync →
      ((s.lockPassed t).port t).state = .running ∨ ((s.lockPassed t).port t).state = .resync) := by
  unfold State.lockPassed
  split
  · exact s.lockArrival_state t none
  · exact ⟨fun _ _ => rfl, fun h => h⟩

/-- The blocks that an arrival that is no matching HEAD leaves as they are. -/
theorem State.passedLock_frame : s.passedLock t = { s with
    ports := (s.passedLock t).ports, sups := (s.passedLock t).sups, sli := (s.passedLock t).sli } := by
  rw [State.passedLock_eq]
  conv_lhs => rw [(s.lockPassed_kept t).frame]
  rfl

theorem State.passedLock_ports : ∃ st l, (s.passedLock t).ports =
    s.ports.set t { s.port t with state := st, lock := l, prevHead := false } := by
  obtain ⟨st, l, hport⟩ := (s.lockPassed_kept t).port
  obtain ⟨st', l', hports⟩ := (s.lockPassed_kept t).ports
  refine ⟨st, l, ?_⟩
  rw [State.passedLock_eq, State.setPort_ports, hports, Quad.set_set, hport]

theorem State.passedLock_port : ∃ l, (s.passedLock t).port t =
    { s.port t with state := ((s.passedLock t).port t).state, lock := l, prevHead := false } := by
  obtain ⟨st, l, hports⟩ := s.passedLock_ports t
  have hport : (s.passedLock t).port t = { s.port t with state := st, lock := l, prevHead := false } := by
    rw [State.port, hports, Quad.get_set_self]
  exact ⟨l, by rw [hport]⟩

theorem State.passedLock_sups : ∃ n r, (s.passedLock t).sups = s.sups.set t
    { s.sup t with counters := { (s.sup t).counters with headError := n }, resync := r } :=
  (s.lockPassed_kept t).sups

theorem State.passedLock_sup : ∃ n r, (s.passedLock t).sup t =
    { s.sup t with counters := { (s.sup t).counters with headError := n }, resync := r } :=
  (s.lockPassed_kept t).sup

theorem State.passedLock_latched {l : TrunkLatch} (h : s.Latched t l) : (s.passedLock t).Latched t l :=
  (s.lockPassed_kept t).latched l h

theorem State.passedLock_others : OthersKept s t (s.passedLock t) := by
  obtain ⟨st, l, hports⟩ := s.passedLock_ports t
  obtain ⟨n, r, hsups⟩ := s.passedLock_sups t
  exact ((OthersKept.refl s t).setPort (w := { s with ports := (s.passedLock t).ports }) hports rfl).setSup rfl hsups

theorem State.passedLock_state :
    ((s.port t).state ≠ .running → (s.port t).state ≠ .resync → ((s.passedLock t).port t).state = (s.port t).state)
    ∧ ((s.port t).state = .running ∨ (s.port t).state = .resync →
      ((s.passedLock t).port t).state = .running ∨ ((s.passedLock t).port t).state = .resync) := by
  have h : ((s.passedLock t).port t).state = ((s.lockPassed t).port t).state := by
    rw [State.passedLock_eq, State.port, State.setPort_ports, Quad.get_set_self]
  rw [h]
  exact s.lockPassed_state t

end

/-! ## Events of a counter (R156, R157) -/

theorem State.countEvent_below {s : State} {t : Trunk} {c : CounterName} (h : (s.sup t).counters.get c < 255) :
    s.countEvent t c = s.setSup t { s.sup t with
      counters := (s.sup t).counters.put c ((s.sup t).counters.get c + 1) } := if_pos h

/-! ## A frame that is not valid (R82, R98, R160) -/

/-- The report of an arrival that is not valid. -/
def State.arrivedInvalid (s : State) (t : Trunk) : State :=
  let s1 := s.arrivedWith t false false false
  { s1 with sups := s1.sups.set t { s1.sup t with
    tally := { (s1.sup t).tally with invalid := (s1.sup t).tally.invalid + 1 } } }

section
variable {s : State} {t : Trunk}

theorem exec_invalidFrame_off (h : (s.port t).state = .off) : exec (.invalidFrameReceived t) s = .next s := by
  show Host.Outcome.next (s.invalidFrame t) = _
  rw [State.invalidFrame, h]

theorem State.reported_invalid (s : State) (t : Trunk) :
    s.reported t false Marks.none = (s.arrivedInvalid t).countEvent t .frameCheck := by
  have hsame : s.reported t false Marks.none = State.countEvent ((s.countArrival t).setSup t { s.sup t with
      tally := (s.sup t).tally.add false Marks.none }) t .frameCheck := rfl
  rw [hsame]
  congr 1
  simp only [State.arrivedInvalid, State.arrivedWith, State.sup, Quad.get_set_self, Quad.set_set, Tally.add, Marks.none]
  rfl

theorem State.invalidFrame_supervised (hoff : (s.port t).state ≠ .off) (htest : (s.port t).state ≠ .test) :
    s.invalidFrame t = ((s.arrivedInvalid t).countEvent t .frameCheck).passedLock t := by
  have harrives : s.invalidFrame t = State.invalidArrives t s := by
    unfold State.invalidFrame
    cases h : (s.port t).state with
    | off => exact absurd h hoff
    | test => exact absurd h htest
    | _ => rfl
  rw [harrives, State.invalidArrives, State.otherArrival_eq, State.reported_invalid]

end

/-- An event of a counter leaves the other trunks. -/
theorem OthersKept.countEvent {s u : State} {t : Trunk} (h : OthersKept s t u) (c : CounterName) :
    OthersKept s t (u.countEvent t c) := by
  unfold State.countEvent
  dsimp only
  split
  · exact h.setSup rfl rfl
  · exact h

theorem State.countEvent_frame (s : State) (t : Trunk) (c : CounterName) : s.countEvent t c =
    { s with sups := (s.countEvent t c).sups, sli := (s.countEvent t c).sli } := by
  unfold State.countEvent
  dsimp only
  split
  · rfl
  · rfl

/-- What the FRAME-CHECK event of an invalid arrival leaves of the counters. -/
theorem State.countFrameCheck_sup (s : State) (t : Trunk) : ∃ n,
    (s.countEvent t .frameCheck).sup t = { s.sup t with counters := { (s.sup t).counters with frameCheck := n } }
    ∧ ((s.sup t).counters.frameCheck < 255 → n = (s.sup t).counters.frameCheck + 1)
    ∧ (255 ≤ (s.sup t).counters.frameCheck → n = (s.sup t).counters.frameCheck
      ∧ (s.countEvent t .frameCheck).Latched t .counterSat) := by
  by_cases h : (s.sup t).counters.frameCheck < 255
  · refine ⟨(s.sup t).counters.frameCheck + 1, ?_, fun _ => rfl, fun hfull => absurd h (Nat.not_lt.2 hfull)⟩
    rw [State.countEvent_below (c := .frameCheck) h]
    exact Quad.get_set_self _ _ _
  · have hfull := State.countEvent_atLimit s t .frameCheck (Nat.not_lt.1 h)
    refine ⟨(s.sup t).counters.frameCheck, ?_, fun hbelow => absurd hbelow h, fun _ => ⟨rfl, ?_⟩⟩
    · rw [hfull]
      rfl
    · rw [hfull]
      exact Sli.saturated_one_latch _ _ _

/-- Settles O48: one event counted behind the report, then the lock's part. -/
theorem invalidFrameCounted : Obligations.InvalidFrameCounted := by
  refine ⟨fun s t c => ?_, fun x => ⟨rfl, rfl, rfl⟩, fun s t h => exec_invalidFrame_off h, fun s t hoff htest => ?_⟩
  · intro x
    refine ⟨fun hbelow => ?_, fun hfull => State.countEvent_atLimit s t c hfull⟩
    rw [State.countEvent_below hbelow]
    cases c <;> rfl
  · refine ⟨((s.arrivedInvalid t).countEvent t .frameCheck).passedLock t,
      congrArg _ (State.invalidFrame_supervised hoff htest), rfl, ?_⟩
    obtain ⟨n, hsup, hbelow, hfull⟩ := (s.arrivedInvalid t).countFrameCheck_sup t
    have hothers : OthersKept s t ((s.arrivedInvalid t).countEvent t .frameCheck) :=
      OthersKept.countEvent (((OthersKept.refl s t).setPort (w := { s with ports := (s.arrivedInvalid t).ports }) rfl rfl).setSup
        (w := s.arrivedInvalid t) (x := (s.arrivedInvalid t).sup t) rfl (by
          simp only [State.arrivedInvalid, State.arrivedWith, State.sup, Quad.get_set_self, Quad.set_set])) .frameCheck
    have hport : ((s.arrivedInvalid t).countEvent t .frameCheck).port t = (s.arrivedWith t false false false).port t := by
      rw [State.port, State.countEvent_ports]
      rfl
    have htally : ((s.arrivedInvalid t).sup t).tally = { (s.sup t).tally with
        arrivals := (s.sup t).tally.arrivals + 1, invalid := (s.sup t).tally.invalid + 1 } := by
      simp [State.arrivedInvalid, State.arrivedWith, State.sup]
    have hcounters : ((s.arrivedInvalid t).sup t).counters = (s.sup t).counters := by
      simp [State.arrivedInvalid, State.arrivedWith, State.sup]
    rw [hcounters] at hbelow hfull
    have hframe : (s.arrivedInvalid t).countEvent t .frameCheck = { s with
        ports := ((s.arrivedInvalid t).countEvent t .frameCheck).ports
        sups := ((s.arrivedInvalid t).countEvent t .frameCheck).sups
        sli := ((s.arrivedInvalid t).countEvent t .frameCheck).sli } := by
      conv_lhs => rw [State.countEvent_frame]
      rw [State.countEvent_ports]
      rfl
    rw [State.arrivedWith_port] at hport
    generalize (s.arrivedInvalid t).countEvent t .frameCheck = v at *
    obtain ⟨l, hleft⟩ := v.passedLock_port t
    obtain ⟨m, r, hsupLeft⟩ := v.passedLock_sup t
    have hu := v.passedLock_frame t
    have hlatched := fun l => v.passedLock_latched t (l := l)
    have hrest := v.passedLock_others t
    rw [hport] at hleft
    rw [hsup] at hsupLeft
    generalize v.passedLock t = u at *
    have hu : u = { s with ports := u.ports, sups := u.sups, sli := u.sli } := by
      rw [hframe] at hu
      exact hu
    refine ⟨by rw [hleft], by rw [hleft], ?_, fun h => ?_, fun h => ⟨?_, ?_⟩, by rw [hleft], by rw [hleft], by rw [hleft],
      by rw [hleft], fun w hw => ?_, ?_⟩
    · rw [hsupLeft]
      exact htally
    · rw [hsupLeft]
      exact hbelow h
    · rw [hsupLeft]
      exact (hfull h).1
    · exact hlatched _ (hfull h).2
    · obtain ⟨hport', hsup'⟩ := hrest w hw
      obtain ⟨hport, hsup⟩ := hothers w hw
      exact ⟨hport'.trans hport, hsup'.trans hsup⟩
    · rw [hu]
      exact ⟨rfl, rfl, rfl, rfl, rfl, rfl, rfl⟩

end Sys2Proof.Machine

/-! # The incarnation check (R93, R100, R153) -/

namespace Sys2Proof.Machine

/-! ## An incarnation change -/

/-- A record that an incarnation change has cleared. -/
def InRec.cleared (r : InRec) : InRec :=
  { r with reassembly := none, skip := none, epoch := none, ackOwed := false, queue := r.queue.map InEntry.former }

section
variable {s : State} {t : Trunk}

theorem State.incarnationInbound_eq (s : State) (t : Trunk) : s.incarnationInbound t = { s with
    apply := { s.apply with
      records := s.apply.records.mapOn .reset (keyOf t) InRec.cleared
      waitList := s.apply.waitList.filter fun k => !keyOf t k
      backlog := s.apply.backlog - (s.reassembling t).length }
    body := { s.body with inUse := s.body.inUse - ((s.reassembling t).map fun e => e.slots).sum }
    map := mapReleased s.map (s.reassembling t) } := by
  unfold State.incarnationInbound
  rw [State.reassembling_eq, State.discardAll_eq]
  rfl

theorem State.incarnationInbound_cleared (hwf : Table.wf .reset s.apply.records = true) :
    InboundCleared s (s.incarnationInbound t) t := by
  have hrec : ∀ k, (s.incarnationInbound t).inRec k =
      if keyOf t k = true then InRec.cleared (s.inRec k) else s.inRec k := fun k => by
    rw [State.incarnationInbound_eq]
    exact Table.get_mapOn (fun _ => rfl) (Table.sorted_of_wf hwf)
  exact {
    records := fun b hb => by
      rw [hrec, if_pos (keyOf_self t hb)]
      rfl
    others := fun v b hv hb => by
      rw [hrec, keyOf_other hv hb]
      rfl
    apply := by
      rw [State.incarnationInbound_eq]
      rfl
    body := by rw [State.incarnationInbound_eq]
    map := by rw [State.incarnationInbound_eq] }

/-- No entry of the trunk is being rebuilt behind an incarnation change. -/
theorem State.incarnationInbound_reassembling (s : State) (t : Trunk) : (s.incarnationInbound t).reassembling t = [] := by
  rw [State.incarnationInbound_eq]
  refine List.filterMap_eq_nil_iff.mpr fun e he => ?_
  obtain ⟨hmem, hkey⟩ := List.mem_filter.mp he
  obtain ⟨x, -, hx⟩ := List.mem_map.mp (List.mem_of_mem_filter hmem)
  have hsame : e.1 = x.1 := by
    rw [← hx]
    split
    · rfl
    · rfl
  have hp : keyOf t x.1 = true := by
    rw [← hsame]
    exact hkey
  rw [if_pos hp] at hx
  rw [← hx]
  rfl

theorem State.incarnationInbound_wf (hwf : Table.wf .reset s.apply.records = true) :
    Table.wf .reset (s.incarnationInbound t).apply.records = true := by
  rw [State.incarnationInbound_eq]
  exact Table.wf_mapOn _ _ _ _ hwf

/-- What a protocol restart leaves of the inbound records and of what their entries hold (R91, R152). -/
theorem State.startedOver_inbound {v : State} (hwf : Table.wf .reset v.apply.records = true) :
    (∀ b, b < 4096 → (v.startedOver t).inRec (t.index * 4096 + b) =
      (v.inRec (t.index * 4096 + b)).restarted)
    ∧ (∀ w b, w ≠ t → b < 4096 → (v.startedOver t).inRec (w.index * 4096 + b) = v.inRec (w.index * 4096 + b))
    ∧ (v.startedOver t).apply = { v.apply with
      records := (v.startedOver t).apply.records, backlog := v.apply.backlog - (v.reassembling t).length }
    ∧ (v.startedOver t).body = { v.body with
      inUse := v.body.inUse - ((v.reassembling t).map fun e => e.slots).sum
      refillQueue := (v.startedOver t).body.refillQueue }
    ∧ (v.startedOver t).map = mapReleased v.map (v.reassembling t) := by
  obtain ⟨-, -, -, -, hrec, hothers, happly, hbody, hmap, -⟩ := trunkRestartProcedure { v with
    ports := v.ports.set t { v.port t with
      stats := { (v.port t).stats with protocolRestarts := (v.port t).stats.protocolRestarts + 1 } } } t .hunt none hwf
  exact ⟨hrec, hothers, happly, hbody, hmap⟩

/-- A protocol restart behind an incarnation change finds the inbound records cleared, and leaves them so. -/
theorem State.startedOver_cleared {v : State} (h : InboundCleared s v t) (hwf : Table.wf .reset v.apply.records = true)
    (hnone : v.reassembling t = []) : InboundCleared s (v.startedOver t) t := by
  obtain ⟨hrec, hothers, happly, hbody, hmap⟩ := State.startedOver_inbound (t := t) hwf
  rw [hnone] at happly hbody hmap
  generalize v.startedOver t = u at *
  rw [h.apply] at happly
  rw [h.body] at hbody
  rw [h.map, mapReleased_nil] at hmap
  exact {
    records := fun b hb => by
      rw [hrec b hb, h.records b hb]
      rfl
    others := fun w b hw hb => (hothers w b hw hb).trans (h.others w b hw hb)
    apply := happly
    body := hbody
    map := hmap }

/-! ## The check -/

/-- The state in which a frame's incarnation is recorded, the inbound records cleared where another was recorded. -/
def State.incarnationTaken (s : State) (t : Trunk) (i : Stamp) : State :=
  let v := if (s.port t).recorded = none ∨ (s.port t).recorded = some i then s else s.incarnationInbound t
  v.setPort t { s.port t with recorded := some i }

theorem State.incarnationTaken_same {i : Stamp} (h : (s.port t).recorded = none ∨ (s.port t).recorded = some i) :
    s.incarnationTaken t i = s.setPort t { s.port t with recorded := some i } := by
  rw [State.incarnationTaken, if_pos h]

theorem State.incarnationTaken_changed {i : Stamp} (h : ¬ ((s.port t).recorded = none ∨ (s.port t).recorded = some i)) :
    s.incarnationTaken t i = (s.incarnationInbound t).setPort t { s.port t with recorded := some i } := by
  rw [State.incarnationTaken, if_neg h]

theorem State.incarnationTaken_port (i : Stamp) : (s.incarnationTaken t i).port t = { s.port t with recorded := some i } :=
  Quad.get_set_self _ _ _

/-- The check makes a peer start-over. -/
def State.startsOver (s : State) (t : Trunk) (i : Stamp) : Prop :=
  ((s.port t).state = .running ∨ (s.port t).state = .resync) ∧ (s.port t).recorded ≠ none ∧ (s.port t).recorded ≠ some i

theorem State.incarnationCheck_stays {i : Stamp} (h : ¬ s.startsOver t i) :
    s.incarnationCheck t i = (s.incarnationTaken t i, false) := by
  unfold State.incarnationCheck
  cases hr : (s.port t).recorded with
  | none => rw [State.incarnationTaken_same (.inl hr)]
  | some r =>
    dsimp only
    by_cases hsame : r = i
    · rw [if_pos hsame, State.incarnationTaken_same (.inr (by rw [hr, hsame]))]
      have hport : { s.port t with recorded := some i } = s.port t := by rw [← hsame, ← hr]
      rw [hport]
      exact congrArg (fun x : Quad Port => (({ s with ports := x } : State), false)) (Quad.set_get s.ports t).symm
    · have hne : ¬ ((s.port t).recorded = none ∨ (s.port t).recorded = some i) := by simp [hr, hsame]
      have hport : (s.incarnationInbound t).port t = s.port t := by rw [State.port, State.incarnationInbound_ports, State.port]
      rw [if_neg hsame, State.incarnationTaken_changed hne, hport]
      refine if_neg fun hup => h ⟨?_, by simp [hr], by simp [hr, hsame]⟩
      rw [State.port, State.setPort_ports, Quad.get_set_self] at hup
      exact (TrunkState.up_iff _).1 hup

theorem State.incarnationCheck_restarts {i : Stamp} (h : s.startsOver t i) :
    s.incarnationCheck t i = ((s.incarnationTaken t i).startedOver t, true) := by
  obtain ⟨hup, hsome, hne⟩ := h
  unfold State.incarnationCheck
  cases hr : (s.port t).recorded with
  | none => exact absurd hr hsome
  | some r =>
    have hsame : r ≠ i := fun heq => hne (by rw [hr, heq])
    have hport : (s.incarnationInbound t).port t = s.port t := by rw [State.port, State.incarnationInbound_ports, State.port]
    dsimp only
    rw [if_neg hsame, State.incarnationTaken_changed (not_or.2 ⟨hsome, hne⟩), hport]
    refine if_pos ?_
    rw [State.port, State.setPort_ports, Quad.get_set_self]
    exact (TrunkState.up_iff _).2 hup

theorem State.incarnationTaken_spec (s : State) (t : Trunk) (i : Stamp) : IncarnationTaken s (s.incarnationTaken t i) t i where
  frame := by
    unfold State.incarnationTaken
    dsimp only
    split
    · rfl
    · rw [State.incarnationInbound_eq]
      rfl
  same := fun h => by
    rw [State.incarnationTaken_same h]
    exact ⟨rfl, rfl, rfl⟩
  changed := fun r hr hne hwf => by
    have h : ¬ ((s.port t).recorded = none ∨ (s.port t).recorded = some i) := by simp [hr, hne]
    rw [State.incarnationTaken_changed h]
    obtain ⟨hrecords, hothers, happly, hbody, hmap⟩ := State.incarnationInbound_cleared (t := t) hwf
    refine ⟨⟨hrecords, hothers, happly, hbody, hmap⟩, ?_⟩
    rw [State.incarnationInbound_eq]
    rfl

/-- A peer start-over at the check: the inbound records are cleared behind it (R93, R100, R153). -/
theorem State.startsOver_cleared {i : Stamp} (hchanged : ¬ ((s.port t).recorded = none ∨ (s.port t).recorded = some i))
    (hwf : Table.wf .reset s.apply.records = true) : InboundCleared s ((s.incarnationTaken t i).startedOver t) t := by
  obtain ⟨hrecords, hothers, happly, hbody, hmap⟩ := State.incarnationInbound_cleared (t := t) hwf
  rw [State.incarnationTaken_changed hchanged]
  exact State.startedOver_cleared (v := (s.incarnationInbound t).setPort t { s.port t with recorded := some i })
    ⟨hrecords, hothers, happly, hbody, hmap⟩ (State.incarnationInbound_wf hwf) (s.incarnationInbound_reassembling t)

end

end Sys2Proof.Machine

/-! # HEAD frames (R82, R92 to R95, R98 to R101, R103, R160) -/

namespace Sys2Proof.Machine

/-! ## A frame that names its sender -/

section
variable {s : State} {t : Trunk} {site : Nat} {i : Stamp}

/-- The sender of a frame is the part itself. -/
def State.ownFrame (s : State) (site : Nat) (i : Stamp) : Bool := s.clock.site == some site && s.clock.incarnation == some i

theorem State.reported_peer (h : (s.port t).config.peer = some site) : s.reported t true (s.senderMarks t site i) =
    s.arrivedWith t (s.ownFrame site i) false (!s.ownFrame site i) := by
  rw [State.reported_eq]
  simp only [State.senderMarks, h, BEq.rfl, Bool.not_true, Bool.false_and, Bool.true_and]
  rfl

theorem State.reported_stranger (h : (s.port t).config.peer ≠ some site) : s.reported t true (s.senderMarks t site i) =
    s.arrivedWith t (s.ownFrame site i) (!(s.clock.site == some site)) false := by
  have hpeer : ((s.port t).config.peer == some site) = false := beq_false_of_ne h
  rw [State.reported_eq]
  simp only [State.senderMarks, hpeer, Bool.not_false, Bool.false_and, Bool.true_and]
  rfl

theorem State.arrivedWith_fromPeer (a b c : Bool) :
    (s.arrivedWith t a b c).fromPeer t site = true ↔ (s.port t).config.peer = some site := by
  rw [State.fromPeer, State.arrivedWith_port, beq_iff_eq]

theorem State.arrivedWith_startsOver (a b c : Bool) : (s.arrivedWith t a b c).startsOver t i ↔ s.startsOver t i := by
  simp only [State.startsOver, State.arrivedWith_port]

theorem State.arrivedWith_sup (a b c : Bool) : (s.arrivedWith t a b c).sup t = { s.sup t with tally :=
    ⟨(s.sup t).tally.arrivals + 1, (s.sup t).tally.invalid, (s.sup t).tally.looped || a, (s.sup t).tally.foreign || b,
      (s.sup t).tally.peer || c⟩ } := Quad.get_set_self _ _ _

theorem State.arrivedWith_others (a b c : Bool) : OthersKept s t (s.arrivedWith t a b c) :=
  ((OthersKept.refl s t).setPort (w := { s with ports := (s.arrivedWith t a b c).ports }) rfl rfl).setSup
    (w := s.arrivedWith t a b c) rfl rfl

/-- What stands of cleared inbound records rests on the apply unit, the Body Store and the map alone. -/
theorem InboundCleared.congr {v u : State} (h : InboundCleared s v t) (happly : u.apply = v.apply) (hbody : u.body = v.body)
    (hmap : u.map = v.map) : InboundCleared s u t := by
  have hrec : ∀ k, u.inRec k = v.inRec k := fun k => by rw [State.inRec, happly, State.inRec]
  exact {
    records := fun b hb => (hrec _).trans (h.records b hb)
    others := fun w b hw hb => (hrec _).trans (h.others w b hw hb)
    apply := by
      rw [happly]
      exact h.apply
    body := by
      rw [hbody]
      exact h.body
    map := hmap.trans h.map }

/-- An arrival counted and reported does not touch the inbound records. -/
theorem InboundCleared.ofArrived {v : State} {a b c : Bool} (h : InboundCleared (s.arrivedWith t a b c) v t) :
    InboundCleared s v t := ⟨h.records, h.others, h.apply, h.body, h.map⟩

end

/-! ## The lock's and the filter's part of a HEAD from the expected peer -/

/-- A HEAD that matches: the alignment word, and a K from 8 to 32. -/
def headFits (f : HeadFrame) : Prop := f.align = 0x5E3AC691#32 ∧ 8 ≤ f.k.toNat ∧ f.k.toNat ≤ 32

section
variable {s : State} {t : Trunk} {f : HeadFrame}

theorem State.matchingK_fits (hpeer : (s.port t).config.peer = some f.site.toNat) (h : headFits f) :
    s.matchingK t f = some f.k.toNat := if_pos ⟨beq_iff_eq.2 hpeer, h⟩

theorem State.matchingK_misfits (h : ¬ headFits f) : s.matchingK t f = none := if_neg fun hall => h hall.2

theorem State.matchingK_isSome (hpeer : (s.port t).config.peer = some f.site.toNat) :
    (s.matchingK t f).isSome = true ↔ headFits f := by
  by_cases h : headFits f
  · simp [State.matchingK_fits hpeer h, h]
  · simp [State.matchingK_misfits h, h]

/-- A matching HEAD's flags, as one update. -/
theorem State.headFlags_eq (s : State) (t : Trunk) (f : HeadFrame) : s.headFlags t f = { s with
    ports := s.ports.set t { s.port t with
      lock := { (s.port t).lock with peerLocked := f.locked }
      lastCycle := f.cycle.toNat
      filter := (s.port t).filter.take f.alarm }
    sli := if ((s.port t).filter.take f.alarm).alarm = true ∧ (s.port t).filter.alarm = false then
        s.sli.latchTrunk t .remoteAlarm true
      else s.sli } := by
  unfold State.headFlags
  dsimp only
  by_cases h : ((s.port t).filter.take f.alarm).alarm = true ∧ (s.port t).filter.alarm = false
  · rw [if_pos (by simp [h]), if_pos h]
    rfl
  · rw [if_neg (by simpa using h), if_neg h]
    rfl

/-- What the lock and the filter make of a HEAD leaves as it is: the port but for the lock's and the filter's fields. -/
structure HeadTaken (s u : State) (t : Trunk) : Prop where
  frame : u = { s with ports := u.ports, sups := u.sups, sli := u.sli }
  ports : ∃ l n a, u.ports = s.ports.set t { s.port t with
    state := (u.port t).state, lock := l, lastCycle := n, filter := a }
  sups : ∃ n r, u.sups = s.sups.set t
    { s.sup t with counters := { (s.sup t).counters with headError := n }, resync := r }
  stays : (s.port t).state ≠ .running → (s.port t).state ≠ .resync → (u.port t).state = (s.port t).state
  up : (s.port t).state = .running ∨ (s.port t).state = .resync → (u.port t).state = .running ∨ (u.port t).state = .resync

theorem State.lockStep_cases (s : State) (t : Trunk) (k : Option Nat) :
    LockKept s (s.lockStep t k) t
    ∧ ((s.port t).state ≠ .running → (s.port t).state ≠ .resync → ((s.lockStep t k).port t).state = (s.port t).state)
    ∧ ((s.port t).state = .running ∨ (s.port t).state = .resync →
      ((s.lockStep t k).port t).state = .running ∨ ((s.lockStep t k).port t).state = .resync) := by
  unfold State.lockStep
  split
  · exact ⟨s.lockArrival_kept t k, s.lockArrival_state t k⟩
  · exact ⟨LockKept.refl s t, fun _ _ => rfl, fun h => h⟩

theorem State.headLocks_taken (s : State) (t : Trunk) (f : HeadFrame) : HeadTaken s (s.headLocks t f) t := by
  obtain ⟨hkept, hstays, hup⟩ := s.lockStep_cases t (s.matchingK t f)
  obtain ⟨st, l, hport⟩ := hkept.port
  obtain ⟨st', l', hports⟩ := hkept.ports
  unfold State.headLocks
  dsimp only
  split
  · have hflags := (s.lockStep t (s.matchingK t f)).headFlags_eq t f
    have hstate : (((s.lockStep t (s.matchingK t f)).headFlags t f).port t).state =
        ((s.lockStep t (s.matchingK t f)).port t).state := by
      rw [hflags]
      show (((s.lockStep t (s.matchingK t f)).ports.set t _).get t).state = _
      rw [Quad.get_set_self]
    refine ⟨?_, ?_, ?_, fun h1 h2 => hstate.trans (hstays h1 h2), fun h => by rw [hstate]; exact hup h⟩
    · have hframe := hkept.frame
      rw [hflags]
      generalize s.lockStep t (s.matchingK t f) = w at hframe ⊢
      rw [hframe]
    · rw [hstate, hflags]
      refine ⟨{ l with peerLocked := f.locked }, f.cycle.toNat, (s.port t).filter.take f.alarm, ?_⟩
      rw [hport]
      show (s.lockStep t (s.matchingK t f)).ports.set t _ = _
      rw [hports, Quad.set_set]
    · rw [hflags]
      exact hkept.sups
  · refine ⟨hkept.frame, ⟨l, (s.port t).lastCycle, (s.port t).filter, ?_⟩, hkept.sups, hstays, hup⟩
    have hfull := congrArg (fun q => s.ports.set t q) hport
    rw [hport]
    have hset : (s.lockStep t (s.matchingK t f)).ports =
        s.ports.set t ((s.lockStep t (s.matchingK t f)).port t) := by
      rw [State.port, hports, Quad.get_set_self]
    exact hset.trans hfull

/-- The state machine's part of a HEAD, by the state before the lock. -/
theorem HeadTaken.headMoves_taken {u : State} (h : HeadTaken s u t) : u.headMoves t f = match (s.port t).state with
    | .hunt => if f.ready = true then u.aligned t else u
    | .down => u.setPort t { u.port t with state := .hunt }
    | _ => u := by
  have hmoves : ∀ st, (u.port t).state = st → u.headMoves t f = match st with
      | .hunt => if f.ready = true then u.aligned t else u
      | .down => u.setPort t { u.port t with state := .hunt }
      | _ => u := by
    intro st hst
    subst hst
    rfl
  cases hstate : (s.port t).state with
  | running =>
    rcases h.up (.inl hstate) with hu | hu
    · exact hmoves _ hu
    · exact hmoves _ hu
  | resync =>
    rcases h.up (.inr hstate) with hu | hu
    · exact hmoves _ hu
    · exact hmoves _ hu
  | _ => exact hmoves _ ((h.stays (by simp [hstate]) (by simp [hstate])).trans hstate)

end

end Sys2Proof.Machine

/-! # HEAD frames by their sender -/

namespace Sys2Proof.Machine

section
variable {s : State} {t : Trunk} {f : HeadFrame}

/-! ## A HEAD by its sender -/

/-- The state behind the incarnation check of a frame from the expected peer. -/
def State.peerRecorded (s : State) (t : Trunk) (site : Nat) (i : Stamp) : State :=
  (s.arrivedWith t (s.ownFrame site i) false (!s.ownFrame site i)).incarnationTaken t i

theorem State.peerRecorded_port (site : Nat) (i : Stamp) : (s.peerRecorded t site i).port t = { s.port t with
    rxPos := (s.port t).rxPos + 1
    stats := { (s.port t).stats with framesReceived := (s.port t).stats.framesReceived + 1 }
    recorded := some i } := by
  rw [State.peerRecorded, State.incarnationTaken_port, State.arrivedWith_port]

theorem State.peerRecorded_taken (site : Nat) (i : Stamp) :
    IncarnationTaken (s.arrivedWith t (s.ownFrame site i) false (!s.ownFrame site i)) (s.peerRecorded t site i) t i :=
  State.incarnationTaken_spec _ t i

theorem State.headArrives_restarts (hpeer : (s.port t).config.peer = some f.site.toNat) (h : s.startsOver t f.incarnation) :
    State.headArrives t f s = (s.peerRecorded t f.site.toNat f.incarnation).startedOver t := by
  unfold State.headArrives
  dsimp only
  rw [State.reported_peer hpeer, if_pos ((State.arrivedWith_fromPeer _ _ _).2 hpeer), State.peerHead,
    State.incarnationCheck_restarts ((State.arrivedWith_startsOver _ _ _).2 h)]
  rfl

theorem State.headArrives_stays (hpeer : (s.port t).config.peer = some f.site.toNat) (h : ¬ s.startsOver t f.incarnation) :
    let v := s.peerRecorded t f.site.toNat f.incarnation
    State.headArrives t f s = ((v.headLocks t f).headMoves t f).setPrevHead t (v.matchingK t f).isSome := by
  unfold State.headArrives
  dsimp only
  rw [State.reported_peer hpeer, if_pos ((State.arrivedWith_fromPeer _ _ _).2 hpeer), State.peerHead,
    State.incarnationCheck_stays fun h' => h ((State.arrivedWith_startsOver _ _ _).1 h')]
  rfl

theorem State.headArrives_stranger (hpeer : (s.port t).config.peer ≠ some f.site.toNat) :
    State.headArrives t f s = (s.arrivedWith t (s.ownFrame f.site.toNat f.incarnation)
      (!(s.clock.site == some f.site.toNat)) false).passedLock t := by
  unfold State.headArrives
  dsimp only
  rw [State.reported_stranger hpeer, if_neg fun h => hpeer ((State.arrivedWith_fromPeer _ _ _).1 h), State.otherArrival_eq]

theorem exec_headReceived (hoff : (s.port t).state ≠ .off) (htest : (s.port t).state ≠ .test) :
    exec (.headReceived t f) s = .next (State.headArrives t f s) := congrArg _ (State.arrival_eq s t _ hoff htest)

/-! ## What a HEAD of a peer that does not start over leaves -/

/-- The state behind the lock and the flags of a HEAD. -/
theorem State.headLocks_eq (v : State) (hpeer : (v.port t).config.peer = some f.site.toNat) :
    let w := if (v.port t).state ∈ [TrunkState.hunt, .align, .running, .resync] then
        v.lockArrival t (if f.align = 0x5E3AC691#32 ∧ 8 ≤ f.k.toNat ∧ f.k.toNat ≤ 32 then some f.k.toNat else none)
      else v
    let y := (v.port t).filter.take f.alarm
    v.headLocks t f = if (v.port t).state ∈ [TrunkState.hunt, .align, .running, .resync]
        ∧ (f.align = 0x5E3AC691#32 ∧ 8 ≤ f.k.toNat ∧ f.k.toNat ≤ 32) then { w with
      ports := w.ports.set t { w.port t with
        lock := { (w.port t).lock with peerLocked := f.locked }, lastCycle := f.cycle.toNat, filter := y }
      sli := if y.alarm = true ∧ (v.port t).filter.alarm = false then w.sli.latchTrunk t .remoteAlarm true else w.sli }
    else w := by
  have hk : v.matchingK t f = if f.align = 0x5E3AC691#32 ∧ 8 ≤ f.k.toNat ∧ f.k.toNat ≤ 32 then some f.k.toNat else none := by
    by_cases h : headFits f
    · rw [State.matchingK_fits hpeer h]
      exact (if_pos h).symm
    · rw [State.matchingK_misfits h]
      exact (if_neg h).symm
  have hfilter : ((v.lockStep t (v.matchingK t f)).port t).filter = (v.port t).filter := by
    obtain ⟨st, l, hport⟩ := (v.lockStep_cases t (v.matchingK t f)).1.port
    rw [hport]
  have hstep : v.lockStep t (v.matchingK t f) =
      if (v.port t).state ∈ [TrunkState.hunt, .align, .running, .resync] then v.lockArrival t (v.matchingK t f) else v := by
    unfold State.lockStep
    simp only [TrunkState.locking_iff]
  intro w y
  have hw : v.lockStep t (v.matchingK t f) = w := by
    rw [hstep, hk]
  unfold State.headLocks
  dsimp only
  have hcond : ((v.port t).state.locking && (v.matchingK t f).isSome) = true ↔
      (v.port t).state ∈ [TrunkState.hunt, .align, .running, .resync]
        ∧ (f.align = 0x5E3AC691#32 ∧ 8 ≤ f.k.toNat ∧ f.k.toNat ≤ 32) := by
    rw [Bool.and_eq_true, TrunkState.locking_iff, State.matchingK_isSome hpeer]
    rfl
  by_cases h : ((v.port t).state.locking && (v.matchingK t f).isSome) = true
  · rw [if_pos h, if_pos (hcond.1 h), State.headFlags_eq, hfilter, hw]
  · rw [if_neg h, if_neg fun h' => h (hcond.2 h'), hw]

/-- The port of a trunk that has started over: in HUNT, its stores empty, the restart counted. -/
theorem State.startedOver_port (v : State) (t : Trunk) : ((v.startedOver t).port t).state = .hunt
    ∧ ((v.startedOver t).port t).recorded = (v.port t).recorded ∧ ((v.startedOver t).port t).store = []
    ∧ ((v.startedOver t).port t).stats =
      { (v.port t).stats with protocolRestarts := (v.port t).stats.protocolRestarts + 1 }
    ∧ ((v.startedOver t).port t).rxPos = (v.port t).rxPos ∧ ((v.startedOver t).port t).prevHead = false := by
  have hport := State.trunkRestart_port { v with ports := v.ports.set t { v.port t with
    stats := { (v.port t).stats with protocolRestarts := (v.port t).stats.protocolRestarts + 1 } } } t .hunt none
  have hread : State.port { v with ports := v.ports.set t { v.port t with
      stats := { (v.port t).stats with protocolRestarts := (v.port t).stats.protocolRestarts + 1 } } } t = _ :=
    Quad.get_set_self _ _ _
  rw [hread, Port.restarted_eq] at hport
  have hport : (v.startedOver t).port t = _ := hport
  rw [hport]
  exact ⟨rfl, rfl, rfl, rfl, rfl, rfl⟩

theorem HeadTaken.port {v x : State} (h : HeadTaken v x t) : ∃ l n a, x.port t = { v.port t with
    state := (x.port t).state, lock := l, lastCycle := n, filter := a } := by
  obtain ⟨l, n, a, hports⟩ := h.ports
  refine ⟨l, n, a, ?_⟩
  conv_lhs => rw [State.port, hports, Quad.get_set_self]

theorem HeadTaken.others {v x : State} (h : HeadTaken v x t) (hv : OthersKept s t v) : OthersKept s t x := by
  obtain ⟨l, n, a, hports⟩ := h.ports
  obtain ⟨m, r, hsups⟩ := h.sups
  exact (hv.setPort (w := { v with ports := x.ports }) hports rfl).setSup rfl hsups

/-- Where the frame's incarnation is no other than the one recorded, nothing but the port and the tally changes. -/
theorem State.peerRecorded_same (site : Nat) {i : Stamp} (h : (s.port t).recorded = none ∨ (s.port t).recorded = some i) :
    s.peerRecorded t site i = { s with
      ports := s.ports.set t { s.port t with
        rxPos := (s.port t).rxPos + 1
        stats := { (s.port t).stats with framesReceived := (s.port t).stats.framesReceived + 1 }
        recorded := some i }
      sups := s.sups.set t { s.sup t with tally :=
        ⟨(s.sup t).tally.arrivals + 1, (s.sup t).tally.invalid, (s.sup t).tally.looped || s.ownFrame site i,
          (s.sup t).tally.foreign, (s.sup t).tally.peer || !s.ownFrame site i⟩ } } := by
  have hrecorded : ((s.arrivedWith t (s.ownFrame site i) false (!s.ownFrame site i)).port t).recorded = (s.port t).recorded := by
    rw [State.arrivedWith_port]
  rw [State.peerRecorded, State.incarnationTaken_same (by rw [hrecorded]; exact h), State.arrivedWith_port]
  simp only [State.arrivedWith, State.setPort, Quad.set_set, Bool.or_false]

theorem State.peerRecorded_others (site : Nat) (i : Stamp) : OthersKept s t (s.peerRecorded t site i) := by
  have h := (s.peerRecorded_taken (t := t) site i).frame
  exact (s.arrivedWith_others (t := t) _ _ _).setPort (congrArg State.ports h :) (congrArg State.sups h :)

theorem State.peerRecorded_sup (site : Nat) (i : Stamp) : (s.peerRecorded t site i).sup t =
    (s.arrivedWith t (s.ownFrame site i) false (!s.ownFrame site i)).sup t := by
  have h := (s.peerRecorded_taken (t := t) site i).frame
  exact (congrArg (fun u : State => u.sup t) h :)

/-- A HEAD from the expected peer that is no start-over, as the lock, the flags and the state machine take it. -/
theorem State.headArrives_eq (hpeer : (s.port t).config.peer = some f.site.toNat) (h : ¬ s.startsOver t f.incarnation) :
    let v := s.peerRecorded t f.site.toNat f.incarnation
    let x := v.headLocks t f
    HeadTaken v x t ∧ State.headArrives t f s = State.setPrevHead (match (s.port t).state with
      | .hunt => if f.ready = true then x.aligned t else x
      | .down => x.setPort t { x.port t with state := .hunt }
      | _ => x) t (decide (f.align = 0x5E3AC691#32 ∧ 8 ≤ f.k.toNat ∧ f.k.toNat ≤ 32)) := by
  intro v x
  have hport := s.peerRecorded_port (t := t) f.site.toNat f.incarnation
  have htaken : HeadTaken v x t := v.headLocks_taken t f
  have hmoves := htaken.headMoves_taken (f := f)
  have hk : (v.matchingK t f).isSome = decide (f.align = 0x5E3AC691#32 ∧ 8 ≤ f.k.toNat ∧ f.k.toNat ≤ 32) := by
    rw [Bool.eq_iff_iff, State.matchingK_isSome (by rw [hport]; exact hpeer), decide_eq_true_eq]
    rfl
  refine ⟨htaken, (State.headArrives_stays hpeer h).trans ?_⟩
  rw [hport] at hmoves
  rw [hk]
  exact congrArg (State.setPrevHead · t _) hmoves

end

end Sys2Proof.Machine

/-! # HEAD_RECEIVED and the receive lock, settled -/

namespace Sys2Proof.Machine

section
variable {s : State} {t : Trunk} {k : Option Nat}

theorem exec_headReceived_off {f : HeadFrame} (h : (s.port t).state = .off) : exec (.headReceived t f) s = .next s :=
  congrArg _ (State.arrival_off _ h)

theorem exec_headReceived_test {f : HeadFrame} (h : (s.port t).state = .test) :
    exec (.headReceived t f) s = .next (s.countArrival t) :=
  congrArg _ (State.arrival_test _ h)

/-- Under no other incarnation than the one recorded, a peer does not start over. -/
theorem State.not_startsOver {i : Stamp} (h : (s.port t).recorded = none ∨ (s.port t).recorded = some i) :
    ¬ s.startsOver t i := fun ⟨_, hsome, hne⟩ => h.elim hsome hne

/-! ## The lock's table (R95, R98, R99) -/

/-- A head error below the third in a row. -/
theorem State.headError_below (hpos : (s.port t).lock.expected = some (s.port t).rxPos)
    (h : (s.port t).lock.headErrors + 1 < 3) : s.headError t = (s.headErrorCounted t).setPort t { s.port t with
      lock := { (s.port t).lock with
        headErrors := (s.port t).lock.headErrors + 1
        expected := some ((s.port t).rxPos + (s.port t).lock.remoteK.getD 0) } } := by
  rw [State.headError_kept h, hpos]
  rfl

theorem State.headErrorCounted_setPort (s : State) (t : Trunk) (q : Port) :
    (s.headErrorCounted t).setPort t q = { s.headErrorCounted t with ports := s.ports.set t q } := by
  rw [State.setPort, State.headErrorCounted_ports]

theorem State.lockArrival_failed (hheld : (s.port t).lock.held = true)
    (hpos : (s.port t).lock.expected = some (s.port t).rxPos) (h : k = none ∨ k ≠ (s.port t).lock.remoteK) :
    s.lockArrival t k = s.headError t :=
  State.lockArrival_fails hheld hpos (by
    rintro ⟨hsome, hsame⟩
    rcases h with hnone | hne
    · simp [hnone] at hsome
    · exact hne hsame)

/-- The third head error in a row ends the lock. -/
theorem State.lockLost (hheld : (s.port t).lock.held = true)
    (hpos : (s.port t).lock.expected = some (s.port t).rxPos) (h : k = none ∨ k ≠ (s.port t).lock.remoteK)
    (hthird : 3 ≤ (s.port t).lock.headErrors + 1) :
    let p := s.port t
    let w : State := { s.headErrorCounted t with
      ports := s.ports.set t { p with lock := ⟨false, none, none, 0, 0, p.lock.peerLocked⟩ } }
    (p.state ≠ .running → s.lockArrival t k = w)
    ∧ (p.state = .running → s.lockArrival t k = { w with
      ports := w.ports.set t { w.port t with state := .resync }
      sups := w.sups.set t { w.sup t with resync := some ⟨s.now, p.config.resyncTimeout * 1000000⟩ }
      sli := w.sli.latchTrunk t .resync true }) := by
  intro p w
  have hw : (s.headErrorCounted t).setPort t { p with lock := p.lock.lost } = w := State.headErrorCounted_setPort _ _ _
  rw [State.lockArrival_failed hheld hpos h]
  refine ⟨fun hstate => ?_, fun hstate => ?_⟩
  · rw [State.headError_lost (by omega) hstate, hw]
  · have hport : w.port t = { p with lock := p.lock.lost } := Quad.get_set_self _ _ _
    have htimer : timerMs w.now p.config.resyncTimeout = ⟨s.now, p.config.resyncTimeout * 1000000⟩ := by
      rw [show w.now = s.now from s.headErrorCounted_now t]
      rfl
    rw [State.headError_resync (by omega) hstate, hw, State.enterResync, hport]
    show State.latchTrunk (State.setSup _ t { w.sup t with resync := some (timerMs w.now p.config.resyncTimeout) }) t .resync = _
    rw [htimer]
    rfl

/-! ## What a HEAD leaves of the port and the supervisor -/

theorem State.aligned_port (s : State) (t : Trunk) : (s.aligned t).port t = { s.port t with
    state := .align, alignCycle := 0, alignDelay := (s.port t).config.alignDelay, headCycles := 0 } := Quad.get_set_self _ _ _

theorem State.aligned_sup (s : State) (t : Trunk) : (s.aligned t).sup t =
    { s.sup t with resync := some ⟨s.now, (s.port t).config.resyncTimeout * 1000000⟩ } := Quad.get_set_self _ _ _

theorem State.setPrevHead_port (s : State) (t : Trunk) (b : Bool) :
    (s.setPrevHead t b).port t = { s.port t with prevHead := b } := Quad.get_set_self _ _ _

theorem State.setPrevHead_written (w : State) (t : Trunk) (q : Port) (x : Sli) (b : Bool) :
    State.setPrevHead { w with ports := w.ports.set t q, sli := x } t b =
      { w with ports := w.ports.set t { q with prevHead := b }, sli := x } := by
  simp [State.setPrevHead, State.setPort, State.port]

theorem State.setPrevHead_sup (s : State) (t : Trunk) (b : Bool) : (s.setPrevHead t b).sup t = s.sup t := rfl

/-- The state machine's part of a HEAD, and the mark of a matching one. -/
def State.headMoved (x : State) (t : Trunk) (st : TrunkState) (ready b : Bool) : State :=
  State.setPrevHead (match st with
    | .hunt => if ready = true then x.aligned t else x
    | .down => x.setPort t { x.port t with state := .hunt }
    | _ => x) t b

theorem State.headMoved_aligns (x : State) (t : Trunk) (b : Bool) :
    x.headMoved t .hunt true b = (x.aligned t).setPrevHead t b := rfl

theorem State.headMoved_wakes (x : State) (t : Trunk) (ready b : Bool) :
    x.headMoved t .down ready b = x.setPort t { x.port t with state := .hunt, prevHead := b } := by
  show State.setPrevHead (x.setPort t { x.port t with state := .hunt }) t b = _
  simp [State.setPrevHead, State.setPort, State.port]

theorem State.headMoved_stays {x : State} {t : Trunk} {st : TrunkState} {ready : Bool} (b : Bool)
    (h : ¬ (st = .hunt ∧ ready = true) ∧ st ≠ .down) : x.headMoved t st ready b = x.setPrevHead t b := by
  cases st with
  | hunt => exact congrArg (State.setPrevHead · t b) (if_neg fun hr => h.1 ⟨rfl, hr⟩)
  | down => exact absurd rfl h.2
  | _ => rfl

theorem State.headMoved_spec {x : State} {t : Trunk} {st : TrunkState} (ready b : Bool) : (x.port t).state = st →
    x.headMoved t st ready b = { x with ports := (x.headMoved t st ready b).ports, sups := (x.headMoved t st ready b).sups }
    ∧ ((x.headMoved t st ready b).port t).recorded = (x.port t).recorded
    ∧ ((x.headMoved t st ready b).port t).rxPos = (x.port t).rxPos
    ∧ ((x.headMoved t st ready b).port t).state = (match st, ready with
      | .hunt, true => .align
      | .down, _ => .hunt
      | st, _ => st) := by
  intro hst
  have hkept : ∀ {ready}, x.headMoved t st ready b = x.setPrevHead t b →
      x.headMoved t st ready b = { x with
        ports := (x.headMoved t st ready b).ports, sups := (x.headMoved t st ready b).sups }
      ∧ ((x.headMoved t st ready b).port t).recorded = (x.port t).recorded
      ∧ ((x.headMoved t st ready b).port t).rxPos = (x.port t).rxPos
      ∧ ((x.headMoved t st ready b).port t).state = st := by
    intro ready h
    rw [h, State.setPrevHead_port]
    exact ⟨rfl, rfl, rfl, hst⟩
  cases st with
  | hunt =>
    cases ready with
    | true =>
      rw [State.headMoved_aligns, State.setPrevHead_port, State.aligned_port]
      exact ⟨rfl, rfl, rfl, rfl⟩
    | false => exact hkept rfl
  | down =>
    rw [State.headMoved_wakes]
    have hport : (x.setPort t { x.port t with state := .hunt, prevHead := b }).port t = _ := Quad.get_set_self _ _ _
    rw [hport]
    exact ⟨rfl, rfl, rfl, rfl⟩
  | _ => exact hkept rfl

theorem HeadTaken.sup {v x : State} (h : HeadTaken v x t) : ∃ n r, x.sup t =
    { v.sup t with counters := { (v.sup t).counters with headError := n }, resync := r } := by
  obtain ⟨n, r, hsups⟩ := h.sups
  exact ⟨n, r, by rw [State.sup, hsups, Quad.get_set_self]⟩

/-- The first matching HEAD in HUNT begins a candidate run, and its LOCKED flag and cycle number are taken. -/
theorem State.headLocks_begins {v : State} {f : HeadFrame} (hpeer : (v.port t).config.peer = some f.site.toNat)
    (hstate : (v.port t).state = .hunt) (hfits : headFits f) (hheld : (v.port t).lock.held = false)
    (hrun : (v.port t).lock.run = 0) :
    ((v.headLocks t f).port t).lock = ⟨false, some f.k.toNat, some ((v.port t).rxPos + f.k.toNat), 1,
      (v.port t).lock.headErrors, f.locked⟩
    ∧ ((v.headLocks t f).port t).lastCycle = f.cycle.toNat := by
  have hlocks : (v.port t).state ∈ [TrunkState.hunt, .align, .running, .resync] := by simp [hstate]
  have hseek : (v.port t).lock.seek (v.port t).rxPos (some f.k.toNat) = { (v.port t).lock with
      run := 1, remoteK := some f.k.toNat, expected := some ((v.port t).rxPos + f.k.toNat) } :=
    Lock.seek_begins (by simp [hrun])
  have harrives := State.lockArrival_seeks (s := v) (t := t) (k := some f.k.toNat) (by simp [hheld]) (by simp [hstate])
    (by simp [hstate])
  rw [hseek] at harrives
  have hx := State.headLocks_eq v hpeer
  dsimp only at hx
  have hmatches : f.align = 0x5E3AC691#32 ∧ 8 ≤ f.k.toNat ∧ f.k.toNat ≤ 32 := hfits
  rw [if_pos ⟨hlocks, hmatches⟩, if_pos hlocks, if_pos hmatches, harrives] at hx
  have hheld : (v.ports.get t).lock.held = false := hheld
  rw [hx]
  simp [State.port, State.setPort, hheld]

end

/-- Settles O46: a HEAD by its sender and by whether its incarnation is the recorded one; the lock case by case. -/
theorem headReceivedAndLock : Obligations.HeadReceivedAndLock := by
  refine ⟨fun s t f h => exec_headReceived_off h, fun s t f h => exec_headReceived_test h, ?aligns, ?quiet, ?startsOver,
    ?changed, ?general, ?stranger, ?lockTaken, fun x alarm => ⟨AlarmFilter.take_same, AlarmFilter.take_run,
      AlarmFilter.take_flip⟩, fun x pos k => Lock.seek_goes_on, fun x pos k => Lock.seek_begins, fun x pos => rfl, ?lock⟩
  case aligns =>
    intro s t f hstate hpeer hready hrecorded
    have hstays : ¬ s.startsOver t f.incarnation := fun h => by simpa [hstate] using h.1
    obtain ⟨htaken, heq⟩ := State.headArrives_eq hpeer hstays
    have hv := s.peerRecorded_port (t := t) f.site.toNat f.incarnation
    have hvsup := s.peerRecorded_sup (t := t) f.site.toNat f.incarnation
    have hvframe := State.peerRecorded_same (s := s) (t := t) f.site.toNat hrecorded
    have hothers := htaken.others (s.peerRecorded_others (t := t) f.site.toNat f.incarnation)
    have hbegins := State.headLocks_begins (v := s.peerRecorded t f.site.toNat f.incarnation) (t := t) (f := f)
    rw [State.arrivedWith_sup] at hvsup
    rw [hv] at hbegins
    rw [hstate] at heq
    have heq := heq.trans (congrArg (State.setPrevHead · t _) (if_pos hready))
    obtain ⟨l, n, a, hport⟩ := htaken.port
    obtain ⟨m, c, hsup⟩ := htaken.sup
    have hframe := htaken.frame
    generalize (s.peerRecorded t f.site.toNat f.incarnation).headLocks t f = x at *
    have hframe : x = { s with ports := x.ports, sups := x.sups, sli := x.sli } := by
      rw [hvframe] at hframe
      exact hframe
    rw [hv] at hport
    rw [hvsup] at hsup
    have hnow : x.now = s.now := (congrArg State.now hframe :)
    refine ⟨_, (exec_headReceived (by simp [hstate]) (by simp [hstate])).trans (congrArg _ heq), ?_, ?_, ?_, ?_, ?_, ?_, ?_, ?_,
      ?_, ?_, fun halign hlow hhigh hheld hrun => ?_, fun v hv => ?_, hnow, (congrArg State.clock hframe :),
      (congrArg State.buckets hframe :), (congrArg State.journal hframe :), (congrArg State.map hframe :),
      (congrArg State.apply hframe :)⟩
    · rw [State.setPrevHead_port, State.aligned_port]
    · rw [State.setPrevHead_port, State.aligned_port, hport]
    · rw [State.setPrevHead_port, State.aligned_port, hport]
    · rw [State.setPrevHead_port, State.aligned_port]
    · rw [State.setPrevHead_port, State.aligned_port]
    · rw [State.setPrevHead_sup, State.aligned_sup, hport, hnow]
    · rw [State.setPrevHead_port, State.aligned_port, hport]
    · rw [State.setPrevHead_port, State.aligned_port, hport]
    · rw [State.setPrevHead_sup, State.aligned_sup, hsup]
    · rw [State.setPrevHead_sup, State.aligned_sup, hsup]
    · rw [State.setPrevHead_port, State.aligned_port]
      exact hbegins hpeer hstate ⟨halign, hlow, hhigh⟩ hheld hrun
    · exact ((hothers.setPort (w := { x with ports := (x.aligned t).ports }) rfl rfl).setSup (w := x.aligned t) rfl rfl).setPort
        (w := (x.aligned t).setPrevHead t _) rfl rfl v hv
  case quiet =>
    intro s t f hstate hpeer hrecorded looped s1
    have hlocks : (s.port t).state ∉ [TrunkState.hunt, .align, .running, .resync] := by
      rcases hstate with h | h
      · simp [h]
      · simp [h]
    have hstays := State.not_startsOver (t := t) hrecorded
    obtain ⟨-, heq⟩ := State.headArrives_eq hpeer hstays
    have hv := s.peerRecorded_port (t := t) f.site.toNat f.incarnation
    have hx := State.headLocks_eq (f := f) (s.peerRecorded t f.site.toNat f.incarnation) (t := t) (by rw [hv]; exact hpeer)
    rw [hv] at hx
    dsimp only at hx
    rw [if_neg fun h => hlocks h.1, if_neg hlocks] at hx
    have hrec : (s1.port t).recorded = (s.port t).recorded := by rw [State.arrivedWith_port]
    have htaken : s.peerRecorded t f.site.toNat f.incarnation = s1.setPort t { s1.port t with recorded := some f.incarnation } :=
      State.incarnationTaken_same (s := s1) (by rw [hrec]; exact hrecorded)
    have hstate1 : (s1.port t).state = (s.port t).state := by rw [State.arrivedWith_port]
    rw [hx, htaken] at heq
    refine (exec_headReceived (by rcases hstate with h | h <;> simp [h]) (by rcases hstate with h | h <;> simp [h])).trans
      (congrArg _ (heq.trans ?_))
    rcases hstate with h | h
    · rw [h]
      simp [State.setPrevHead, State.setPort, State.port]
    · have hfaulted : (s1.ports.get t).state = .faulted := hstate1.trans h
      rw [h]
      simp [State.setPrevHead, State.setPort, State.port, hfaulted]
  case startsOver =>
    intro s t f r hup hpeer hr hne hwf
    have hstarts : s.startsOver t f.incarnation := ⟨hup, by simp [hr], by simp [hr, hne]⟩
    have hport := s.peerRecorded_port (t := t) f.site.toNat f.incarnation
    obtain ⟨hstate, hrecorded, hstore, hstats, -⟩ := (s.peerRecorded t f.site.toNat f.incarnation).startedOver_port t
    rw [hport] at hrecorded hstats
    have hcleared : InboundCleared s ((s.peerRecorded t f.site.toNat f.incarnation).startedOver t) t :=
      (State.startsOver_cleared (s := s.arrivedWith t _ false _) (by rw [State.arrivedWith_port]; simp [hr, hne]) hwf).ofArrived
    refine ⟨_, (exec_headReceived (by rintro h; simp [h] at hup) (by rintro h; simp [h] at hup)).trans
      (congrArg _ (State.headArrives_restarts hpeer hstarts)), hstate, hrecorded, hstore, by rw [hstats], hcleared,
      fun b hb => ?_⟩
    rw [hcleared.records b hb]
    exact ⟨rfl, rfl, List.length_map _⟩
  case changed =>
    intro s t f r hstate hpeer hr hne hwf
    have hstays : ¬ s.startsOver t f.incarnation := fun h => by
      have := h.1
      generalize (s.port t).state = st at *
      rcases this with h | h
      · simp [h] at hstate
      · simp [h] at hstate
    obtain ⟨htaken, heq⟩ := State.headArrives_eq hpeer hstays
    have hv := s.peerRecorded_port (t := t) f.site.toNat f.incarnation
    obtain ⟨hframe, -, hchanged⟩ := s.peerRecorded_taken (t := t) f.site.toNat f.incarnation
    obtain ⟨hcleared, -⟩ := hchanged r (by rw [State.arrivedWith_port]; exact hr) hne hwf
    have hcleared := hcleared.ofArrived
    obtain ⟨l, n, a, hport⟩ := htaken.port
    have hxframe := htaken.frame
    have hkeeps := htaken.stays
    rw [hv] at hport hkeeps
    have hstate' : ((State.headLocks (s.peerRecorded t f.site.toNat f.incarnation) t f).port t).state = (s.port t).state :=
      hkeeps (by rintro h; simp [show (s.port t).state = _ from h] at hstate) (by rintro h; simp [show (s.port t).state = _ from h] at hstate)
    rw [hstate'] at hport
    generalize (s.peerRecorded t f.site.toNat f.incarnation).headLocks t f = x at *
    generalize s.peerRecorded t f.site.toNat f.incarnation = v at *
    have heq : State.headArrives t f s = x.headMoved t (s.port t).state f.ready _ := heq
    have hexec := (exec_headReceived (f := f) (by rintro h; simp [h] at hstate) (by rintro h; simp [h] at hstate)).trans
      (congrArg _ heq)
    obtain ⟨hblocks, hrecorded, hpos, hmoved⟩ := State.headMoved_spec f.ready
      (decide (f.align = 0x5E3AC691#32 ∧ 8 ≤ f.k.toNat ∧ f.k.toNat ≤ 32)) hstate'
    generalize x.headMoved t (s.port t).state f.ready _ = u at *
    rw [hframe] at hxframe
    rw [hxframe] at hblocks
    rw [hport] at hrecorded hpos
    refine ⟨u, hexec, hrecorded, hpos, hcleared.congr (congrArg State.apply hblocks :) (congrArg State.body hblocks :)
      (congrArg State.map hblocks :), hmoved, (congrArg State.now hblocks :), (congrArg State.clock hblocks :),
      (congrArg State.buckets hblocks :), (congrArg State.journal hblocks :)⟩
  case general =>
    intro s t f hoff htest hpeer p looped matching locks restarts
    have hport := s.peerRecorded_port (t := t) f.site.toNat f.incarnation
    refine ⟨s.peerRecorded t f.site.toNat f.incarnation, s.peerRecorded_taken _ _, fun hrestarts => ?_, fun hstays => ?_⟩
    · exact (exec_headReceived hoff htest).trans (congrArg _ (State.headArrives_restarts hpeer hrestarts))
    · intro w y x z
      obtain ⟨-, heq⟩ := State.headArrives_eq hpeer hstays
      have hx := State.headLocks_eq (f := f) (s.peerRecorded t f.site.toNat f.incarnation) (t := t) (by rw [hport]; exact hpeer)
      rw [hport] at hx
      have hx : (s.peerRecorded t f.site.toNat f.incarnation).headLocks t f = x := hx
      rw [hx] at heq
      exact (exec_headReceived hoff htest).trans (congrArg _ heq)
  case stranger =>
    intro s t f hoff htest hpeer
    refine ⟨_, (exec_headReceived hoff htest).trans (congrArg _ (State.headArrives_stranger hpeer)), rfl, ?_⟩
    obtain ⟨l, hport⟩ := State.passedLock_port (s.arrivedWith t (s.ownFrame f.site.toNat f.incarnation)
      (!(s.clock.site == some f.site.toNat)) false) t
    obtain ⟨n, r, hsup⟩ := State.passedLock_sup (s.arrivedWith t (s.ownFrame f.site.toNat f.incarnation)
      (!(s.clock.site == some f.site.toNat)) false) t
    rw [State.arrivedWith_port] at hport
    rw [State.arrivedWith_sup] at hsup
    rw [hport, hsup]
    exact ⟨rfl, rfl, rfl, rfl, Bool.or_false _, rfl, rfl⟩
  case lockTaken =>
    intro s t f hstate hpeer hrecorded p x looped s1 matching
    have hlocks : (s.port t).state ∈ [TrunkState.hunt, .align, .running, .resync] := by
      rcases hstate with h | h
      · exact List.mem_cons_of_mem _ h
      · rw [h.1]
        exact List.mem_cons_self
    have hstaysPut : ¬ ((s.port t).state = .hunt ∧ f.ready = true) ∧ (s.port t).state ≠ .down := by
      rcases hstate with h | h
      · exact ⟨fun h' => by simp [h'.1] at h, fun h' => by simp [h'] at h⟩
      · exact ⟨fun h' => by simp [h.2] at h', fun h' => by simp [h'] at h⟩
    have hstays := State.not_startsOver (t := t) hrecorded
    have hv : s.peerRecorded t f.site.toNat f.incarnation = s1 := State.peerRecorded_same f.site.toNat hrecorded
    have hvport := s.peerRecorded_port (t := t) f.site.toNat f.incarnation
    obtain ⟨-, heq⟩ := State.headArrives_eq hpeer hstays
    have hx := State.headLocks_eq (f := f) (s.peerRecorded t f.site.toNat f.incarnation) (t := t) (by rw [hvport]; exact hpeer)
    rw [hvport] at hx
    rw [hv] at hx heq
    dsimp only at hx
    have hexec := (exec_headReceived (f := f) (by rintro h; simp [h] at hlocks) (by rintro h; simp [h] at hlocks)).trans
      (congrArg _ (heq.trans (State.headMoved_stays _ hstaysPut)))
    refine ⟨fun hnot => ?_, fun hmatching => ?_⟩
    · rw [if_neg fun h => hnot h.2, if_pos hlocks, if_neg hnot] at hx
      rw [hx, decide_eq_false hnot] at hexec
      exact hexec
    · rw [if_pos ⟨hlocks, hmatching⟩, if_pos hlocks, if_pos hmatching] at hx
      rw [hx, decide_eq_true hmatching] at hexec
      exact hexec.trans (congrArg _ (State.setPrevHead_written _ t _ _ true))
  case lock =>
    intro s t k p x v
    refine ⟨State.lockArrival_elsewhere, fun hheld hpos hsome hsame => State.lockArrival_matches hheld hpos ⟨hsome, hsame⟩,
      fun hheld hpos hfails hbelow => ?_, fun hheld hpos hfails hthird => ?_, fun hheld hstate => ?_,
      fun hheld hstate hrun => State.lockArrival_seeks_resync (by simp [show (s.port t).lock.held = false from hheld]) hstate hrun,
      fun hheld hstate hrun => ?_⟩
    · rw [State.lockArrival_failed hheld hpos hfails, State.headError_below hpos hbelow, State.headErrorCounted_setPort]
      have hport : State.port { s.headErrorCounted t with ports := s.ports.set t { p with lock := { x with
          headErrors := x.headErrors + 1, expected := some (p.rxPos + x.remoteK.getD 0) } } } t = _ := Quad.get_set_self _ _ _
      rw [hport]
      exact ⟨rfl, rfl, rfl⟩
    · obtain ⟨helse, hrunning⟩ := State.lockLost hheld hpos hfails hthird
      by_cases hstate : p.state = .running
      · have hall := hrunning hstate
        have hport := congrArg (State.port · t) hall
        have hsup := congrArg (State.sup · t) hall
        refine ⟨?_, ?_, fun _ => ⟨?_, ?_⟩, helse, hrunning⟩
        · exact (congrArg Port.lock hport).trans (by simp [State.port, p, x])
        · rw [if_pos hstate]
          exact (congrArg Port.state hport).trans (by simp [State.port])
        · exact (congrArg Supervisor.resync hsup).trans (by simp [State.sup, p])
        · rw [hall]
          exact Sli.latchTrunk_set _ t .resync true
      · have hport := congrArg (State.port · t) (helse hstate)
        refine ⟨?_, ?_, fun h => absurd h hstate, helse, hrunning⟩
        · exact (congrArg Port.lock hport).trans (by simp [State.port, p, x])
        · rw [if_neg hstate]
          exact (congrArg Port.state hport).trans (by simp [State.port, p])
    · have hoff : ¬ (s.port t).lock.held = true := by simp [show (s.port t).lock.held = false from hheld]
      have hstate : (s.port t).state = .hunt ∨ (s.port t).state = .align := hstate
      exact State.lockArrival_seeks hoff (fun h => by simp [h] at hstate) (fun h => by simp [h] at hstate)
    · rw [State.lockArrival_regains (by simp [show (s.port t).lock.held = false from hheld]) hstate hrun, State.regainRunning]
      simp [State.setPort, State.setSup, State.port, State.sup, p, x]

end Sys2Proof.Machine

/-! # FILL and PROBE frames (R82, R92 to R94, R100, R102, R103, R160) -/

namespace Sys2Proof.Machine

/-! ## What the state machine makes of a FILL and of a PROBE -/

/-- The trunk is in a state, and a frame of its peer has been heard. -/
def State.heardIn (u : State) (t : Trunk) (st : TrunkState) : State :=
  { u with ports := u.ports.set t { u.port t with state := st, heard := true } }

/-- A FILL from the expected peer, by the state before it. -/
def State.fillMoved (u : State) (t : Trunk) (st : TrunkState) (ready starts : Bool) : State :=
  match st with
  | .hunt => if ready = true then u.aligned t else u
  | .down => u.heardIn t .hunt
  | .faulted => u.heardIn t .faulted
  | .align => u
  | _ => if starts = true then u.startedOver t else u

/-- A PROBE from the expected peer, by the state before it. -/
def State.probeMoved (u : State) (t : Trunk) (st : TrunkState) : State :=
  match st with
  | .hunt => u.heardIn t .hunt
  | .down => u.heardIn t .hunt
  | .faulted => u.heardIn t .faulted
  | _ => u

/-- The peer-hears flag set. -/
def State.hearing (u : State) (t : Trunk) (heard : Bool) : State :=
  { u with ports := u.ports.set t { u.port t with peerHears := heard } }

section
variable {u : State} {t : Trunk} {st : TrunkState}

theorem State.heardIn_port (u : State) (t : Trunk) (st : TrunkState) :
    (u.heardIn t st).port t = { u.port t with state := st, heard := true } := Quad.get_set_self _ _ _

theorem State.hearing_port (u : State) (t : Trunk) (heard : Bool) :
    (u.hearing t heard).port t = { u.port t with peerHears := heard } := Quad.get_set_self _ _ _

theorem State.setHeard_eq (h : (u.port t).state = st) : u.setHeard t = u.heardIn t st := by
  subst h
  rfl

theorem State.setHeard_downToHunt (u : State) (t : Trunk) : (u.setHeard t).downToHunt t = u.heardIn t .hunt := by
  simp [State.setHeard, State.downToHunt, State.heardIn, State.setPort, State.port]

/-- Behind the report and the lock, a state but RUNNING and RESYNC is the one before. -/
theorem State.fillMoves_settled (f : FillFrame) {behind : Bool} (h : (u.port t).state = st) (hoff : st ≠ .off)
    (htest : st ≠ .test) (hup : st.up = false) (starts : Bool) :
    u.fillMoves t f behind = u.fillMoved t st f.ready starts := by
  have hmoves : ∀ st', (u.port t).state = st' → u.fillMoves t f behind = match st' with
      | .hunt => if f.ready then u.enterAlign t else u
      | .down => (u.setHeard t).downToHunt t
      | .faulted => u.setHeard t
      | _ => if (u.port t).startOver behind then u.protocolRestart t else u := by
    intro st' hst
    subst hst
    rfl
  refine (hmoves st h).trans ?_
  cases st with
  | off => exact absurd rfl hoff
  | test => exact absurd rfl htest
  | running => exact absurd hup (by decide)
  | resync => exact absurd hup (by decide)
  | align => exact if_neg (by simp [Port.startOver, h, TrunkState.up])
  | hunt => rfl
  | down => exact State.setHeard_downToHunt u t
  | faulted => exact State.setHeard_eq h

theorem State.fillMoves_up (f : FillFrame) {behind : Bool} (h : (u.port t).state = .running ∨ (u.port t).state = .resync)
    (hst : st.up = true) :
    u.fillMoves t f behind = u.fillMoved t st f.ready (behind && (u.port t).peerSeenRunning) := by
  have hmoves : u.fillMoves t f behind = if (u.port t).startOver behind then u.protocolRestart t else u := by
    unfold State.fillMoves
    rcases h with h | h
    · rw [h]
    · rw [h]
  have hstarts : (u.port t).startOver behind = (behind && (u.port t).peerSeenRunning) := by
    rw [Port.startOver, (TrunkState.up_iff _).2 h, Bool.true_and]
  rw [hmoves, hstarts]
  rcases (TrunkState.up_iff _).1 hst with hst | hst
  · subst hst
    rfl
  · subst hst
    rfl

theorem State.probeMoves_settled (h : (u.port t).state = st) : u.probeMoves t = u.probeMoved t st := by
  have hmoves : ∀ st', (u.port t).state = st' → u.probeMoves t = match st' with
      | .hunt => u.setHeard t
      | .down => (u.setHeard t).downToHunt t
      | .faulted => u.setHeard t
      | _ => u := by
    intro st' hst
    subst hst
    rfl
  refine (hmoves st h).trans ?_
  cases st with
  | hunt => exact State.setHeard_eq h
  | down => exact State.setHeard_downToHunt u t
  | faulted => exact State.setHeard_eq h
  | _ => rfl

theorem State.probeMoves_up (h : (u.port t).state = .running ∨ (u.port t).state = .resync) (hst : st.up = true) :
    u.probeMoves t = u.probeMoved t st := by
  have hmoved : u.probeMoved t st = u := by
    rcases (TrunkState.up_iff _).1 hst with hst | hst
    · subst hst
      rfl
    · subst hst
      rfl
  rw [hmoved]
  unfold State.probeMoves
  rcases h with h | h
  · rw [h]
  · rw [h]

/-- Setting peer-hears first or last makes no difference. -/
theorem State.probeMoved_hearing (u : State) (t : Trunk) (st : TrunkState) (heard : Bool) :
    (u.hearing t heard).probeMoved t st = (u.probeMoved t st).hearing t heard := by
  have hswap : ∀ st', (u.hearing t heard).heardIn t st' = (u.heardIn t st').hearing t heard := by
    intro st'
    simp [State.hearing, State.heardIn, State.port]
  cases st with
  | hunt => exact hswap .hunt
  | down => exact hswap .hunt
  | faulted => exact hswap .faulted
  | _ => rfl

/-- A FILL changes no more of the port behind the lock than the state machine's fields, and of the rest nothing that has
to do with time, clock or targets. -/
theorem State.fillMoved_leaves (u : State) (t : Trunk) (st : TrunkState) (ready starts : Bool)
    (hprev : (u.port t).prevHead = false) :
    ((u.fillMoved t st ready starts).port t).recorded = (u.port t).recorded
    ∧ ((u.fillMoved t st ready starts).port t).rxPos = (u.port t).rxPos
    ∧ ((u.fillMoved t st ready starts).port t).prevHead = false
    ∧ (u.fillMoved t st ready starts).now = u.now ∧ (u.fillMoved t st ready starts).clock = u.clock
    ∧ (u.fillMoved t st ready starts).buckets = u.buckets := by
  have hheard : ∀ st', ((u.heardIn t st').port t).recorded = (u.port t).recorded
      ∧ ((u.heardIn t st').port t).rxPos = (u.port t).rxPos ∧ ((u.heardIn t st').port t).prevHead = false
      ∧ (u.heardIn t st').now = u.now ∧ (u.heardIn t st').clock = u.clock ∧ (u.heardIn t st').buckets = u.buckets := by
    intro st'
    rw [State.heardIn_port]
    exact ⟨rfl, rfl, hprev, rfl, rfl, rfl⟩
  have hover : ((if starts = true then u.startedOver t else u).port t).recorded = (u.port t).recorded
      ∧ ((if starts = true then u.startedOver t else u).port t).rxPos = (u.port t).rxPos
      ∧ ((if starts = true then u.startedOver t else u).port t).prevHead = false
      ∧ (if starts = true then u.startedOver t else u).now = u.now
      ∧ (if starts = true then u.startedOver t else u).clock = u.clock
      ∧ (if starts = true then u.startedOver t else u).buckets = u.buckets := by
    cases starts with
    | false => exact ⟨rfl, rfl, hprev, rfl, rfl, rfl⟩
    | true =>
      obtain ⟨-, hrecorded, -, -, hpos, hprev⟩ := u.startedOver_port t
      exact ⟨hrecorded, hpos, hprev, State.trunkRestart_now _ _ _ _, State.trunkRestart_clock _ _ _ _,
        State.trunkRestart_buckets _ _ _ _⟩
  cases st with
  | hunt =>
    cases ready with
    | true =>
      show ((u.aligned t).port t).recorded = _ ∧ ((u.aligned t).port t).rxPos = _ ∧ ((u.aligned t).port t).prevHead = _ ∧ _
      rw [State.aligned_port]
      exact ⟨rfl, rfl, hprev, rfl, rfl, rfl⟩
    | false => exact ⟨rfl, rfl, hprev, rfl, rfl, rfl⟩
  | align => exact ⟨rfl, rfl, hprev, rfl, rfl, rfl⟩
  | down => exact hheard .hunt
  | faulted => exact hheard .faulted
  | _ => exact hover

/-- A PROBE changes the state and the heard mark of the port, and nothing else. -/
theorem State.probeMoved_leaves (u : State) (t : Trunk) (st : TrunkState) :
    (∃ st' b, (u.probeMoved t st).port t = { u.port t with state := st', heard := b })
    ∧ u.probeMoved t st = { u with ports := (u.probeMoved t st).ports } := by
  have hheard : ∀ st', (∃ st'' b, (u.heardIn t st').port t = { u.port t with state := st'', heard := b })
      ∧ u.heardIn t st' = { u with ports := (u.heardIn t st').ports } := fun st' => ⟨⟨_, _, u.heardIn_port t st'⟩, rfl⟩
  cases st with
  | hunt => exact hheard .hunt
  | down => exact hheard .hunt
  | faulted => exact hheard .faulted
  | _ => exact ⟨⟨_, _, rfl⟩, rfl⟩

end

/-! ## A FILL and a PROBE by their sender -/

section
variable {s : State} {t : Trunk} {f : FillFrame} {g : ProbeFrame}

theorem exec_fillReceived (hoff : (s.port t).state ≠ .off) (htest : (s.port t).state ≠ .test) :
    exec (.fillReceived t f) s = .next (State.fillArrives t f s) := congrArg _ (State.arrival_eq s t _ hoff htest)

theorem exec_probeReceived (hoff : (s.port t).state ≠ .off) (htest : (s.port t).state ≠ .test) :
    exec (.probeReceived t g) s = .next (State.probeArrives t g s) := congrArg _ (State.arrival_eq s t _ hoff htest)

theorem State.fillArrives_stranger (hpeer : (s.port t).config.peer ≠ some f.site.toNat) :
    State.fillArrives t f s = (s.arrivedWith t (s.ownFrame f.site.toNat f.incarnation)
      (!(s.clock.site == some f.site.toNat)) false).passedLock t := by
  unfold State.fillArrives
  dsimp only
  rw [State.reported_stranger hpeer, if_neg fun h => hpeer ((State.arrivedWith_fromPeer _ _ _).1 h), State.otherArrival_eq]

theorem State.probeArrives_stranger (hpeer : (s.port t).config.peer ≠ some g.site.toNat) :
    State.probeArrives t g s = (s.arrivedWith t (s.ownFrame g.site.toNat g.incarnation)
      (!(s.clock.site == some g.site.toNat)) false).passedLock t := by
  unfold State.probeArrives
  dsimp only
  rw [State.reported_stranger hpeer, if_neg fun h => hpeer ((State.arrivedWith_fromPeer _ _ _).1 h), State.otherArrival_eq]

theorem State.fillArrives_restarts (hpeer : (s.port t).config.peer = some f.site.toNat) (h : s.startsOver t f.incarnation) :
    State.fillArrives t f s = (s.peerRecorded t f.site.toNat f.incarnation).startedOver t := by
  unfold State.fillArrives
  dsimp only
  rw [State.reported_peer hpeer, if_pos ((State.arrivedWith_fromPeer _ _ _).2 hpeer), State.peerFill,
    State.incarnationCheck_restarts ((State.arrivedWith_startsOver _ _ _).2 h)]
  rfl

theorem State.probeArrives_restarts (hpeer : (s.port t).config.peer = some g.site.toNat) (h : s.startsOver t g.incarnation) :
    State.probeArrives t g s = ((s.peerRecorded t g.site.toNat g.incarnation).startedOver t).hearing t g.heard := by
  unfold State.probeArrives
  dsimp only
  rw [State.reported_peer hpeer, if_pos ((State.arrivedWith_fromPeer _ _ _).2 hpeer), State.peerProbe,
    State.incarnationCheck_restarts ((State.arrivedWith_startsOver _ _ _).2 h)]
  rfl

theorem State.fillArrives_stays (hoff : (s.port t).state ≠ .off) (htest : (s.port t).state ≠ .test)
    (hpeer : (s.port t).config.peer = some f.site.toNat) (h : ¬ s.startsOver t f.incarnation) :
    State.fillArrives t f s = ((s.peerRecorded t f.site.toNat f.incarnation).passedLock t).fillMoved t (s.port t).state
      f.ready ((s.port t).prevHead && (s.port t).peerSeenRunning) := by
  have harrives : State.fillArrives t f s = ((s.peerRecorded t f.site.toNat f.incarnation).passedLock t).fillMoves t f
      ((s.peerRecorded t f.site.toNat f.incarnation).port t).prevHead := by
    unfold State.fillArrives
    dsimp only
    rw [State.reported_peer hpeer, if_pos ((State.arrivedWith_fromPeer _ _ _).2 hpeer), State.peerFill,
      State.incarnationCheck_stays fun h' => h ((State.arrivedWith_startsOver _ _ _).1 h'), State.otherArrival_eq]
    rfl
  have hport := s.peerRecorded_port (t := t) f.site.toNat f.incarnation
  rw [harrives]
  generalize s.peerRecorded t f.site.toNat f.incarnation = v at *
  obtain ⟨hstays, hup⟩ := v.passedLock_state t
  obtain ⟨l, hpassed⟩ := v.passedLock_port t
  have hseen : ((v.passedLock t).port t).peerSeenRunning = (s.port t).peerSeenRunning := by rw [hpassed, hport]
  have hprev : (v.port t).prevHead = (s.port t).prevHead := by rw [hport]
  rw [hport] at hstays hup
  rw [hprev]
  by_cases hrun : (s.port t).state.up = true
  · rw [State.fillMoves_up f (hup ((TrunkState.up_iff _).1 hrun)) hrun, hseen]
  · have hnot := fun h' => hrun ((TrunkState.up_iff _).2 h')
    exact State.fillMoves_settled f (hstays (fun h' => hnot (.inl h')) fun h' => hnot (.inr h')) hoff htest
      (by simpa using hrun) _

theorem State.probeArrives_stays (hpeer : (s.port t).config.peer = some g.site.toNat) (h : ¬ s.startsOver t g.incarnation) :
    State.probeArrives t g s =
      (((s.peerRecorded t g.site.toNat g.incarnation).passedLock t).probeMoved t (s.port t).state).hearing t g.heard := by
  have harrives : State.probeArrives t g s =
      (((s.peerRecorded t g.site.toNat g.incarnation).passedLock t).hearing t g.heard).probeMoves t := by
    unfold State.probeArrives
    dsimp only
    rw [State.reported_peer hpeer, if_pos ((State.arrivedWith_fromPeer _ _ _).2 hpeer), State.peerProbe,
      State.incarnationCheck_stays fun h' => h ((State.arrivedWith_startsOver _ _ _).1 h'), State.otherArrival_eq]
    rfl
  have hport := s.peerRecorded_port (t := t) g.site.toNat g.incarnation
  rw [harrives, ← State.probeMoved_hearing]
  generalize s.peerRecorded t g.site.toNat g.incarnation = v at *
  obtain ⟨hstays, hup⟩ := v.passedLock_state t
  have hstate : (((v.passedLock t).hearing t g.heard).port t).state = ((v.passedLock t).port t).state := by
    rw [State.hearing_port]
  rw [hport, ← hstate] at hstays hup
  by_cases hrun : (s.port t).state.up = true
  · exact State.probeMoves_up (hup ((TrunkState.up_iff _).1 hrun)) hrun
  · have hnot := fun h' => hrun ((TrunkState.up_iff _).2 h')
    exact State.probeMoves_settled (hstays (fun h' => hnot (.inl h')) fun h' => hnot (.inr h'))

end

end Sys2Proof.Machine

/-! # FILL_RECEIVED and PROBE_RECEIVED, settled -/

namespace Sys2Proof.Machine

section
variable {s u : State} {t : Trunk}

/-! ## What a FILL and a PROBE make of the states -/

theorem State.fillMoved_states {st : TrunkState} (ready starts : Bool) (h : st.up = false → (u.port t).state = st) :
    let w := u.fillMoved t st ready starts
    (st = .hunt → ready = true → (w.port t).state = .align
      ∧ (w.sup t).resync = some ⟨u.now, (u.port t).config.resyncTimeout * 1000000⟩)
    ∧ (st = .hunt → ready = false → (w.port t).state = .hunt)
    ∧ (st = .align → (w.port t).state = .align)
    ∧ (st = .down → (w.port t).state = .hunt ∧ (w.port t).heard = true)
    ∧ (st = .faulted → (w.port t).state = .faulted ∧ (w.port t).heard = true) := by
  intro w
  refine ⟨fun hst hready => ?_, fun hst hready => ?_, fun hst => ?_, fun hst => ?_, fun hst => ?_⟩
  · have hw : w = u.aligned t := by
      unfold w
      rw [hst, hready]
      rfl
    rw [hw, State.aligned_port, State.aligned_sup]
    exact ⟨rfl, rfl⟩
  · have hw : w = u := by
      unfold w
      rw [hst, hready]
      rfl
    rw [hw, h (by rw [hst]; rfl), hst]
  · have hw : w = u := by
      unfold w
      rw [hst]
      rfl
    rw [hw, h (by rw [hst]; rfl), hst]
  · have hw : w = u.heardIn t .hunt := by
      unfold w
      rw [hst]
      rfl
    rw [hw, State.heardIn_port]
    exact ⟨rfl, rfl⟩
  · have hw : w = u.heardIn t .faulted := by
      unfold w
      rw [hst]
      rfl
    rw [hw, State.heardIn_port]
    exact ⟨rfl, rfl⟩

/-- Outside RUNNING and RESYNC a FILL changes the port and the supervisor only. -/
theorem State.fillMoved_frame {st : TrunkState} (ready starts : Bool) (h : st.up = false) (hoff : st ≠ .off)
    (htest : st ≠ .test) : u.fillMoved t st ready starts = { u with
      ports := (u.fillMoved t st ready starts).ports, sups := (u.fillMoved t st ready starts).sups } := by
  cases st with
  | off => exact absurd rfl hoff
  | test => exact absurd rfl htest
  | running => exact absurd h (by decide)
  | resync => exact absurd h (by decide)
  | hunt =>
    cases ready with
    | true => rfl
    | false => rfl
  | _ => rfl

theorem State.probeMoved_states {st : TrunkState} (h : st.up = false → (u.port t).state = st) :
    let w := u.probeMoved t st
    (st = .hunt ∨ st = .align → (w.port t).state = st)
    ∧ (st = .down → (w.port t).state = .hunt ∧ (w.port t).heard = true)
    ∧ (st = .faulted → (w.port t).state = .faulted ∧ (w.port t).heard = true) := by
  intro w
  have hheard : ∀ st', w = u.heardIn t st' → (w.port t).state = st' ∧ (w.port t).heard = true := by
    intro st' hw
    rw [hw, State.heardIn_port]
    exact ⟨rfl, rfl⟩
  refine ⟨fun hst => ?_, fun hst => hheard _ ?_, fun hst => hheard _ ?_⟩
  · rcases hst with hst | hst
    · have hw : w = u.heardIn t .hunt := by
        unfold w
        rw [hst]
        rfl
      rw [hst]
      exact (hheard _ hw).1
    · have hw : w = u := by
        unfold w
        rw [hst]
        rfl
      rw [hw]
      exact h (by rw [hst]; rfl)
  · unfold w
    rw [hst]
    rfl
  · unfold w
    rw [hst]
    rfl

/-- The state machine's part of a FILL, as the statement writes it. -/
theorem State.fillMoved_eq (u : State) (t : Trunk) (st : TrunkState) (ready : Bool) (behind seen : Bool) :
    u.fillMoved t st ready (behind && seen) = match st with
      | .hunt => if ready = true then u.aligned t else u
      | .down => u.heardIn t .hunt
      | .faulted => u.heardIn t .faulted
      | .align => u
      | _ => if behind = true ∧ seen = true then u.startedOver t else u := by
  have hstarts : (if (behind && seen) = true then u.startedOver t else u) =
      if behind = true ∧ seen = true then u.startedOver t else u := by simp only [Bool.and_eq_true]
  cases st with
  | hunt => rfl
  | down => rfl
  | faulted => rfl
  | align => rfl
  | _ => exact hstarts

/-! ## Behind the incarnation check and the lock -/

/-- A frame from the expected peer, behind the incarnation check and the lock. -/
theorem State.peerPassed_spec (s : State) (t : Trunk) (site : Nat) (i : Stamp) :
    let u := (s.peerRecorded t site i).passedLock t
    (∃ l, u.port t = { s.port t with
      state := (u.port t).state, rxPos := (s.port t).rxPos + 1, lock := l, prevHead := false, recorded := some i
      stats := { (s.port t).stats with framesReceived := (s.port t).stats.framesReceived + 1 } })
    ∧ u = { s with
      ports := u.ports, sups := u.sups, sli := u.sli, apply := u.apply, body := u.body, map := u.map }
    ∧ ((s.port t).state.up = false → (u.port t).state = (s.port t).state) := by
  have hport := s.peerRecorded_port (t := t) site i
  have hframe := (s.peerRecorded_taken (t := t) site i).frame
  generalize s.peerRecorded t site i = v at *
  intro u
  obtain ⟨l, hpassed⟩ : ∃ l, u.port t = { v.port t with state := (u.port t).state, lock := l, prevHead := false } :=
    v.passedLock_port t
  have hleft : u = { v with ports := u.ports, sups := u.sups, sli := u.sli } := v.passedLock_frame t
  obtain ⟨hstays, -⟩ := v.passedLock_state t
  have hstays : (v.port t).state ≠ .running → (v.port t).state ≠ .resync → (u.port t).state = (v.port t).state := hstays
  rw [hport] at hpassed hstays
  clear_value u
  refine ⟨⟨l, hpassed⟩, ?_, fun hdown => hstays ?_ ?_⟩
  · rw [hframe] at hleft
    rw [hleft]
    rfl
  · intro h
    simp [show (s.port t).state = _ from h, TrunkState.up] at hdown
  · intro h
    simp [show (s.port t).state = _ from h, TrunkState.up] at hdown

/-- Under a changed incarnation the inbound records are cleared behind the check and the lock. -/
theorem State.peerPassed_cleared {site : Nat} {i r : Stamp} (hr : (s.port t).recorded = some r) (hne : r ≠ i)
    (hwf : Table.wf .reset s.apply.records = true) : InboundCleared s ((s.peerRecorded t site i).passedLock t) t := by
  obtain ⟨hcleared, -⟩ := (s.peerRecorded_taken (t := t) site i).changed r (by rw [State.arrivedWith_port]; exact hr) hne hwf
  have hleft := (s.peerRecorded t site i).passedLock_frame t
  exact hcleared.ofArrived.congr (congrArg State.apply hleft :) (congrArg State.body hleft :) (congrArg State.map hleft :)

/-- A peer start-over: the port and the inbound records. -/
theorem State.peerStartedOver_spec {site : Nat} {i r : Stamp} (hr : (s.port t).recorded = some r) (hne : r ≠ i)
    (hwf : Table.wf .reset s.apply.records = true) :
    let u := (s.peerRecorded t site i).startedOver t
    (u.port t).state = .hunt ∧ (u.port t).recorded = some i ∧ (u.port t).store = []
    ∧ (u.port t).stats.protocolRestarts = (s.port t).stats.protocolRestarts + 1 ∧ (u.port t).rxPos = (s.port t).rxPos + 1
    ∧ InboundCleared s u t ∧ u.now = s.now ∧ u.clock = s.clock ∧ u.buckets = s.buckets := by
  intro u
  have hcleared : InboundCleared s u t :=
    (State.startsOver_cleared (s := s.arrivedWith t _ false _) (by rw [State.arrivedWith_port]; simp [hr, hne]) hwf).ofArrived
  have hport := s.peerRecorded_port (t := t) site i
  have hframe := (s.peerRecorded_taken (t := t) site i).frame
  obtain ⟨hstate, hrecorded, hstore, hstats, hpos, -⟩ := (s.peerRecorded t site i).startedOver_port t
  rw [hport] at hrecorded hstats hpos
  refine ⟨hstate, hrecorded, hstore, by rw [hstats], hpos, hcleared, (State.trunkRestart_now _ _ _ _).trans ?_,
    (State.trunkRestart_clock _ _ _ _).trans ?_, (State.trunkRestart_buckets _ _ _ _).trans ?_⟩
  · exact (congrArg State.now hframe :)
  · exact (congrArg State.clock hframe :)
  · exact (congrArg State.buckets hframe :)

theorem State.startsOver_of {i r : Stamp} (hup : (s.port t).state = .running ∨ (s.port t).state = .resync)
    (hr : (s.port t).recorded = some r) (hne : r ≠ i) : s.startsOver t i := ⟨hup, by simp [hr], by simp [hr, hne]⟩

end

/-- Settles O47: a FILL and a PROBE by their sender, and whether their incarnation is the recorded one. -/
theorem fillAndProbeHeard : Obligations.FillAndProbeHeard := by
  refine ⟨?fill, ?probe, ?fillChanged, ?quiet, ?stranger, ?general, ?plain, ?probeChanged⟩
  case fill =>
    intro s t f hoff htest hpeer hrecorded
    have hexec := (exec_fillReceived hoff htest).trans
      (congrArg _ (State.fillArrives_stays hoff htest hpeer (State.not_startsOver hrecorded)))
    obtain ⟨⟨l, hport⟩, hframe, hsettled⟩ := s.peerPassed_spec t f.site.toNat f.incarnation
    generalize (s.peerRecorded t f.site.toNat f.incarnation).passedLock t = u at *
    obtain ⟨hrec, hpos, hprev, hnow, hclock, hbuckets⟩ := u.fillMoved_leaves t (s.port t).state f.ready
      ((s.port t).prevHead && (s.port t).peerSeenRunning) (by rw [hport])
    obtain ⟨haligns, hhunts, -, hdown, hfaulted⟩ := State.fillMoved_states f.ready
      ((s.port t).prevHead && (s.port t).peerSeenRunning) hsettled
    rw [hport] at hrec hpos
    have hnow' : u.now = s.now := (congrArg State.now hframe :)
    rw [hnow', hport] at haligns
    refine ⟨_, hexec, hrec, hpos, hprev, haligns, hhunts, hdown, hfaulted, fun hup hbehind hseen => ?_,
      hnow.trans hnow', hclock.trans (congrArg State.clock hframe :), hbuckets.trans (congrArg State.buckets hframe :)⟩
    have hmoved : u.fillMoved t (s.port t).state f.ready ((s.port t).prevHead && (s.port t).peerSeenRunning) =
        u.startedOver t := by
      rw [hbehind, hseen]
      rcases hup with h | h
      · rw [h]
        rfl
      · rw [h]
        rfl
    obtain ⟨hstate, -, hstore, hstats, -, -⟩ := u.startedOver_port t
    rw [hmoved]
    refine ⟨hstate, hstore, ?_⟩
    rw [hstats, hport]
  case probe =>
    intro s t f hoff htest hpeer hrecorded
    have hexec := (exec_probeReceived hoff htest).trans
      (congrArg _ (State.probeArrives_stays hpeer (State.not_startsOver hrecorded)))
    obtain ⟨⟨l, hport⟩, hframe, hsettled⟩ := s.peerPassed_spec t f.site.toNat f.incarnation
    have hsame : ((s.peerRecorded t f.site.toNat f.incarnation).passedLock t).apply = s.apply := by
      rw [State.passedLock_frame, State.peerRecorded_same f.site.toNat hrecorded]
    generalize (s.peerRecorded t f.site.toNat f.incarnation).passedLock t = u at *
    obtain ⟨⟨st, b, hmoved⟩, hrest⟩ := u.probeMoved_leaves t (s.port t).state
    obtain ⟨-, hdown, hfaulted⟩ := State.probeMoved_states hsettled
    generalize u.probeMoved t (s.port t).state = w at *
    have hw : (w.hearing t f.heard).port t = _ := w.hearing_port t f.heard
    rw [hframe] at hrest
    refine ⟨_, hexec, ?_, ?_, ?_, ?_, fun h => ?_, fun h => ?_, (congrArg State.now hrest :), (congrArg State.clock hrest :),
      (congrArg State.buckets hrest :), (congrArg State.journal hrest :), (congrArg State.apply hrest :).trans hsame⟩
    · rw [hw, hmoved, hport]
    · rw [hw, hmoved, hport]
    · rw [hw, hmoved, hport]
    · rw [hw]
    · rw [hw]
      exact hdown h
    · rw [hw]
      exact hfaulted h
  case fillChanged =>
    intro s t f r hoff htest hpeer hr hne hwf
    by_cases hup : (s.port t).state = .running ∨ (s.port t).state = .resync
    · obtain ⟨hstate, hrec, hstore, hstats, hpos, hcleared, hnow, hclock, hbuckets⟩ :=
        State.peerStartedOver_spec (site := f.site.toNat) hr hne hwf
      refine ⟨_, (exec_fillReceived hoff htest).trans (congrArg _ (State.fillArrives_restarts hpeer
        (State.startsOver_of hup hr hne))), hrec, hpos, hcleared, fun _ => ⟨hstate, hstore, hstats⟩, fun h => by simp [h] at hup,
        fun h => by simp [h] at hup, fun h => by simp [h] at hup, fun h => by simp [h] at hup, fun h => by simp [h] at hup,
        hnow, hclock, hbuckets⟩
    · have hexec := (exec_fillReceived hoff htest).trans
        (congrArg _ (State.fillArrives_stays hoff htest hpeer fun h => hup h.1))
      have hcleared := State.peerPassed_cleared (t := t) (site := f.site.toNat) hr hne hwf
      obtain ⟨⟨l, hport⟩, hframe, hsettled⟩ := s.peerPassed_spec t f.site.toNat f.incarnation
      generalize (s.peerRecorded t f.site.toNat f.incarnation).passedLock t = u at *
      obtain ⟨hrec, hpos, -, hnow, hclock, hbuckets⟩ := u.fillMoved_leaves t (s.port t).state f.ready
        ((s.port t).prevHead && (s.port t).peerSeenRunning) (by rw [hport])
      obtain ⟨haligns, hhunts, hkeeps, hdown, hfaulted⟩ := State.fillMoved_states f.ready
        ((s.port t).prevHead && (s.port t).peerSeenRunning) hsettled
      rw [hport] at hrec hpos
      have hnow' : u.now = s.now := (congrArg State.now hframe :)
      rw [hnow', hport] at haligns
      have hblocks := State.fillMoved_frame (u := u) (t := t) f.ready ((s.port t).prevHead && (s.port t).peerSeenRunning)
        (by simpa [← TrunkState.up_iff] using hup) hoff htest
      exact ⟨_, hexec, hrec, hpos, hcleared.congr (congrArg State.apply hblocks :) (congrArg State.body hblocks :)
        (congrArg State.map hblocks :), fun h => absurd h hup, haligns, hhunts, hkeeps, hdown, hfaulted, hnow.trans hnow',
        hclock.trans (congrArg State.clock hframe :), hbuckets.trans (congrArg State.buckets hframe :)⟩
  case quiet =>
    intro s t f g
    refine ⟨fun h => ⟨congrArg _ (State.arrival_off _ h), congrArg _ (State.arrival_off _ h)⟩, fun h => ?_⟩
    exact ⟨congrArg _ (State.arrival_test _ h), congrArg _ (State.arrival_test _ h)⟩
  case stranger =>
    intro s t site i hoff htest hpeer own u
    exact ⟨fun ready => (exec_fillReceived hoff htest).trans (congrArg _ (State.fillArrives_stranger hpeer)),
      fun heard => (exec_probeReceived hoff htest).trans (congrArg _ (State.probeArrives_stranger hpeer))⟩
  case general =>
    intro s t site i hoff htest hpeer p looped restarts
    refine ⟨s.peerRecorded t site.toNat i, s.peerRecorded_taken _ _, fun ready => ?_, fun heard => ?_⟩
    · refine (exec_fillReceived hoff htest).trans (congrArg _ ?_)
      by_cases h : restarts
      · rw [if_pos h]
        exact State.fillArrives_restarts (f := ⟨site, i, ready⟩) hpeer h
      · rw [if_neg h]
        exact (State.fillArrives_stays (f := ⟨site, i, ready⟩) hoff htest hpeer h).trans (State.fillMoved_eq _ t _ ready _ _)
    · refine (exec_probeReceived hoff htest).trans (congrArg _ ?_)
      by_cases h : restarts
      · rw [if_pos h]
        exact State.probeArrives_restarts (g := ⟨site, i, heard⟩) hpeer h
      · rw [if_neg h]
        exact State.probeArrives_stays (g := ⟨site, i, heard⟩) hpeer h
  case plain =>
    intro s t site i hstate hpeer hrecorded looped s1 u
    have hoff : (s.port t).state ≠ .off := fun h => by simp [h] at hstate
    have htest : (s.port t).state ≠ .test := fun h => by simp [h] at hstate
    have hu : (s.peerRecorded t site.toNat i).passedLock t = u :=
      congrArg (State.passedLock · t) (State.incarnationTaken_same (s := s1) (by rw [State.arrivedWith_port]; exact hrecorded))
    refine ⟨fun ready hnot => (exec_fillReceived hoff htest).trans (congrArg _ ?_), fun heard =>
      (exec_probeReceived hoff htest).trans (congrArg _ ?_)⟩
    · refine (State.fillArrives_stays (f := ⟨site, i, ready⟩) hoff htest hpeer (State.not_startsOver hrecorded)).trans ?_
      rw [hu]
      simp only [List.mem_cons, List.not_mem_nil, or_false] at hstate
      have hstarts : (s.port t).state ≠ .align → ((s.port t).prevHead && (s.port t).peerSeenRunning) = false := fun h => by
        rw [Bool.and_eq_false_iff, ← Bool.not_eq_true, ← Bool.not_eq_true, ← not_and_or]
        exact fun h' => hnot ⟨h, h'⟩
      rcases hstate with h | h | h
      · rw [h]
        rfl
      · rw [hstarts (by simp [h]), h]
        rfl
      · rw [hstarts (by simp [h]), h]
        rfl
    · refine (State.probeArrives_stays (g := ⟨site, i, heard⟩) hpeer (State.not_startsOver hrecorded)).trans ?_
      rw [hu]
      simp only [List.mem_cons, List.not_mem_nil, or_false] at hstate
      rcases hstate with h | h | h
      · rw [h]
        rfl
      · rw [h]
        rfl
      · rw [h]
        rfl
  case probeChanged =>
    intro s t f r hoff htest hpeer hr hne hwf
    by_cases hup : (s.port t).state = .running ∨ (s.port t).state = .resync
    · obtain ⟨hstate, hrec, hstore, hstats, hpos, hcleared, hnow, hclock, hbuckets⟩ :=
        State.peerStartedOver_spec (site := f.site.toNat) hr hne hwf
      have hexec := (exec_probeReceived (g := f) hoff htest).trans (congrArg _ (State.probeArrives_restarts hpeer
        (State.startsOver_of hup hr hne)))
      generalize (s.peerRecorded t f.site.toNat f.incarnation).startedOver t = w at *
      have hw := w.hearing_port t f.heard
      have hstates : (s.port t).state ∉ [TrunkState.hunt, .align, .down, .faulted] := fun h => by
        rcases hup with hup | hup
        · simp [hup] at h
        · simp [hup] at h
      refine ⟨_, hexec, ?_, ?_, ?_, hcleared.congr rfl rfl rfl, fun _ => ?_, fun h => absurd ?_ hstates,
        fun h => absurd ?_ hstates, fun h => absurd ?_ hstates, hnow, hclock, hbuckets⟩
      · rw [hw, hrec]
      · rw [hw, hpos]
      · rw [hw]
      · rw [hw]
        exact ⟨hstate, hstore, hstats⟩
      · rcases h with h | h
        · simp [h]
        · simp [h]
      · simp [h]
      · simp [h]
    · have hexec := (exec_probeReceived (g := f) hoff htest).trans
        (congrArg _ (State.probeArrives_stays hpeer fun h => hup h.1))
      have hcleared := State.peerPassed_cleared (t := t) (site := f.site.toNat) hr hne hwf
      obtain ⟨⟨l, hport⟩, hframe, hsettled⟩ := s.peerPassed_spec t f.site.toNat f.incarnation
      generalize (s.peerRecorded t f.site.toNat f.incarnation).passedLock t = u at *
      obtain ⟨⟨st, b, hmoved⟩, hrest⟩ := u.probeMoved_leaves t (s.port t).state
      obtain ⟨hkeeps, hdown, hfaulted⟩ := State.probeMoved_states hsettled
      have hcleared := hcleared.congr (u := u.probeMoved t (s.port t).state) (congrArg State.apply hrest :)
        (congrArg State.body hrest :) (congrArg State.map hrest :)
      generalize u.probeMoved t (s.port t).state = w at *
      have hw : (w.hearing t f.heard).port t = _ := w.hearing_port t f.heard
      rw [hframe] at hrest
      refine ⟨_, hexec, ?_, ?_, ?_, hcleared.congr rfl rfl rfl, fun h => absurd h hup, fun h => ?_, fun h => ?_, fun h => ?_,
        (congrArg State.now hrest :), (congrArg State.clock hrest :), (congrArg State.buckets hrest :)⟩
      · rw [hw, hmoved, hport]
      · rw [hw, hmoved, hport]
      · rw [hw]
      · rw [hw]
        exact hkeeps h
      · rw [hw]
        exact hdown h
      · rw [hw]
        exact hfaulted h

end Sys2Proof.Machine

/-! # NOTICE dispatch and release (R133, R136 to R140) -/

namespace Sys2Proof.Machine

/-! ## Inbound records and their entries -/

section
variable {s : State} {t : Trunk} {k : Nat} {n : Notice}

theorem State.inRec_setInRec (s : State) (k j : Nat) (r : InRec) : (s.setInRec k r).inRec j = if j = k then r else s.inRec j :=
  Table.get_set _ _ _ _ _

theorem State.adopt_eq (s : State) (k : Nat) (n : Notice) :
    let r := s.inRec k
    let v := match r.reassembly with
      | none => s
      | some e => s.discardInbound e
    s.adopt k n = v.setInRec k { r with
      reassembly := none
      skip := none
      queue := r.queue.map InEntry.former
      epoch := some n.epoch
      expected := n.seq
      applied := n.seq - 1 } := by
  have hdiscard : ∀ o : Option InEntry, s.discardAll o.toList = match o with
      | none => s
      | some e => s.discardInbound e := by
    intro o
    cases o with
    | none => rfl
    | some e => rfl
  exact congrArg (State.setInRec · k _) (hdiscard _)

/-! ## Acceptance (R52, R54, R78, R139, R140) -/

theorem Notice.slotsNeeded_eq (n : Notice) : n.slotsNeeded = if n.kind = 1 then (n.bodyLength + 8127) / 8128 else 0 := by
  rw [Notice.slotsNeeded, slotsFor_eq]

theorem State.roomFor_iff : s.roomFor n = true ↔ s.apply.backlog < 16384
    ∧ s.body.inUse + (if n.kind = 1 then (n.bodyLength + 8127) / 8128 else 0) ≤ 196608 := by
  rw [State.roomFor, Bool.and_eq_true, decide_eq_true_eq, decide_eq_true_eq, Notice.slotsNeeded_eq]
  rfl

/-- The state in which a NOTICE has taken its room, and its stamp is merged. -/
def State.roomTaken (s : State) (n : Notice) : State :=
  State.merge { s with
    apply := { s.apply with backlog := s.apply.backlog + 1 }
    body := { s.body with inUse := s.body.inUse + (if n.kind = 1 then (n.bodyLength + 8127) / 8128 else 0) } } n.stamp

theorem State.takeRoom_merge (s : State) (n : Notice) : (s.takeRoom n).merge n.stamp = s.roomTaken n := by
  rw [State.takeRoom, Notice.slotsNeeded_eq]
  rfl

/-- The entry of an accepted NOTICE. -/
def Notice.entry (n : Notice) (mapped : Bool) : InEntry :=
  ⟨n, 0, if n.kind = 1 then (n.bodyLength + 8127) / 8128 else 0, [], photoStart, mapped, true⟩

/-- The object of a NOTICE has its record, or finds room for one. -/
def State.maps (s : State) (n : Notice) : Bool :=
  s.map.any (isObj n.bucket n.digest) || decide (s.map.length < 65536) || s.map.any (fun x => x.pins == 0)

/-- The state in which the object of a NOTICE is pinned, unless the map has no room (R52, R54). -/
def State.noticePinned (s : State) (n : Notice) : State := ((s.roomTaken n).pinForNotice n.bucket n.digest).2

theorem State.maps_eq (s : State) (n : Notice) : s.maps n = ((s.findObj n.bucket n.digest).isSome || s.mapHasRoom) := by
  rw [State.maps, Bool.or_assoc]
  refine congrArg₂ (· || ·) ?_ rfl
  rw [Bool.eq_iff_iff, State.findObj_isSome_iff, List.any_eq_true]

theorem State.pinForNotice_mapped (h : s.maps n = true) : s.pinForNotice n.bucket n.digest =
    (true, s.findOrInsert n.bucket n.digest fun r => { r with pins := r.pins + 1 }) := by
  exact if_pos (s.maps_eq n ▸ h)

theorem State.pinForNotice_blocked (h : s.maps n = false) :
    s.pinForNotice n.bucket n.digest = (false, s.latch .mapBlocked) := by
  exact if_neg (by rw [← s.maps_eq n, h]; exact Bool.false_ne_true)

theorem State.findOrInsert_frame (s : State) (b : Nat) (d : Digest) (g : ObjRec → ObjRec) :
    s.findOrInsert b d g = { s with map := (s.findOrInsert b d g).map } := by
  unfold State.findOrInsert
  split
  · rfl
  · rfl

theorem State.roomTaken_map (s : State) (n : Notice) : (s.roomTaken n).map = s.map := State.merge_map _ _

theorem State.noticePinned_mapped (h : s.maps n = true) :
    s.noticePinned n = { s.roomTaken n with map := (s.noticePinned n).map }
    ∧ MapTook s.map n.bucket n.digest (fun x => { x with pins := x.pins + 1 }) (s.noticePinned n).map := by
  have hmaps : (s.roomTaken n).maps n = true := by
    rw [State.maps, State.roomTaken_map]
    exact h
  have htook := (s.roomTaken n).findOrInsert_took n.bucket n.digest fun x => { x with pins := x.pins + 1 }
  rw [State.roomTaken_map] at htook
  rw [State.noticePinned, State.pinForNotice_mapped hmaps]
  exact ⟨State.findOrInsert_frame _ _ _ _, htook⟩

theorem State.noticePinned_blocked (h : s.maps n = false) :
    s.noticePinned n = { s.roomTaken n with sli := (s.roomTaken n).sli.latch .mapBlocked } := by
  have hmaps : (s.roomTaken n).maps n = false := by
    rw [State.maps, State.roomTaken_map]
    exact h
  rw [State.noticePinned, State.pinForNotice_blocked hmaps]
  rfl

theorem State.noticePinned_apply (s : State) (n : Notice) :
    (s.noticePinned n).apply = { s.apply with backlog := s.apply.backlog + 1 } := by
  rw [State.noticePinned, State.pinForNotice_apply, State.roomTaken, State.merge_apply]

/-- What an accepted NOTICE leaves of the blocks but the map, the link's latches and the records. -/
theorem State.noticePinned_rest (s : State) (n : Notice) :
    (s.noticePinned n).body = { s.body with
      inUse := s.body.inUse + (if n.kind = 1 then (n.bodyLength + 8127) / 8128 else 0) }
    ∧ (s.noticePinned n).clock = (s.merge n.stamp).clock ∧ (s.noticePinned n).journal = s.journal
    ∧ (s.noticePinned n).buckets = s.buckets ∧ (s.noticePinned n).ports = s.ports ∧ (s.noticePinned n).sups = s.sups
    ∧ (s.noticePinned n).now = s.now := by
  unfold State.noticePinned
  rw [State.pinForNotice_body, State.pinForNotice_clock, State.pinForNotice_journal, State.pinForNotice_buckets,
    State.pinForNotice_ports, State.pinForNotice_sups, State.pinForNotice_now]
  exact ⟨State.merge_body _ _, (State.merge_clock_eq _ _).trans (State.merge_clock_eq s _).symm, State.merge_journal _ _,
    State.merge_buckets _ _, State.merge_ports _ _, State.merge_sups _ _, State.merge_now _ _⟩

theorem State.noticePinned_inRec (s : State) (n : Notice) (j : Nat) : (s.noticePinned n).inRec j = s.inRec j := by
  rw [State.inRec, State.noticePinned_apply, State.inRec]

theorem State.acceptNotice_waits (h : ¬ s.roomFor n = true) : s.acceptNotice k n = .waits s := if_neg h

theorem State.acceptNotice_room (h : s.roomFor n = true) :
    (0 < n.segments → s.acceptNotice k n = .taken ((s.noticePinned n).setInRec k
      { s.inRec k with skip := none, reassembly := some (n.entry (s.maps n)) }))
    ∧ (n.segments = 0 → s.acceptNotice k n = State.completeEntry ((s.noticePinned n).setInRec k
      { s.inRec k with skip := none }) k (n.entry (s.maps n))) := by
  have hmapped : ((s.roomTaken n).pinForNotice n.bucket n.digest).1 = s.maps n := by
    have hmaps : (s.roomTaken n).maps n = s.maps n := by rw [State.maps, State.roomTaken_map, State.maps]
    cases hm : s.maps n with
    | true => rw [State.pinForNotice_mapped (hmaps.trans hm)]
    | false => rw [State.pinForNotice_blocked (hmaps.trans hm)]
  have haccept : s.acceptNotice k n = if 0 < n.segments then
      .taken ((s.noticePinned n).setInRec k { s.inRec k with skip := none, reassembly := some (n.entry (s.maps n)) })
    else State.completeEntry ((s.noticePinned n).setInRec k { s.inRec k with skip := none }) k (n.entry (s.maps n)) := by
    rw [← State.noticePinned_inRec s n k, ← hmapped, Notice.entry, ← Notice.slotsNeeded_eq, State.noticePinned,
      ← State.takeRoom_merge]
    exact if_pos h
  refine ⟨fun hseg => haccept.trans (if_pos hseg), fun hseg => haccept.trans (if_neg (by omega))⟩

/-! ## Table 7-4 -/

theorem patchesOk_iff (ps : List PatchWrite) : patchesOk ps = true ↔
    (ps.map fun p => p.field).Nodup ∧ (∀ p ∈ ps, p.field ≤ 31 ∧ p.value.length ≤ 48) ∧ ps.length ≤ 32 := by
  rw [patchesOk, Bool.and_eq_true, Bool.and_eq_true, decide_eq_true_eq, decide_eq_true_eq, List.all_eq_true, and_assoc]
  simp only [Bool.and_eq_true, decide_eq_true_eq]

theorem Notice.malformed_iff (n : Notice) : n.malformed = true ↔
    (n.kind < 1 ∨ 4 < n.kind) ∨ 268435456 < n.bodyLength ∨ (n.kind ≠ 1 ∧ n.bodyLength ≠ 0)
    ∨ (n.kind = 1 ∧ n.segments ≠ (n.bodyLength + 8127) / 8128) ∨ (n.kind ≠ 1 ∧ n.segments ≠ 0)
    ∨ ¬ (n.patches.map fun p => p.field).Nodup ∨ (∃ p ∈ n.patches, 31 < p.field ∨ 48 < p.value.length)
    ∨ 32 < n.patches.length ∨ ((n.kind = 3 ∨ n.kind = 4) ∧ n.patches ≠ []) ∨ n.seq = 0 ∨ 4294967294 < n.seq := by
  have hkind : (!(decide (1 ≤ n.kind) && decide (n.kind ≤ 4))) = true ↔ n.kind < 1 ∨ 4 < n.kind := by
    simp only [Bool.not_eq_true', Bool.and_eq_false_iff, decide_eq_false_iff_not, Nat.not_le]
  have hbody : (n.kind != 1 && n.bodyLength != 0) = true ↔ n.kind ≠ 1 ∧ n.bodyLength ≠ 0 := by
    simp only [Bool.and_eq_true, bne_iff_ne]
  have hsegments : (n.segments != (if n.kind = 1 then slotsFor n.bodyLength else 0)) = true ↔
      (n.kind = 1 ∧ n.segments ≠ (n.bodyLength + 8127) / 8128) ∨ (n.kind ≠ 1 ∧ n.segments ≠ 0) := by
    rw [slotsFor_eq, bne_iff_ne]
    by_cases h : n.kind = 1
    · simp [h]
    · simp [h]
  have hpatches : (!patchesOk n.patches) = true ↔ ¬ (n.patches.map fun p => p.field).Nodup
      ∨ (∃ p ∈ n.patches, 31 < p.field ∨ 48 < p.value.length) ∨ 32 < n.patches.length := by
    rw [Bool.not_eq_true', ← Bool.not_eq_true, patchesOk_iff, not_and_or, not_and_or, Nat.not_le]
    simp only [not_forall, not_and_or, Nat.not_le, exists_prop]
  have hplain : ((n.kind == 3 || n.kind == 4) && !n.patches.isEmpty) = true ↔ (n.kind = 3 ∨ n.kind = 4) ∧ n.patches ≠ [] := by
    simp only [Bool.and_eq_true, Bool.or_eq_true, beq_iff_eq, Bool.not_eq_true', ← Bool.not_eq_true, List.isEmpty_iff, ne_eq]
  rw [Notice.malformed]
  simp only [Bool.or_eq_true, hkind, hbody, hsegments, hpatches, hplain, decide_eq_true_eq, beq_iff_eq, or_assoc]
  rfl

section
variable {r : InRec}

theorem State.dispatchNotice_malformed (h : n.malformed = true) : s.dispatchNotice t n = .error s := if_pos h

theorem State.dispatchNotice_beyond (h : n.malformed = false) (hb : 4096 ≤ n.bucket) : s.dispatchNotice t n = .error s :=
  (if_neg (by simp [h])).trans (if_pos hb)

/-- A NOTICE that is not malformed, and names a bucket there is. -/
theorem State.dispatchNotice_eq (h : n.malformed = false) (hb : n.bucket < 4096) :
    let k := t.index * 4096 + n.bucket
    let r := s.inRec k
    s.dispatchNotice t n = if r.epoch ≠ some n.epoch then (s.adopt k n).acceptNotice k n
      else if r.reassembly.isSome = true then .error s
      else if n.seq = r.expected then s.acceptNotice k n
      else if n.seq < r.expected then .taken (s.duplicateNotice t k n)
      else .error s :=
  (if_neg (by simp [h])).trans (if_neg (Nat.not_le.2 hb))

end

end

end Sys2Proof.Machine

/-! # Release of frames in order (R91, R133, R139, R141 to R143) -/

namespace Sys2Proof.Machine

section
variable {s : State} {t : Trunk}

/-! ## What a dispatch leaves of the trunk -/

/-- A dispatch changes no port but the duplicates statistic of its trunk. -/
def DispatchKept (s : State) (t : Trunk) (o : Released) : Prop :=
  ∃ x, o.state.ports = s.ports.set t { s.port t with stats := { (s.port t).stats with duplicates := x } }

theorem DispatchKept.of_ports {o : Released} (h : o.state.ports = s.ports) : DispatchKept s t o :=
  ⟨(s.port t).stats.duplicates, h.trans (Quad.set_get s.ports t).symm⟩

theorem DispatchKept.counted {o : Released} {v : State} (h : o.state.ports = (v.countDuplicate t).ports)
    (hv : v.ports = s.ports) : DispatchKept s t o := by
  refine ⟨(s.port t).stats.duplicates + 1, h.trans ?_⟩
  have hport : v.port t = s.port t := by rw [State.port, hv, State.port]
  rw [State.countDuplicate, State.setPort_ports, hport, hv]

theorem State.dispatchNotice_kept (s : State) (t : Trunk) (n : Notice) : DispatchKept s t (s.dispatchNotice t n) := by
  by_cases hm : n.malformed = true
  · rw [State.dispatchNotice_malformed hm]
    exact .of_ports rfl
  · have hm : n.malformed = false := by simpa using hm
    by_cases hb : 4096 ≤ n.bucket
    · rw [State.dispatchNotice_beyond hm hb]
      exact .of_ports rfl
    · rw [State.dispatchNotice_eq hm (Nat.not_le.1 hb)]
      split
      · exact .of_ports (by rw [State.acceptNotice_ports, State.adopt_ports])
      · split
        · exact .of_ports rfl
        · split
          · exact .of_ports (State.acceptNotice_ports _ _ _)
          · split
            · exact .counted (v := s) rfl rfl
            · exact .of_ports rfl

theorem State.dispatchSegment_kept (s : State) (t : Trunk) (g : Segment) : DispatchKept s t (s.dispatchSegment t g) := by
  unfold State.dispatchSegment
  dsimp only
  split
  · exact .of_ports rfl
  · split
    · split
      · exact .of_ports rfl
      · exact .of_ports (State.completeEntry_ports _ _ _)
    · exact .counted (v := s) rfl rfl
    · exact .of_ports rfl

theorem State.dispatch_kept (s : State) (t : Trunk) (payload : List Byte) : DispatchKept s t (s.dispatch t payload) := by
  unfold State.dispatch
  split
  · exact s.dispatchNotice_kept t _
  · exact s.dispatchSegment_kept t _
  · exact .of_ports rfl

theorem DispatchKept.reorder {o : Released} (h : DispatchKept s t o) :
    (o.state.port t).reorder = (s.port t).reorder ∧ (o.state.port t).expectedFrame = (s.port t).expectedFrame := by
  obtain ⟨x, hports⟩ := h
  rw [State.port, hports, Quad.get_set_self]
  exact ⟨rfl, rfl⟩

/-! ## The release step by step -/

section
variable {payload : List Byte} {s1 : State} {fuel : Nat}

theorem State.releaseFrames_none (h : (s.port t).reorder.lookup (s.port t).expectedFrame = none) :
    s.releaseFrames t fuel = s := by
  cases fuel with
  | zero => rfl
  | succ fuel => rw [State.releaseFrames, h]

theorem State.releaseFrames_taken (h : (s.port t).reorder.lookup (s.port t).expectedFrame = some payload)
    (hd : s.dispatch t payload = .taken s1) : s.releaseFrames t (fuel + 1) = (s1.frameTaken t).releaseFrames t fuel := by
  rw [State.releaseFrames, h]
  dsimp only
  rw [hd]

theorem State.releaseFrames_waits (h : (s.port t).reorder.lookup (s.port t).expectedFrame = some payload)
    (hd : s.dispatch t payload = .waits s1) : s.releaseFrames t (fuel + 1) = s1 := by
  rw [State.releaseFrames, h]
  dsimp only
  rw [hd]

theorem State.releaseFrames_error (h : (s.port t).reorder.lookup (s.port t).expectedFrame = some payload)
    (hd : s.dispatch t payload = .error s1) : s.releaseFrames t (fuel + 1) = s1.protocolRestart t := by
  rw [State.releaseFrames, h]
  dsimp only
  rw [hd]

end

theorem Table.length_del_lt {α : Type} {k : Nat} {v : α} {x : Table α} (h : x.lookup k = some v) :
    (Table.del k x).length < x.length := by
  induction x with
  | nil => cases h
  | cons e x ih =>
    rw [Table.del, List.filter_cons]
    by_cases hk : e.1 = k
    · rw [if_neg (by simp [hk])]
      exact Nat.lt_succ_of_le (List.length_filter_le _ _)
    · rw [Table.lookup_cons_ne x hk] at h
      rw [if_pos (by simp [hk])]
      exact Nat.succ_lt_succ (ih h)

theorem State.frameTaken_port (s : State) (t : Trunk) : (s.frameTaken t).port t = { s.port t with
    reorder := (s.port t).reorder.del (s.port t).expectedFrame
    expectedFrame := (s.port t).expectedFrame + 1 } := Quad.get_set_self _ _ _

/-- A frame taken leaves the store smaller. -/
theorem State.frameTaken_reorder {s1 : State} {payload : List Byte}
    (h : (s.port t).reorder.lookup (s.port t).expectedFrame = some payload) (hd : s.dispatch t payload = .taken s1) :
    ((s1.frameTaken t).port t).reorder.length < (s.port t).reorder.length := by
  have hkept := (s.dispatch_kept t payload).reorder
  rw [hd] at hkept
  obtain ⟨hreorder, hexpected⟩ : (s1.port t).reorder = (s.port t).reorder
    ∧ (s1.port t).expectedFrame = (s.port t).expectedFrame := hkept
  rw [State.frameTaken_port, hreorder, hexpected]
  exact Table.length_del_lt h

/-- More fuel than frames held makes no difference. -/
theorem State.releaseFrames_fuel (t : Trunk) : ∀ (fuel more : Nat) (s : State), (s.port t).reorder.length ≤ fuel →
    fuel ≤ more → s.releaseFrames t fuel = s.releaseFrames t more
  | 0, more, s, hlen, _ => by
    have hnil : (s.port t).reorder = [] := List.length_eq_zero_iff.1 (Nat.le_zero.1 hlen)
    exact (State.releaseFrames_none (s := s) (by rw [hnil]; rfl)).symm
  | fuel + 1, 0, s, _, hle => absurd hle (Nat.not_succ_le_zero fuel)
  | fuel + 1, more + 1, s, hlen, hle => by
    cases hl : (s.port t).reorder.lookup (s.port t).expectedFrame with
    | none => rw [State.releaseFrames_none hl, State.releaseFrames_none hl]
    | some payload =>
      cases hd : s.dispatch t payload with
      | taken s1 =>
        have hless := State.frameTaken_reorder hl hd
        rw [State.releaseFrames_taken hl hd, State.releaseFrames_taken hl hd]
        exact State.releaseFrames_fuel t fuel more (s1.frameTaken t) (by omega) (Nat.le_of_succ_le_succ hle)
      | waits s1 => rw [State.releaseFrames_waits hl hd, State.releaseFrames_waits hl hd]
      | error s1 => rw [State.releaseFrames_error hl hd, State.releaseFrames_error hl hd]

theorem State.release_none (h : (s.port t).reorder.lookup (s.port t).expectedFrame = none) : s.release t = s :=
  State.releaseFrames_none h

section
variable {payload : List Byte} {s1 : State}

/-- With frame E held there is a step to release it by. -/
theorem State.release_fuel (h : (s.port t).reorder.lookup (s.port t).expectedFrame = some payload) :
    ∃ fuel, (s.port t).reorder.length = fuel + 1 ∧ s.release t = s.releaseFrames t (fuel + 1) := by
  unfold State.release
  cases hstore : (s.port t).reorder with
  | nil =>
    rw [hstore] at h
    cases h
  | cons e x => exact ⟨x.length, rfl, rfl⟩

theorem State.release_taken (h : (s.port t).reorder.lookup (s.port t).expectedFrame = some payload)
    (hd : s.dispatch t payload = .taken s1) : s.release t = (s1.frameTaken t).release t := by
  obtain ⟨fuel, hlen, hrelease⟩ := State.release_fuel h
  have hless := State.frameTaken_reorder h hd
  rw [hrelease, State.releaseFrames_taken h hd]
  exact (State.releaseFrames_fuel t _ fuel _ (Nat.le_refl _) (by omega)).symm

theorem State.release_waits (h : (s.port t).reorder.lookup (s.port t).expectedFrame = some payload)
    (hd : s.dispatch t payload = .waits s1) : s.release t = s1 := by
  obtain ⟨fuel, -, hrelease⟩ := State.release_fuel h
  rw [hrelease, State.releaseFrames_waits h hd]

theorem State.release_error (h : (s.port t).reorder.lookup (s.port t).expectedFrame = some payload)
    (hd : s.dispatch t payload = .error s1) : s.release t = s1.protocolRestart t := by
  obtain ⟨fuel, -, hrelease⟩ := State.release_fuel h
  rw [hrelease, State.releaseFrames_error h hd]

end

theorem exec_noticeRetry_up (h : (s.port t).state = .running ∨ (s.port t).state = .resync) :
    exec (.noticeRetry t) s = .next (s.release t) := congrArg _ (if_pos ((TrunkState.up_iff _).2 h))

theorem exec_noticeRetry_down (h : ¬ ((s.port t).state = .running ∨ (s.port t).state = .resync)) :
    exec (.noticeRetry t) s = .next s := congrArg _ (if_neg fun hup => h ((TrunkState.up_iff _).1 hup))

end

end Sys2Proof.Machine

/-! # NOTICE dispatch, settled -/

namespace Sys2Proof.Machine

section
variable {s : State} {t : Trunk} {n : Notice}

/-- A NOTICE that fits, with nothing behind it: it is accepted, and frame E leaves. -/
theorem State.release_accepted {payload : List Byte} (hheld : (s.port t).reorder.lookup (s.port t).expectedFrame = some payload)
    (hpiece : parsePiece payload = .notice n) {u : State} (hd : s.dispatchNotice t n = .taken u) (hports : u.ports = s.ports)
    (hnext : (s.port t).reorder.lookup ((s.port t).expectedFrame + 1) = none) : s.release t = u.frameTaken t := by
  have hdispatch : s.dispatch t payload = .taken u := by
    rw [State.dispatch, hpiece]
    exact hd
  have hport : u.port t = s.port t := by rw [State.port, hports, State.port]
  rw [State.release_taken hheld hdispatch]
  refine State.release_none ?_
  rw [State.frameTaken_port, hport]
  exact (Table.lookup_del_ne _ (Nat.succ_ne_self _)).trans hnext

end

/-- Settles O52: each case of a NOTICE by the lemma that says what it leaves; the head of the store by the release. -/
theorem noticeClassified : Obligations.NoticeClassified := by
  refine ⟨fun s k r => ⟨fun j => State.inRec_setInRec s k j r, rfl⟩, State.discardInbound_eq, State.adopt_eq,
    fun s t k n => rfl, ?accept, Notice.malformed_iff, ?dispatch, ?down, fun s t h => exec_noticeRetry_up h, ?head⟩
  case accept =>
    intro s k n r slots room mapped v e
    refine ⟨fun h => State.acceptNotice_waits fun h' => h (State.roomFor_iff.1 h'), fun h => ?_⟩
    obtain ⟨hbody, hempty⟩ := State.acceptNotice_room (k := k) (State.roomFor_iff.2 h)
    exact ⟨s.noticePinned n, State.noticePinned_mapped, State.noticePinned_blocked, hbody, hempty⟩
  case dispatch =>
    intro s t n k r
    refine ⟨State.dispatchNotice_malformed, State.dispatchNotice_beyond, fun hm hb => ?_⟩
    have heq : s.dispatchNotice t n = if r.epoch ≠ some n.epoch then (s.adopt k n).acceptNotice k n
        else if r.reassembly.isSome = true then .error s
        else if n.seq = r.expected then s.acceptNotice k n
        else if n.seq < r.expected then .taken (s.duplicateNotice t k n)
        else .error s := State.dispatchNotice_eq hm hb
    refine ⟨fun hepoch => ?_, fun hepoch hsome => ?_, fun hepoch hnone hseq => ?_, fun hepoch hnone hseq => ?_,
      fun hepoch hnone hseq => ?_⟩
    · have hne : r.epoch ≠ some n.epoch := hepoch.elim (fun h => by rw [h]; exact fun h' => by cases h') id
      rw [heq, if_pos hne]
    · rw [heq, if_neg (not_not.2 hepoch), if_pos hsome]
    · rw [heq, if_neg (not_not.2 hepoch), if_neg (by simp [hnone]), if_pos hseq]
    · rw [heq, if_neg (not_not.2 hepoch), if_neg (by simp [hnone]), if_neg (Nat.ne_of_lt hseq), if_pos hseq]
    · rw [heq, if_neg (not_not.2 hepoch), if_neg (by simp [hnone]), if_neg (Nat.ne_of_gt hseq),
        if_neg (Nat.not_lt.2 hseq.le)]
  case down =>
    intro s t hrun hresync
    exact exec_noticeRetry_down fun h => h.elim hrun hresync
  case head =>
    intro s t payload n hup hheld hpiece hm hb k r slots hepoch hnone hseq
    have haccept : s.dispatchNotice t n = s.acceptNotice k n := by
      have heq : s.dispatchNotice t n = if r.epoch ≠ some n.epoch then (s.adopt k n).acceptNotice k n
          else if r.reassembly.isSome = true then .error s
          else if n.seq = r.expected then s.acceptNotice k n
          else if n.seq < r.expected then .taken (s.duplicateNotice t k n)
          else .error s := State.dispatchNotice_eq hm hb
      rw [heq, if_neg (not_not.2 hepoch), if_neg (by simp [hnone]), if_pos hseq]
    refine ⟨fun hfull => ?_, fun hbacklog hslots hseg hnext => ?_⟩
    · have hroom : ¬ s.roomFor n = true := fun h => by
        obtain ⟨hbacklog, hslots⟩ := State.roomFor_iff.1 h
        exact hfull.elim (Nat.not_le.2 hbacklog) (Nat.not_lt.2 hslots)
      rw [exec_noticeRetry_up hup]
      refine congrArg _ (State.release_waits hheld (s1 := s) ?_)
      rw [State.dispatch, hpiece]
      exact haccept.trans (State.acceptNotice_waits hroom)
    · have hroom : s.roomFor n = true := State.roomFor_iff.2 ⟨hbacklog, hslots⟩
      obtain ⟨hbody, -⟩ := State.acceptNotice_room (k := k) hroom
      obtain ⟨hbodyStore, hclock, hjournal, hbuckets, hports, hsups, hnow⟩ := s.noticePinned_rest n
      have happly := congrArg ApplyUnit.backlog (s.noticePinned_apply n)
      have hrecs := s.noticePinned_inRec n
      have haccepted := haccept.trans (hbody hseg)
      generalize s.noticePinned n = w at *
      have hrelease := State.release_accepted (t := t) hheld hpiece haccepted hports hnext
      have hport : State.port (w.setInRec k { r with skip := none, reassembly := some (n.entry (s.maps n)) }) t = s.port t := by
        rw [State.port, State.setInRec_ports, hports, State.port]
      have hleft := (w.setInRec k { r with skip := none, reassembly := some (n.entry (s.maps n)) }).frameTaken_port t
      rw [hport] at hleft
      refine ⟨_, s.maps n, (exec_noticeRetry_up hup).trans (congrArg _ hrelease), ?_, fun j hj => ?_, happly,
        congrArg BodyStore.inUse hbodyStore, hclock, by rw [hleft]; rfl, by rw [hleft], hjournal, hbuckets, hsups, hnow⟩
      · exact (State.inRec_setInRec _ _ _ _).trans (if_pos rfl)
      · exact (State.inRec_setInRec _ _ _ _).trans ((if_neg hj).trans (hrecs j))

end Sys2Proof.Machine

/-! # CARRY_RECEIVED, settled (R132, R133, R139, R141 to R143) -/

namespace Sys2Proof.Machine

section
variable {s : State} {t : Trunk}

/-! ## An arrival that carries no sender -/

/-- What an arrival counted and marked leaves behind the lock. -/
theorem State.arrivedPassed_spec (s : State) (t : Trunk) (a b c : Bool) :
    let u := (s.arrivedWith t a b c).passedLock t
    (∃ l, u.port t = { s.port t with
      state := (u.port t).state, rxPos := (s.port t).rxPos + 1, lock := l, prevHead := false
      stats := { (s.port t).stats with framesReceived := (s.port t).stats.framesReceived + 1 } })
    ∧ u = { s with ports := u.ports, sups := u.sups, sli := u.sli }
    ∧ ((s.port t).state.up = false → (u.port t).state = (s.port t).state)
    ∧ ((s.port t).state.up = true → (u.port t).state.up = true) := by
  have hport := s.arrivedWith_port t a b c
  intro u
  obtain ⟨l, hpassed⟩ : ∃ l, u.port t = { (s.arrivedWith t a b c).port t with
      state := (u.port t).state, lock := l, prevHead := false } := (s.arrivedWith t a b c).passedLock_port t
  have hleft : u = { s.arrivedWith t a b c with ports := u.ports, sups := u.sups, sli := u.sli } :=
    (s.arrivedWith t a b c).passedLock_frame t
  obtain ⟨hstays, hup⟩ := (s.arrivedWith t a b c).passedLock_state t
  rw [hport] at hpassed hstays hup
  refine ⟨⟨l, hpassed⟩, hleft, fun hdown => hstays (fun h => ?_) (fun h => ?_), fun h => ?_⟩
  · simp [show (s.port t).state = _ from h, TrunkState.up] at hdown
  · simp [show (s.port t).state = _ from h, TrunkState.up] at hdown
  · exact (TrunkState.up_iff _).2 (hup ((TrunkState.up_iff _).1 h))

theorem State.plainArrival_up (h : (s.port t).state = .running ∨ (s.port t).state = .resync) :
    s.plainArrival t = (s.arrivedWith t false false true).passedLock t := by
  have hlocks : (s.port t).state ∈ [TrunkState.hunt, .align, .running, .resync] := by
    rcases h with h | h
    · simp [h]
    · simp [h]
  rw [State.plainArrival_eq, decide_eq_true hlocks]

theorem State.plainArrival_settled (h : (s.port t).state ∈ [TrunkState.hunt, .align, .down, .faulted]) :
    s.plainArrival t = (s.arrivedWith t false false
      (decide ((s.port t).state = .hunt ∨ (s.port t).state = .align))).passedLock t
    ∧ (s.port t).state.up = false := by
  have hmarks : ∀ st, st ∈ [TrunkState.hunt, .align, .down, .faulted] →
      decide (st ∈ [TrunkState.hunt, .align, .running, .resync]) = decide (st = .hunt ∨ st = .align) ∧ st.up = false := by
    decide
  obtain ⟨hmark, hup⟩ := hmarks _ h
  rw [State.plainArrival_eq, hmark]
  exact ⟨rfl, hup⟩

/-! ## CARRY frames (R132) -/

theorem Port.discards_iff (p : Port) (n : Nat) : p.discards n = true ↔
    n < p.expectedFrame ∨ (p.reorder.lookup n).isSome = true ∨ p.expectedFrame + 32768 ≤ n ∨ n = 281474976710655 := by
  simp only [Port.discards, Bool.or_eq_true, decide_eq_true_eq, beq_iff_eq, or_assoc]
  rfl

theorem exec_carryReceived (n : Nat) (payload : List Byte) (hoff : (s.port t).state ≠ .off) (htest : (s.port t).state ≠ .test) :
    exec (.carryReceived t n payload) s = .next (State.carryArrives t n payload s) :=
  congrArg _ (State.arrival_eq s t _ hoff htest)

theorem State.carryArrives_dropped {n : Nat} {payload : List Byte}
    (h : ((s.plainArrival t).port t).state.up = false ∨ ((s.plainArrival t).port t).discards n = true) :
    State.carryArrives t n payload s = s.plainArrival t := by
  refine if_neg ?_
  rw [Bool.and_eq_true, Bool.not_eq_true']
  rintro ⟨hup, hkept⟩
  rcases h with h | h
  · rw [h] at hup
    exact Bool.false_ne_true hup
  · rw [h] at hkept
    exact Bool.false_ne_true hkept.symm

theorem State.carryArrives_held {n : Nat} (payload : List Byte)
    (hup : ((s.plainArrival t).port t).state.up = true) (h : ¬ ((s.plainArrival t).port t).discards n = true) :
    State.carryArrives t n payload s = ((s.plainArrival t).holdFrame t n payload).release t :=
  if_pos (by rw [hup, Bool.true_and, Bool.not_eq_true', ← Bool.not_eq_true]; exact h)

theorem State.holdFrame_port (s : State) (t : Trunk) (n : Nat) (payload : List Byte) : (s.holdFrame t n payload).port t =
    { s.port t with reorder := (s.port t).reorder.put n payload } := Quad.get_set_self _ _ _

/-! ## SEGMENTs (R142) -/

theorem InEntry.takes_iff (e : InEntry) (g : Segment) : e.takes g = true ↔ e.notice.seq = g.seq ∧ e.received = g.index
    ∧ g.count = min 8128 (e.notice.bodyLength - g.index * 8128) ∧ g.bytes.length = g.count := by
  simp only [InEntry.takes, Bool.and_eq_true, beq_iff_eq, and_assoc]
  rfl

theorem Skip.takes_iff (x : Skip) (g : Segment) : x.takes g = true ↔ x.seq = g.seq ∧ x.passed = g.index := by
  simp only [Skip.takes, Bool.and_eq_true, beq_iff_eq]

section
variable {g : Segment}

theorem State.dispatchSegment_beyond (h : 4096 ≤ g.bucket) : s.dispatchSegment t g = .error s := if_pos h

theorem State.dispatchSegment_next (hb : g.bucket < 4096) {e : InEntry}
    (he : (s.inRec (recKey t g.bucket)).reassembly = some e) (htakes : e.takes g = true) :
    s.dispatchSegment t g = if e.received + 1 < e.notice.segments then
      .taken (s.setInRec (recKey t g.bucket) { s.inRec (recKey t g.bucket) with reassembly := some (e.addSegment g) })
    else s.completeEntry (recKey t g.bucket) (e.addSegment g) := by
  have hfilter : (s.inRec (recKey t g.bucket)).reassembly.filter (·.takes g) = some e := by
    rw [he, Option.filter_some, if_pos htakes]
  unfold State.dispatchSegment
  dsimp only
  rw [if_neg (show ¬ Config.buckets ≤ g.bucket from Nat.not_le.2 hb), hfilter]
  rfl

theorem State.dispatchSegment_pass (hb : g.bucket < 4096)
    (hnone : (s.inRec (recKey t g.bucket)).reassembly.filter (·.takes g) = none) {y : Skip}
    (hy : (s.inRec (recKey t g.bucket)).skip = some y) (htakes : y.takes g = true) :
    s.dispatchSegment t g = .taken ((s.countDuplicate t).setInRec (recKey t g.bucket)
      { s.inRec (recKey t g.bucket) with skip := y.pass }) := by
  have hfilter : (s.inRec (recKey t g.bucket)).skip.filter (·.takes g) = some y := by
    rw [hy, Option.filter_some, if_pos htakes]
  unfold State.dispatchSegment
  dsimp only
  rw [if_neg (show ¬ Config.buckets ≤ g.bucket from Nat.not_le.2 hb), hnone, hfilter]

theorem State.dispatchSegment_stray (hb : g.bucket < 4096)
    (hnone : (s.inRec (recKey t g.bucket)).reassembly.filter (·.takes g) = none)
    (hskip : (s.inRec (recKey t g.bucket)).skip.filter (·.takes g) = none) : s.dispatchSegment t g = .error s := by
  unfold State.dispatchSegment
  dsimp only
  rw [if_neg (show ¬ Config.buckets ≤ g.bucket from Nat.not_le.2 hb), hnone, hskip]

end

theorem State.completeEntry_intact {k : Nat} {e : InEntry} (h : photoFinish e.crc = e.notice.check) :
    s.completeEntry k e = .taken (State.forwardTest (s.setInRec k { s.inRec k with
      reassembly := none, queue := (s.inRec k).queue ++ [e], expected := (s.inRec k).expected + 1 }) k) := if_pos h

theorem State.completeEntry_mismatch {k : Nat} {e : InEntry} (h : photoFinish e.crc ≠ e.notice.check) :
    s.completeEntry k e = .error (State.discardInbound (s.setInRec k { s.inRec k with reassembly := none }) e) := if_neg h

end

/-- Settles O51: release step by step, a SEGMENT by Table 7-4's cases, and a CARRY frame by Table 7-1. -/
theorem carryPlaced : Obligations.CarryPlaced := by
  refine ⟨fun s t h => State.release_none h, ?release, ?dispatch, ?segment, ?complete, ?carry, ?settled, ?quiet,
    fun t => by cases t <;> exact ⟨rfl, rfl⟩, ?part, ?trunk⟩
  case release =>
    intro s t payload h
    exact ⟨fun s1 hd => State.release_taken h hd, fun s1 hd => State.release_waits h hd, fun s1 hd => State.release_error h hd⟩
  case dispatch =>
    intro s t payload
    refine ⟨fun n hn => ?_, fun g hg => ?_, fun hstray => ?_⟩
    · rw [State.dispatch, hn]
    · rw [State.dispatch, hg]
    · rw [State.dispatch, hstray]
  case segment =>
    intro s t g k r next passes p
    have hrebuilt : (∀ e, ¬ next e) → r.reassembly.filter (·.takes g) = none := fun hnone =>
      Option.filter_eq_none_iff.2 fun e he htakes => hnone e ⟨he, (InEntry.takes_iff _ _).1 htakes⟩
    refine ⟨State.dispatchSegment_beyond, fun hb => ⟨fun e he => ?_, fun y hnone hy => ?_, fun hnone hskip => ?_⟩⟩
    · obtain ⟨hsome, htakes⟩ := he
      have hnext := State.dispatchSegment_next (s := s) (t := t) hb hsome ((InEntry.takes_iff _ _).2 htakes)
      exact ⟨fun hmore => hnext.trans (if_pos hmore), fun hlast => hnext.trans (if_neg (Nat.not_lt.2 hlast))⟩
    · obtain ⟨hsome, htakes⟩ := hy
      exact State.dispatchSegment_pass hb (hrebuilt hnone) hsome ((Skip.takes_iff _ _).2 htakes)
    · refine State.dispatchSegment_stray hb (hrebuilt hnone) (Option.filter_eq_none_iff.2 fun y hy htakes => ?_)
      exact hskip y ⟨hy, (Skip.takes_iff _ _).1 htakes⟩
  case complete =>
    intro s k e
    exact ⟨State.completeEntry_intact, State.completeEntry_mismatch⟩
  case carry =>
    intro s t n payload hup p out arrived
    have harrives := State.plainArrival_up hup
    obtain ⟨⟨l, hport⟩, hframe, -, hkeeps⟩ := s.arrivedPassed_spec t false false true
    have hexec := exec_carryReceived (s := s) (t := t) n payload (fun h => by simp [h] at hup) (fun h => by simp [h] at hup)
    have hdrop := State.carryArrives_dropped (s := s) (t := t) (n := n) (payload := payload)
    have hheld := State.carryArrives_held (s := s) (t := t) (n := n) payload
    rw [harrives] at hdrop hheld
    have harrivedUp := hkeeps ((TrunkState.up_iff _).2 hup)
    generalize hv : State.passedLock (s.arrivedWith t false false true) t = v at *
    have hv : v = arrived := hv.symm
    have hdiscards : (v.port t).discards n = true ↔ out := by
      rw [Port.discards_iff, hport]
    refine ⟨fun hout => ?_, fun hin => ?_⟩
    · exact ⟨v, hexec.trans (congrArg _ (hdrop (.inr (hdiscards.2 hout)))), hv, by rw [hport], by rw [hport],
        (congrArg State.apply hframe :), (congrArg State.map hframe :), (congrArg State.body hframe :),
        (congrArg State.journal hframe :), (congrArg State.clock hframe :), by rw [hport]⟩
    · have hreorder : (v.port t).reorder = p.reorder := by rw [hport]
      have hexpected : (v.port t).expectedFrame = p.expectedFrame := by rw [hport]
      have hrx : (v.port t).rxPos = p.rxPos + 1 := by rw [hport]
      have hleft := v.holdFrame_port t n payload
      rw [hreorder] at hleft
      refine ⟨v.holdFrame t n payload, hexec.trans (congrArg _ (hheld harrivedUp fun h => hin (hdiscards.1 h))), ?_, ?_,
        fun m hm => ?_, ?_, (congrArg State.apply hframe :), (congrArg State.map hframe :), (congrArg State.body hframe :),
        (congrArg State.journal hframe :), (congrArg State.clock hframe :), ?_, fun hn hnone => State.release_none ?_⟩
      · rw [← hv, State.holdFrame, hreorder]
        rfl
      · rw [hleft]
        exact Table.lookup_put_self _ _ _
      · rw [hleft]
        exact Table.lookup_put_ne _ _ hm
      · rw [hleft]
        exact hexpected
      · rw [hleft]
        exact hrx
      · rw [hleft, hexpected]
        exact (Table.lookup_put_ne _ _ hn.symm).trans hnone
  case settled =>
    intro s t n payload hstate
    obtain ⟨harrives, hdown⟩ := State.plainArrival_settled hstate
    obtain ⟨⟨l, hport⟩, hframe, hstays, -⟩ := s.arrivedPassed_spec t false false
      (decide ((s.port t).state = .hunt ∨ (s.port t).state = .align))
    rw [← harrives] at hport hframe hstays
    have hcarry := State.carryArrives_dropped (s := s) (t := t) (n := n) (payload := payload) (.inl (by rw [hstays hdown]; exact hdown))
    have hexec := (exec_carryReceived n payload (fun h => by simp [h] at hstate) (fun h => by simp [h] at hstate)).trans
      (congrArg _ hcarry)
    generalize s.plainArrival t = u at *
    exact ⟨u, hexec, harrives, by rw [hport], by rw [hport], (congrArg State.apply hframe :), by rw [hport]⟩
  case quiet =>
    intro s t n payload
    exact ⟨fun h => congrArg _ (State.arrival_off _ h), fun h => congrArg _ (State.arrival_test _ h)⟩
  case part =>
    intro s t
    have hport : s.partRestart.port t = (s.port t).partRestarted := Quad.get_map _ _ _
    rw [hport]
    exact ⟨rfl, rfl⟩
  case trunk =>
    intro s t goal cause
    rw [State.trunkRestart_port, Port.restarted_eq]
    exact ⟨rfl, rfl⟩

end Sys2Proof.Machine

/-! # Entry acknowledgements (R26, R27, R29, R6) -/

namespace Sys2Proof.Machine

section
variable {s : State} {t : Trunk} {a : EntryAck}

/-! ## Which acknowledgements count, and which entries they cover -/

theorem State.badAck_iff : s.badAck t a = true ↔ (s.bucket a.bucket).state = .absent
    ∨ a.epoch ≠ (s.bucket a.bucket).epochs.get t ∨ (s.bucket a.bucket).nextSeq - 1 < a.seq
    ∨ (s.bucket a.bucket).targets.get t = false := by
  simp only [State.badAck, Bool.or_eq_true, bne_iff_ne, decide_eq_true_eq, Bool.not_eq_true', or_assoc, ne_eq]

theorem JEntry.coveredBy_eq (e : JEntry) (t : Trunk) (a : EntryAck) : e.coveredBy t a =
    (e.bucket == a.bucket && (e.peers.get t).isSome && e.seq.any fun n => decide (n ≤ a.seq)) := by
  rw [JEntry.coveredBy]
  cases e.seq with
  | none => rfl
  | some n => rfl

theorem JEntry.coveredBy_bucket {e : JEntry} (h : e.coveredBy t a = true) : e.bucket = a.bucket := by
  rw [JEntry.coveredBy_eq, Bool.and_eq_true, Bool.and_eq_true, beq_iff_eq] at h
  exact h.1.1

/-! ## The buckets while entries of one bucket leave -/

theorem State.removeEntry_settles (s : State) (e : JEntry) : ¬ (s.removeEntry e).DrainsNow e.bucket :=
  (s.takeOut e).drainTest_settles e.bucket

theorem State.foldRemove_settles {b : Nat} {l : List JEntry} (hl : ∀ e ∈ l, e.bucket = b) (hne : l ≠ []) (s : State) :
    ¬ (l.foldl State.removeEntry s).DrainsNow b := by
  obtain ⟨xs, e, rfl⟩ := (List.eq_nil_or_concat l).resolve_left hne
  rw [List.concat_eq_append, List.foldl_append, List.foldl_cons, List.foldl_nil, ← hl e (by simp)]
  exact State.removeEntry_settles _ e

theorem State.foldRemove_others {b c : Nat} (hc : c ≠ b) : ∀ {l : List JEntry} {s : State}, (∀ e ∈ l, e.bucket = b) →
    (l.foldl State.removeEntry s).bucket c = s.bucket c
  | [], _, _ => rfl
  | e :: l, s, hl => by
    rw [List.foldl_cons, State.foldRemove_others hc fun x hx => hl x (List.mem_cons_of_mem _ hx)]
    exact (s.removeEntry_drained e).others c (by rw [hl e List.mem_cons_self]; exact hc)

/-! ## An accepted acknowledgement -/

/-- The journal and the bucket as an accepted acknowledgement leaves them, before the entries without a slot go. -/
def State.acked (s : State) (t : Trunk) (a : EntryAck) : State := { s with
  ports := s.ports.set t { s.port t with stats := { (s.port t).stats with
    entriesAcked := (s.port t).stats.entriesAcked + BitVec.ofNat 32 (s.journal.entries.countP (·.coveredBy t a)) } }
  buckets := s.buckets.set .reset a.bucket { s.bucket a.bucket with rebase := (s.bucket a.bucket).rebase.set t false }
  journal := { s.journal with entries := s.journal.entries.map fun e => if e.coveredBy t a then e.dropSlot t else e } }

/-- The entries that an accepted acknowledgement leaves without a slot. -/
def State.ackGone (s : State) (t : Trunk) (a : EntryAck) : List JEntry :=
  s.journal.entries.filter fun e => e.coveredBy t a && (e.dropSlot t).noPending

theorem State.acceptAck_none (h : ∀ e ∈ s.journal.entries, e.coveredBy t a = false) : s.acceptAck t a = s := by
  have hnil : s.journal.entries.filter (·.coveredBy t a) = [] :=
    List.filter_eq_nil_iff.2 fun e he => by rw [h e he]; exact Bool.false_ne_true
  unfold State.acceptAck
  dsimp only
  rw [hnil]
  rfl

theorem State.acceptAck_some (h : ∃ e ∈ s.journal.entries, e.coveredBy t a = true) : s.acceptAck t a =
    State.refillRefresh (((s.ackGone t a).map (·.dropSlot t)).foldl State.removeEntry (s.acked t a)) := by
  have hsome : ¬ (s.journal.entries.filter (·.coveredBy t a)).isEmpty = true := by
    obtain ⟨e, he, hcovered⟩ := h
    rw [List.isEmpty_iff]
    exact List.ne_nil_of_mem (List.mem_filter.2 ⟨he, hcovered⟩)
  have hgone : ((s.journal.entries.filter (·.coveredBy t a)).map (·.dropSlot t)).filter (·.noPending) =
      (s.ackGone t a).map (·.dropSlot t) := by
    rw [List.filter_map, List.filter_filter, State.ackGone]
    refine congrArg (List.map _) (List.filter_congr fun e _ => Bool.and_comm _ _)
  unfold State.acceptAck
  dsimp only
  rw [if_neg hsome, hgone, ← List.countP_eq_length_filter]
  rfl

theorem State.acked_emptied (hpending : ∀ e ∈ s.journal.entries, e.noPending = false) :
    (s.acked t a).emptied = (s.ackGone t a).map (·.dropSlot t) := by
  show (s.journal.entries.map _).filter _ = _
  rw [List.filter_map, State.ackGone]
  have hkeep : s.journal.entries.filter ((fun e => e.noPending) ∘ fun e => if e.coveredBy t a then e.dropSlot t else e) =
      s.journal.entries.filter fun e => e.coveredBy t a && (e.dropSlot t).noPending := by
    refine List.filter_congr fun e he => ?_
    dsimp only [Function.comp]
    by_cases hc : e.coveredBy t a = true
    · rw [if_pos hc, hc, Bool.true_and]
    · rw [if_neg hc, hpending e he, Bool.eq_false_iff.2 hc, Bool.false_and]
  refine (congrArg (List.map _) hkeep).trans (List.map_congr_left fun e he => ?_)
  obtain ⟨-, hc⟩ := List.mem_filter.1 he
  rw [if_pos (Bool.and_eq_true _ _ ▸ hc).1]

/-- What an accepted acknowledgement leaves behind the removals. -/
theorem State.acked_removed (hentries : EntriesOk s.journal.entries) :
    let w := ((s.ackGone t a).map (·.dropSlot t)).foldl State.removeEntry (s.acked t a)
    w = { s.acked t a with
      journal := { s.journal with entries :=
        (s.journal.entries.map fun e => if e.coveredBy t a then e.dropSlot t else e).filter fun e => !e.noPending }
      body := bodyAfter s.body (s.ackGone t a)
      map := mapAfter s.map (s.ackGone t a)
      buckets := w.buckets } := by
  have hnodup : ((s.acked t a).journal.entries.map (·.index)).Nodup := by
    have hindex : (s.journal.entries.map fun e => if e.coveredBy t a then e.dropSlot t else e).map (·.index) =
        s.journal.entries.map (·.index) := JEntry.map_index fun e => by
      split
      · rfl
      · rfl
    exact hindex.symm ▸ hentries.positions
  have hbody : bodyAfter s.body ((s.ackGone t a).map (·.dropSlot t)) = bodyAfter s.body (s.ackGone t a) :=
    bodyAfter_congr _ _ _ fun _ => ⟨rfl, rfl⟩
  have hmap : mapAfter s.map ((s.ackGone t a).map (·.dropSlot t)) = mapAfter s.map (s.ackGone t a) :=
    mapAfter_congr _ _ _ fun _ => ⟨rfl, rfl, rfl⟩
  intro w
  have hw : w = _ := State.foldRemove_eq _ _
  rw [← State.acked_emptied hentries.pending, State.filter_emptied hnodup, State.acked_emptied hentries.pending] at hw
  rw [← hbody, ← hmap]
  exact hw

/-- The buckets behind an accepted acknowledgement. -/
theorem State.acked_buckets (h : ∃ e ∈ s.journal.entries, e.coveredBy t a = true) :
    let w := ((s.ackGone t a).map (·.dropSlot t)).foldl State.removeEntry (s.acked t a)
    let r := s.bucket a.bucket
    let drained := r.state = .draining ∧ ∀ e ∈ w.journal.entries, e.bucket ≠ a.bucket
    (drained → w.bucket a.bucket = r.drained)
    ∧ (¬ drained → w.bucket a.bucket = { r with rebase := r.rebase.set t false })
    ∧ ∀ b, b ≠ a.bucket → w.bucket b = s.bucket b := by
  have hbuckets : ∀ e ∈ (s.ackGone t a).map (·.dropSlot t), e.bucket = a.bucket := by
    intro e he
    obtain ⟨x, hx, rfl⟩ := List.mem_map.1 he
    exact JEntry.coveredBy_bucket (e := x) (Bool.and_eq_true _ _ ▸ (List.mem_filter.1 hx).2).1
  have hown : (s.acked t a).bucket a.bucket =
      { s.bucket a.bucket with rebase := (s.bucket a.bucket).rebase.set t false } := Table.get_set_self _ _ _ _
  have hother : ∀ b, b ≠ a.bucket → (s.acked t a).bucket b = s.bucket b := fun b hb => Table.get_set_ne _ _ _ hb
  intro w r drained
  have hsettled : ¬ w.DrainsNow a.bucket := by
    by_cases hnil : s.ackGone t a = []
    · obtain ⟨e, he, hcovered⟩ := h
      rintro ⟨-, hempty⟩
      have hw : w = s.acked t a := by
        unfold w
        rw [hnil]
        rfl
      rw [hw] at hempty
      refine hempty (e.dropSlot t) (List.mem_map.2 ⟨e, he, if_pos hcovered⟩) (JEntry.coveredBy_bucket (e := e) hcovered)
    · exact State.foldRemove_settles hbuckets (by simpa using hnil) _
  obtain ⟨hpassed, hstays⟩ := (DrainedOrSame.removeAll ((s.ackGone t a).map (·.dropSlot t))
    (DrainedOrSame.refl (s.acked t a))).settled hsettled
  rw [hown] at hpassed hstays
  exact ⟨hpassed, hstays, fun b hb => (State.foldRemove_others hb hbuckets).trans (hother b hb)⟩

end

/-- Settles O50: the four cases that discard one; else the covered entries lose the slot, and those left without one go. -/
theorem entryAcknowledgements : Obligations.EntryAcknowledgements := by
  intro s t a r bad covered
  have hcovered : ∀ e : JEntry, e.coveredBy t a = covered e := fun e => e.coveredBy_eq t a
  have hgood : ¬ bad → s.entryAck t a = s.acceptAck t a := fun hbad => if_neg fun h => hbad (State.badAck_iff.1 h)
  refine ⟨fun hbad => if_pos (State.badAck_iff.2 hbad), fun hbad hnone => ?_, fun hbad hentries hsome => ?_⟩
  · exact (hgood hbad).trans (State.acceptAck_none fun e he => (hcovered e).trans (hnone e he))
  · have hsome : ∃ e ∈ s.journal.entries, e.coveredBy t a = true := by
      obtain ⟨e, he, hc⟩ := hsome
      exact ⟨e, he, (hcovered e).trans hc⟩
    have heq := (hgood hbad).trans (State.acceptAck_some hsome)
    have hremoved := State.acked_removed (t := t) (a := a) hentries
    obtain ⟨hpassed, hstays, hothers⟩ := State.acked_buckets (t := t) hsome
    have hfun : (fun e : JEntry => e.coveredBy t a) = covered := funext hcovered
    generalize ((s.ackGone t a).map (·.dropSlot t)).foldl State.removeEntry (s.acked t a) = w at *
    intro u off gone
    have hu : u = w.refillRefresh := heq
    have hgone : s.ackGone t a = gone := List.filter_congr fun e _ => by
      rw [hcovered e]
      rfl
    have hentriesLeft : w.journal = { s.journal with
        entries := (s.journal.entries.map fun e => if covered e then off e else e).filter fun e => !e.noPending } := by
      rw [hremoved]
      simp only [hcovered]
      rfl
    have hbody : w.body = bodyAfter s.body gone := by rw [hremoved, hgone]
    have hmap : w.map = mapAfter s.map gone := by rw [hremoved, hgone]
    have hports : w.ports = s.ports.set t { s.port t with stats := { (s.port t).stats with
        entriesAcked := (s.port t).stats.entriesAcked + BitVec.ofNat 32 (s.journal.entries.countP covered) } } := by
      rw [hremoved, ← hfun]
      rfl
    have hjournal : u.journal = w.journal := by rw [hu, State.refillRefresh_journal]
    have huports : u.ports = w.ports := by rw [hu, State.refillRefresh_ports]
    have hbucket : ∀ b, u.bucket b = w.bucket b := fun b => by
      rw [hu, State.bucket, State.refillRefresh_buckets, State.bucket]
    refine ⟨?_, ?_, ?_, ?_, ?_, ⟨fun hd => ?_, fun hd => ?_⟩, fun b hb => ?_, ?_, fun v hv => ?_, ?_, ?_, ?_, ?_, ?_⟩
    · rw [hjournal, hentriesLeft]
    · rw [hu, State.refillRefresh_map, hmap]
    · rw [hu, State.refillRefresh_body_eq, hbody]
    · rw [hu]
      exact State.refillRefresh_current w
    · rw [hjournal, hentriesLeft]
    · rw [hbucket]
      exact hpassed (hjournal ▸ hd)
    · rw [hbucket]
      exact hstays fun h => hd (hjournal ▸ h)
    · rw [hbucket]
      exact hothers b hb
    · rw [State.port, huports, hports, Quad.get_set_self]
    · rw [State.port, huports, hports, Quad.get_set_ne _ _ hv, State.port]
    · rw [hu, State.refillRefresh_now, hremoved]
      rfl
    · rw [hu, State.refillRefresh_clock, hremoved]
      rfl
    · rw [hu, State.refillRefresh_apply, hremoved]
      rfl
    · rw [hu, State.refillRefresh_sups, hremoved]
      rfl
    · rw [hu, State.refillRefresh_sli, hremoved]
      rfl

end Sys2Proof.Machine

/-! # SERVICE frames (R82, R92, R124, R126 to R128, R170) -/

namespace Sys2Proof.Machine

/-! ## The last element with a property -/

theorem getLast?_filter_iff {α : Type} {p : α → Bool} {l : List α} {m : α} : (l.filter p).getLast? = some m ↔
    p m = true ∧ ∃ xs ys, l = xs ++ m :: ys ∧ ∀ y ∈ ys, p y = false := by
  rw [List.getLast?_eq_head?_reverse, ← List.filter_reverse, List.head?_filter, List.find?_eq_some_iff_append]
  refine and_congr_right fun _ => ⟨?_, ?_⟩
  · rintro ⟨as, bs, hsplit, hnone⟩
    refine ⟨bs.reverse, as.reverse, ?_, fun y hy => by simpa using hnone y (List.mem_reverse.1 hy)⟩
    rw [← List.reverse_reverse l, hsplit]
    simp
  · rintro ⟨xs, ys, hsplit, hnone⟩
    refine ⟨ys.reverse, xs.reverse, ?_, fun a ha => by simpa using hnone a (List.mem_reverse.1 ha)⟩
    rw [hsplit]
    simp

/-! ## What entry acknowledgements leave -/

/-- Entry acknowledgements change of the trunk one statistic, and of the link one. -/
structure AckKept (s : State) (t : Trunk) (u : State) : Prop where
  frame : u = { s with
    ports := u.ports, journal := u.journal, buckets := u.buckets, map := u.map, body := u.body, freeCount := u.freeCount
    sli := { s.sli with stats := u.sli.stats } }
  ports : ∃ n, u.ports = s.ports.set t { s.port t with stats := { (s.port t).stats with entriesAcked := n } }

section
variable {s u : State} {t : Trunk}

theorem AckKept.refl (s : State) (t : Trunk) : AckKept s t s where
  frame := rfl
  ports := ⟨(s.port t).stats.entriesAcked, (Quad.set_get s.ports t).symm⟩

theorem AckKept.port (h : AckKept s t u) : ∃ n, u.port t =
    { s.port t with stats := { (s.port t).stats with entriesAcked := n } } := by
  obtain ⟨n, hports⟩ := h.ports
  exact ⟨n, by rw [State.port, hports, Quad.get_set_self]⟩

theorem AckKept.trans {v : State} (h : AckKept s t u) (h' : AckKept u t v) : AckKept s t v where
  frame := by
    have hu := h.frame
    have hv := h'.frame
    rw [hu] at hv
    exact hv
  ports := by
    obtain ⟨n, hport⟩ := h.port
    obtain ⟨n', hports⟩ := h.ports
    obtain ⟨n'', hports'⟩ := h'.ports
    refine ⟨n'', ?_⟩
    rw [hports', hport, hports, Quad.set_set]

theorem State.acceptAck_kept (s : State) (t : Trunk) (a : EntryAck) : AckKept s t (s.acceptAck t a) := by
  by_cases h : ∃ e ∈ s.journal.entries, e.coveredBy t a = true
  · rw [State.acceptAck_some h, State.foldRemove_eq]
    exact ⟨rfl, _, rfl⟩
  · rw [State.acceptAck_none fun e he => by simpa using fun hc => h ⟨e, he, hc⟩]
    exact .refl s t

theorem State.entryAck_kept (s : State) (t : Trunk) (a : EntryAck) : AckKept s t (s.entryAck t a) := by
  unfold State.entryAck
  split
  · exact ⟨rfl, (AckKept.refl s t).ports⟩
  · exact s.acceptAck_kept t a

theorem State.entryAcks_kept (t : Trunk) : ∀ (l : List EntryAck) (s : State), AckKept s t (l.foldl (State.entryAck t) s)
  | [], s => .refl s t
  | a :: l, s => (s.entryAck_kept t a).trans (State.entryAcks_kept t l (s.entryAck t a))

end

/-! ## The store after a SERVICE frame (R124, R126, R127) -/

section
variable {p : Port} {f : ServiceFrame} {m x : SentFrame} {now : Nat}

/-- The frame is overtaken by a marked one: the highest marked frame of the store has a higher number, and was first sent
behind its last sending. -/
def Port.overtaken (p : Port) (f : ServiceFrame) (x : SentFrame) : Prop := ∃ xs m ys, p.store = xs ++ m :: ys
  ∧ serviceMarked f m.number = true ∧ (∀ y ∈ ys, ¬ serviceMarked f y.number = true) ∧ x.number < m.number
  ∧ x.lastSend < m.firstSend

theorem Port.gapPoint_iff : p.gapPoint f = some m ↔ serviceMarked f m.number = true
    ∧ ∃ xs ys, p.store = xs ++ m :: ys ∧ ∀ y ∈ ys, serviceMarked f y.number = false := getLast?_filter_iff

theorem gapJoins_iff : gapJoins f m x = true ↔ x.number < m.number ∧ ¬ serviceCovers f x.number = true
    ∧ x.lastSend < m.firstSend ∧ x.queued = false := by
  simp only [gapJoins, Bool.and_eq_true, decide_eq_true_eq, Bool.not_eq_true', Bool.not_eq_true, and_assoc]

theorem Port.overtaken_iff : p.overtaken f x ↔ ∃ m, p.gapPoint f = some m ∧ x.number < m.number ∧ x.lastSend < m.firstSend := by
  constructor
  · rintro ⟨xs, m, ys, hsplit, hmarked, hnone, hnumber, hsend⟩
    exact ⟨m, Port.gapPoint_iff.2 ⟨hmarked, xs, ys, hsplit, fun y hy => by simpa using hnone y hy⟩, hnumber, hsend⟩
  · rintro ⟨m, hpoint, hnumber, hsend⟩
    obtain ⟨hmarked, xs, ys, hsplit, hnone⟩ := Port.gapPoint_iff.1 hpoint
    exact ⟨xs, m, ys, hsplit, hmarked, fun y hy => by simp [hnone y hy], hnumber, hsend⟩

/-- A frame that the gap rule passes over stands in the store as it stood. -/
theorem Port.gapJoin_stays (hx : x ∈ p.store) (h : ∀ m, p.gapPoint f = some m → gapJoins f m x = false) :
    x ∈ (p.gapJoin f).1 := by
  unfold Port.gapJoin
  cases hpoint : p.gapPoint f with
  | none => exact hx
  | some m => exact List.mem_map.2 ⟨x, hx, if_neg (by simp [h m hpoint])⟩

theorem Port.gapJoin_queues (hx : x ∈ p.store) (hm : p.gapPoint f = some m) (h : gapJoins f m x = true) :
    { x with queued := true } ∈ (p.gapJoin f).1 := by
  unfold Port.gapJoin
  rw [hm]
  exact List.mem_map.2 ⟨x, hx, if_pos h⟩

theorem Port.gapJoin_from {y : SentFrame} (hy : y ∈ (p.gapJoin f).1) :
    ∃ x ∈ p.store, y = x ∨ y = { x with queued := true } := by
  unfold Port.gapJoin at hy
  cases hpoint : p.gapPoint f with
  | none =>
    rw [hpoint] at hy
    exact ⟨y, hy, .inl rfl⟩
  | some m =>
    rw [hpoint] at hy
    obtain ⟨x, hx, rfl⟩ := List.mem_map.1 hy
    refine ⟨x, hx, ?_⟩
    split
    · exact .inr rfl
    · exact .inl rfl

theorem Port.mem_serviced : x ∈ (p.serviced f now).store ↔ x ∈ (p.gapJoin f).1 ∧ ¬ serviceCovers f x.number = true := by
  rw [Port.serviced, List.mem_filter, Bool.not_eq_true', Bool.not_eq_true]

/-- What stands in the store behind a SERVICE frame (R126, R127). -/
theorem Port.serviced_store (p : Port) (f : ServiceFrame) (now : Nat) :
    (∀ x ∈ (p.serviced f now).store, ¬ serviceCovers f x.number = true)
    ∧ (∀ x ∈ p.store, ¬ serviceCovers f x.number = true → x.queued = true → x ∈ (p.serviced f now).store)
    ∧ (∀ x ∈ p.store, ¬ serviceCovers f x.number = true → x.queued = false → ¬ p.overtaken f x → x ∈ (p.serviced f now).store)
    ∧ (∀ x ∈ p.store, ¬ serviceCovers f x.number = true → p.overtaken f x → { x with queued := true } ∈ (p.serviced f now).store)
    ∧ ∀ y ∈ (p.serviced f now).store, ∃ x ∈ p.store, y = x ∨ y = { x with queued := true } := by
  refine ⟨fun x hx => (Port.mem_serviced.1 hx).2, fun x hx hcovers hqueued => Port.mem_serviced.2 ⟨?_, hcovers⟩,
    fun x hx hcovers _ hover => Port.mem_serviced.2 ⟨?_, hcovers⟩, fun x hx hcovers hover => Port.mem_serviced.2 ⟨?_, hcovers⟩,
    fun y hy => Port.gapJoin_from (Port.mem_serviced.1 hy).1⟩
  · refine Port.gapJoin_stays hx fun m _ => ?_
    rw [← Bool.not_eq_true, gapJoins_iff]
    rintro ⟨-, -, -, hnot⟩
    rw [hqueued] at hnot
    cases hnot
  · refine Port.gapJoin_stays hx fun m hm => ?_
    rw [← Bool.not_eq_true, gapJoins_iff]
    rintro ⟨hnumber, -, hsend, -⟩
    exact hover (Port.overtaken_iff.2 ⟨m, hm, hnumber, hsend⟩)
  · obtain ⟨m, hm, hnumber, hsend⟩ := Port.overtaken_iff.1 hover
    cases hqueued : x.queued with
    | true =>
      have hsame : { x with queued := true } = x := by rw [← hqueued]
      rw [hsame]
      refine Port.gapJoin_stays hx fun m' _ => ?_
      rw [← Bool.not_eq_true, gapJoins_iff]
      rintro ⟨-, -, -, hnot⟩
      rw [hqueued] at hnot
      cases hnot
    | false => exact Port.gapJoin_queues hx hm (gapJoins_iff.2 ⟨hnumber, hcovers, hsend, hqueued⟩)

end

end Sys2Proof.Machine

/-! # SERVICE_RECEIVED, settled -/

namespace Sys2Proof.Machine

/-! ## The frame-level part of a SERVICE frame -/

section
variable {s : State} {t : Trunk} {f : ServiceFrame}

/-- The entries after frames have left a store: each counts fewer frames out (R70, R123). -/
def framesOutLess (es : List JEntry) (store : List SentFrame) (f : ServiceFrame) : List JEntry := es.map fun e => { e with
  framesOut := e.framesOut - store.countP fun x => serviceCovers f x.number && decide (x.handle = ⟨e.index, e.gen⟩) }

theorem State.framesLeave_covered (s : State) (store : List SentFrame) (f : ServiceFrame) :
    s.framesLeave (store.filter fun x => serviceCovers f x.number) =
      { s with journal := { s.journal with entries := framesOutLess s.journal.entries store f } } := by
  unfold State.framesLeave framesOutLess
  simp only [List.countP_filter, Bool.and_comm]
  rfl

/-- The frame-level part of a SERVICE frame: the port, the supervisor and the link, and the entries' frames out. -/
theorem State.serviceStore_frame (s : State) (t : Trunk) (f : ServiceFrame) : s.serviceStore t f = { s with
    ports := (s.serviceStore t f).ports, sups := (s.serviceStore t f).sups, sli := (s.serviceStore t f).sli
    journal := { s.journal with entries := framesOutLess s.journal.entries (s.port t).store f } } := by
  obtain ⟨k, y, hcount⟩ := State.countEvents_frame t .resend ((s.port t).gapJoin f).2 (s.setPort t ((s.port t).serviced f s.now))
  rw [State.serviceStore_eq, State.framesLeave_covered, hcount]
  dsimp only
  split
  · rfl
  · split
    · rfl
    · rfl

/-- The RESEND events of a SERVICE frame (R156, R157). -/
theorem State.serviceStore_resends (h : (s.sup t).counters.resend ≤ 255) :
    (s.serviceStore t f).sli = s.sli.saturated t .resend ((s.sup t).counters.resend + ((s.port t).gapJoin f).2 - 255)
    ∧ ((s.serviceStore t f).sup t).counters.resend = min 255 ((s.sup t).counters.resend + ((s.port t).gapJoin f).2) := by
  have hcount := State.countResends_eq t ((s.port t).gapJoin f).2 (s.setPort t ((s.port t).serviced f s.now)) h
  have hsup : (s.setPort t ((s.port t).serviced f s.now)).sup t = s.sup t := rfl
  rw [hsup] at hcount
  rw [State.serviceStore_eq, hcount]
  generalize min 255 ((s.sup t).counters.resend + ((s.port t).gapJoin f).2) = n
  generalize (s.sup t).counters.resend + ((s.port t).gapJoin f).2 - 255 = past
  dsimp only
  split
  · exact ⟨rfl, by simp [State.sup]⟩
  · split
    · exact ⟨rfl, by simp [State.sup, State.startStall]⟩
    · exact ⟨rfl, by simp [State.sup]⟩

theorem Sli.saturated_keeps {t : Trunk} (c : CounterName) : ∀ (n : Nat) {x : Sli},
    (x.latches.trunk.get t).counterSat = true → ((x.saturated t c n).latches.trunk.get t).counterSat = true
  | 0, _, h => h
  | n + 1, x, _ => by
    rw [Sli.saturated_next]
    exact Sli.saturated_keeps c n (x.saturated_one_latch t c)

theorem Sli.saturated_latch (x : Sli) (t : Trunk) (c : CounterName) {n : Nat} (h : 0 < n) :
    ((x.saturated t c n).latches.trunk.get t).counterSat = true := by
  obtain ⟨m, rfl⟩ := Nat.exists_eq_succ_of_ne_zero h.ne'
  rw [Nat.succ_eq_add_one, Sli.saturated_next]
  exact Sli.saturated_keeps c m (x.saturated_one_latch t c)

/-! ## A SERVICE frame by the trunk's state -/

theorem exec_serviceReceived (h : f.acks.length ≤ 1000) :
    exec (.serviceReceived t f) s = .next (s.arrival t (State.serviceArrives t f)) := congrArg _ (if_pos h)

theorem exec_serviceReceived_long (h : 1000 < f.acks.length) :
    exec (.serviceReceived t f) s = exec (.invalidFrameReceived t) s := congrArg _ (if_neg (Nat.not_le.2 h))

theorem exec_serviceReceived_up (hup : (s.port t).state = .running ∨ (s.port t).state = .resync) (h : f.acks.length ≤ 1000) :
    exec (.serviceReceived t f) s = .next (f.acks.foldl (State.entryAck t)
      (((s.arrivedWith t false false true).passedLock t).serviceStore t f)) := by
  obtain ⟨-, -, -, hkeeps⟩ := s.arrivedPassed_spec t false false true
  have hacts : State.serviceArrives t f s = ((s.arrivedWith t false false true).passedLock t).serviceActs t f := by
    unfold State.serviceArrives
    rw [State.plainArrival_up hup]
    exact if_pos (hkeeps ((TrunkState.up_iff _).2 hup))
  rw [exec_serviceReceived h, State.arrival_eq s t _ (fun h => by simp [h] at hup) (fun h => by simp [h] at hup), hacts]
  rfl

theorem exec_serviceReceived_settled (hstate : (s.port t).state ∈ [.hunt, .align, .down, .faulted]) (h : f.acks.length ≤ 1000) :
    exec (.serviceReceived t f) s = .next ((s.arrivedWith t false false
      (decide ((s.port t).state = .hunt ∨ (s.port t).state = .align))).passedLock t) := by
  obtain ⟨harrives, hdown⟩ := State.plainArrival_settled hstate
  obtain ⟨-, -, hstays, -⟩ := s.arrivedPassed_spec t false false
    (decide ((s.port t).state = .hunt ∨ (s.port t).state = .align))
  have hacts : State.serviceArrives t f s = (s.arrivedWith t false false
      (decide ((s.port t).state = .hunt ∨ (s.port t).state = .align))).passedLock t := by
    unfold State.serviceArrives
    rw [harrives]
    exact if_neg (by rw [hstays hdown, hdown]; exact Bool.false_ne_true)
  rw [exec_serviceReceived h, State.arrival_eq s t _ (fun h => by simp [h] at hstate) (fun h => by simp [h] at hstate), hacts]

theorem OthersKept.trans {s u v : State} {t : Trunk} (h : OthersKept s t u) (h' : OthersKept u t v) : OthersKept s t v :=
  fun w hw => ⟨(h' w hw).1.trans (h w hw).1, (h' w hw).2.trans (h w hw).2⟩

/-- The state that a SERVICE frame leaves in RUNNING and RESYNC. -/
def State.serviceTaken (s : State) (t : Trunk) (f : ServiceFrame) : State :=
  f.acks.foldl (State.entryAck t) (((s.arrivedWith t false false true).passedLock t).serviceStore t f)

theorem State.serviceTaken_spec (s : State) (t : Trunk) (f : ServiceFrame) :
    let u := s.serviceTaken t f
    let joined := ((s.port t).gapJoin f).2
    (∃ st l n, u.port t = { (s.port t).serviced f s.now with
      state := st, lock := l, rxPos := (s.port t).rxPos + 1, prevHead := false
      stats := { (s.port t).stats with
        framesReceived := (s.port t).stats.framesReceived + 1, entriesAcked := n } })
    ∧ (u.sup t).stall = (s.port t).stallAfter f s.now (s.sup t).stall
    ∧ ((s.sup t).counters.resend ≤ 255 → (u.sup t).counters.resend = min 255 ((s.sup t).counters.resend + joined)
      ∧ u.sli = { ((s.arrivedWith t false false true).passedLock t).sli.saturated t .resend
        ((s.sup t).counters.resend + joined - 255) with stats := u.sli.stats })
    ∧ (f.acks = [] → u.journal = { s.journal with entries := framesOutLess s.journal.entries (s.port t).store f }
      ∧ u.buckets = s.buckets ∧ u.map = s.map ∧ u.body = s.body)
    ∧ OthersKept s t u ∧ u.now = s.now ∧ u.clock = s.clock ∧ u.apply = s.apply := by
  obtain ⟨⟨l, hport⟩, hframe, -, -⟩ := s.arrivedPassed_spec t false false true
  have hothers := (s.arrivedWith_others (t := t) false false true).trans
    ((s.arrivedWith t false false true).passedLock_others t)
  obtain ⟨c, r, hsup⟩ := (s.arrivedWith t false false true).passedLock_sup t
  rw [State.arrivedWith_sup] at hsup
  unfold State.serviceTaken
  generalize (s.arrivedWith t false false true).passedLock t = v at *
  have hstore := v.serviceStore_frame t f
  have hresends := State.serviceStore_resends (s := v) (t := t) (f := f)
  have hports := v.serviceStore_ports t f
  obtain ⟨k, -, hsups⟩ := v.serviceStore_sups t f
  have hacks := State.entryAcks_kept t f.acks (v.serviceStore t f)
  have hnoAcks : f.acks = [] → f.acks.foldl (State.entryAck t) (v.serviceStore t f) = v.serviceStore t f := fun h => by
    rw [h]
    rfl
  have hvstore : (v.port t).store = (s.port t).store := by rw [hport]
  have hjoins : (v.port t).gapJoin f = (s.port t).gapJoin f := by
    rw [hport]
    rfl
  have hserviced : (v.port t).serviced f v.now = { (s.port t).serviced f s.now with
      state := (v.port t).state, lock := l, rxPos := (s.port t).rxPos + 1, prevHead := false
      stats := { (s.port t).stats with framesReceived := (s.port t).stats.framesReceived + 1 } } := by
    rw [show v.now = s.now from (congrArg State.now hframe :), hport]
    rfl
  have hstall : (v.port t).stallAfter f v.now (v.sup t).stall = (s.port t).stallAfter f s.now (s.sup t).stall := by
    rw [show v.now = s.now from (congrArg State.now hframe :), hport, hsup]
    rfl
  have hresend : (v.sup t).counters.resend = (s.sup t).counters.resend := by rw [hsup]
  have hvothers : OthersKept s t (v.serviceStore t f) :=
    (hothers.setPort (w := { v with ports := (v.serviceStore t f).ports }) hports rfl).setSup rfl hsups
  have hvsup : (v.serviceStore t f).sup t = { v.sup t with
      counters := k, stall := (v.port t).stallAfter f v.now (v.sup t).stall } := by rw [State.sup, hsups, Quad.get_set_self]
  have hvport : (v.serviceStore t f).port t = (v.port t).serviced f v.now := by rw [State.port, hports, Quad.get_set_self]
  rw [hvstore] at hstore
  rw [hjoins, hresend] at hresends
  generalize v.serviceStore t f = w at *
  rw [hframe] at hstore
  obtain ⟨n, hackPort⟩ := hacks.port
  obtain ⟨n', hackPorts⟩ := hacks.ports
  have hackFrame := hacks.frame
  generalize f.acks.foldl (State.entryAck t) w = u at *
  have husup : u.sup t = w.sup t := (congrArg (fun x : State => x.sup t) hackFrame :)
  refine ⟨⟨(v.port t).state, l, n, ?_⟩, ?_, fun hold => ?_, fun hnil => ?_, hvothers.setPort hackPorts ?_, ?_, ?_, ?_⟩
  · rw [hackPort, hvport, hserviced]
  · rw [husup, hvsup, ← hstall]
  · obtain ⟨hsli, hcount⟩ := hresends hold
    rw [husup]
    refine ⟨hcount, ?_⟩
    rw [← hsli]
    exact (congrArg State.sli hackFrame :)
  · rw [hnoAcks hnil]
    exact ⟨(congrArg State.journal hstore :), (congrArg State.buckets hstore :), (congrArg State.map hstore :),
      (congrArg State.body hstore :)⟩
  · exact (congrArg State.sups hackFrame :)
  · exact (congrArg State.now hackFrame :).trans (congrArg State.now hstore :)
  · exact (congrArg State.clock hackFrame :).trans (congrArg State.clock hstore :)
  · exact (congrArg State.apply hackFrame :).trans (congrArg State.apply hstore :)

end

/-- Settles O49: the gap rule and the removals on the retransmit store, then the acknowledgements in order. -/
theorem serviceRemovesAcknowledged : Obligations.ServiceRemovesAcknowledged := by
  refine ⟨?acts, ?acks, ?settled, fun s t f h => ⟨fun hoff => ?_, fun htest => ?_⟩, fun s t f h => exec_serviceReceived_long h⟩
  case acts =>
    intro s t f hup hlen
    have hexec : exec (.serviceReceived t f) s = .next (s.serviceTaken t f) := exec_serviceReceived_up hup hlen
    obtain ⟨⟨st, l, n, hport⟩, hstall, hresends, hnoAcks, hothers, hnow, hclock, happly⟩ := s.serviceTaken_spec t f
    obtain ⟨huncovered, hqueued, hstays, hjoins, hfrom⟩ := (s.port t).serviced_store f s.now
    generalize s.serviceTaken t f = u at *
    refine ⟨u, hexec, ?_, hothers, hnow, hclock, happly⟩
    intro p base marked covered joins old overtaken
    have hstore : (u.port t).store = ((s.port t).serviced f s.now).store := by rw [hport]
    have hbase : serviceBase f = base := by
      unfold serviceBase
      rfl
    have hmarked : ∀ n, serviceMarked f n = true ↔ marked n := fun n => by
      rw [serviceMarked, Bool.and_eq_true, decide_eq_true_eq, hbase]
    have hcovered : ∀ n, serviceCovers f n = true ↔ covered n := fun n => by
      rw [serviceCovers, Bool.or_eq_true, decide_eq_true_eq, hbase, hmarked]
    have hovertaken : ∀ x, (s.port t).overtaken f x ↔ overtaken x := fun x => by
      simp only [Port.overtaken, hmarked]
      rfl
    have hjoined : ((s.port t).gapJoin f).2 = joins := by
      have hfilter : (p.store.filter fun x => decide (marked x.number)) = p.store.filter fun x => serviceMarked f x.number :=
        List.filter_congr fun x _ => by rw [Bool.eq_iff_iff, decide_eq_true_iff, hmarked]
      have hjoin : ∀ m x, gapJoins f m x = decide (x.number < m.number ∧ ¬ covered x.number ∧ x.lastSend < m.firstSend
          ∧ x.queued = false) := fun m x => by
        rw [Bool.eq_iff_iff, decide_eq_true_iff, gapJoins_iff, hcovered]
      unfold joins
      rw [hfilter]
      simp only [← hjoin]
      unfold Port.gapJoin Port.gapPoint
      show _ = match (p.store.filter fun x => serviceMarked f x.number).getLast? with
        | none => 0
        | some m => p.store.countP (gapJoins f m)
      cases ((s.port t).store.filter fun x => serviceMarked f x.number).getLast? with
      | none => rfl
      | some m => rfl
    rw [hjoined] at hresends
    simp only [hcovered, hovertaken, ← hstore] at huncovered hqueued hstays hjoins hfrom
    refine ⟨fun hold => ?_, fun hnil => ?_, huncovered, hqueued, hstays, hjoins, hfrom, by rw [hport]; rfl, by rw [hport],
      by rw [hport], ?_⟩
    · obtain ⟨hcount, hsli⟩ := hresends hold
      refine ⟨hcount, fun hpast => ?_, hsli⟩
      have hpos : 0 < (s.sup t).counters.resend + joins - 255 := Nat.sub_pos_of_lt hpast
      generalize (s.sup t).counters.resend + joins - 255 = past at hpos hsli
      rw [hsli]
      exact Sli.saturated_latch _ _ _ hpos
    · obtain ⟨hjournal, hrest⟩ := hnoAcks hnil
      rw [hjournal]
      refine ⟨List.map_congr_left fun e _ => ?_, rfl, hrest⟩
      have hcount : (fun x : SentFrame => serviceCovers f x.number && decide (x.handle = ⟨e.index, e.gen⟩)) =
          fun x => decide (covered x.number ∧ x.handle = ⟨e.index, e.gen⟩) := funext fun x => by
        rw [Bool.eq_iff_iff, Bool.and_eq_true, decide_eq_true_iff, decide_eq_true_iff, hcovered]
      rw [hcount]
    · intro rise
      have hrise : (s.port t).rises f.through = rise := rfl
      have hthrough : (u.port t).peerThrough = if rise then f.through else p.peerThrough := by
        rw [hport, ← hrise]
        rfl
      have hat : (u.port t).peerThroughAt = if rise then s.now else p.peerThroughAt := by
        rw [hport, ← hrise]
        rfl
      rw [Port.stallAfter, ← hstore, hrise] at hstall
      refine ⟨fun h => ?_, fun h => ?_, fun h => ?_, fun hne h => ?_, fun hne h => ?_⟩
      · rw [h] at hthrough hat
        exact ⟨hthrough, hat⟩
      · rw [h] at hthrough hat
        exact ⟨hthrough, hat⟩
      · rw [hstall, if_pos (List.isEmpty_iff.2 h)]
      · rw [hstall, if_neg fun h' => hne (List.isEmpty_iff.1 h'), if_pos h, Nat.mul_assoc]
        rfl
      · rw [hstall, if_neg fun h' => hne (List.isEmpty_iff.1 h'), if_neg (by simp [h])]
  case acks =>
    intro s v t f hup hlen hexec
    have hsame : ((s.arrivedWith t false false true).passedLock t).serviceStore t { f with acks := [] } =
        ((s.arrivedWith t false false true).passedLock t).serviceStore t f := rfl
    have hnone := exec_serviceReceived_up (f := { f with acks := [] }) hup (Nat.zero_le _)
    rw [hexec, hsame] at hnone
    cases hnone
    exact exec_serviceReceived_up hup hlen
  case settled =>
    intro s t f hstate hlen
    obtain ⟨⟨l, hport⟩, hframe, -, -⟩ := s.arrivedPassed_spec t false false
      (decide ((s.port t).state = .hunt ∨ (s.port t).state = .align))
    refine ⟨_, exec_serviceReceived_settled hstate hlen, rfl, ?_⟩
    generalize (s.arrivedWith t false false (decide ((s.port t).state = .hunt ∨ (s.port t).state = .align))).passedLock t = u at *
    exact ⟨by rw [hport], (congrArg State.map hframe :), (congrArg State.body hframe :), (congrArg State.apply hframe :),
      by rw [hport], by rw [hport], (congrArg State.journal hframe :), (congrArg State.buckets hframe :)⟩
  · rw [exec_serviceReceived h, State.arrival_off _ hoff]
  · rw [exec_serviceReceived h, State.arrival_test _ htest]
    rfl

end Sys2Proof.Machine

/-! # Bytes: fields, slices and checks (Chapter 10) -/

namespace Sys2Proof.Machine

/-! ## Slices -/

/-- A slice byte by byte: bytes past the end read as 0. -/
theorem slice_eq_map (bs : List Byte) (off n : Nat) : slice bs off n = (List.range n).map fun i => bs.getD (off + i) 0 := by
  unfold slice
  refine List.ext_getElem (by simp) fun i hi hi' => ?_
  rw [List.getElem_map, List.getElem_range, List.getElem_take]
  by_cases h : i < (bs.drop off).length
  · rw [List.getElem_append_left h, List.getElem_drop, List.getD_eq_getElem]
  · have hlen : bs.length ≤ off + i := by
      rw [List.length_drop] at h
      omega
    rw [List.getElem_append_right (Nat.not_lt.1 h), List.getElem_replicate, List.getD_eq_default _ _ hlen]

theorem slice_slice {bs : List Byte} {a m off n : Nat} (h : off + n ≤ m) : slice (slice bs a m) off n = slice bs (a + off) n := by
  rw [slice_eq_map, slice_eq_map bs (a + off)]
  refine List.map_congr_left fun i hi => ?_
  have hi : i < n := List.mem_range.1 hi
  have hlt : off + i < (slice bs a m).length := by
    rw [slice_length]
    omega
  rw [List.getD_eq_getElem _ _ hlt]
  simp only [slice_eq_map bs a, List.getElem_map, List.getElem_range, Nat.add_assoc]

theorem slice_append_left {a b : List Byte} {off n : Nat} (h : off + n ≤ a.length) : slice (a ++ b) off n = slice a off n := by
  rw [slice_eq_map, slice_eq_map]
  refine List.map_congr_left fun i hi => ?_
  have hi : i < n := List.mem_range.1 hi
  rw [List.getD_append _ _ _ _ (by omega)]

theorem slice_append_right {a b : List Byte} {off n : Nat} (h : a.length ≤ off) :
    slice (a ++ b) off n = slice b (off - a.length) n := by
  rw [slice_eq_map, slice_eq_map]
  refine List.map_congr_left fun i _ => ?_
  rw [List.getD_append_right _ _ _ _ (by omega), Nat.sub_add_comm h]

/-- From the start, a list is read whole and padded with zeros. -/
theorem slice_padded {bs : List Byte} {n : Nat} (h : bs.length ≤ n) :
    slice bs 0 n = bs ++ List.replicate (n - bs.length) 0#8 := by
  unfold slice
  rw [List.drop_zero, List.take_append, List.take_of_length_le h, List.take_replicate, Nat.min_eq_left (Nat.sub_le _ _)]
  rfl

theorem slice_all {bs : List Byte} {n : Nat} (h : bs.length = n) : slice bs 0 n = bs := by
  rw [slice_padded h.le, h, Nat.sub_self, List.replicate_zero, List.append_nil]

/-- The bytes in the middle. -/
theorem slice_middle (a b c : List Byte) : slice (a ++ (b ++ c)) a.length b.length = b := by
  rw [slice_append_right (Nat.le_refl _), Nat.sub_self, slice_append_left (by omega), slice_all rfl]

/-! ## Fields -/

theorem foldl_beNat (bs : List Byte) : ∀ v : Nat, bs.foldl (fun a b => a * 256 + b.toNat) v = v * 256 ^ bs.length + beNat bs := by
  induction bs with
  | nil => intro v; simp [beNat]
  | cons b bs ih =>
    intro v
    have hb : beNat (b :: bs) = (0 * 256 + b.toNat) * 256 ^ bs.length + beNat bs := ih _
    rw [List.foldl_cons, ih, hb, List.length_cons, Nat.pow_succ]
    ring

theorem beNat_cons (b : Byte) (bs : List Byte) : beNat (b :: bs) = b.toNat * 256 ^ bs.length + beNat bs := by
  rw [beNat, List.foldl_cons, foldl_beNat, Nat.zero_mul, Nat.zero_add]

theorem beNat_beBytes (n v : Nat) : beNat (beBytes n v) = v % 256 ^ n := by
  induction n with
  | zero => simp [beBytes, beNat, Nat.mod_one]
  | succ n ih =>
    have hbyte : 2 ^ 8 = 256 := rfl
    rw [beBytes, beNat_cons, ih, beBytes_length, BitVec.toNat_ofNat, hbyte, Nat.pow_succ, Nat.mod_mul, Nat.add_comm,
      Nat.mul_comm]

theorem fieldAt_left {a b : List Byte} {off n : Nat} (h : off + n ≤ a.length) : fieldAt (a ++ b) off n = fieldAt a off n := by
  rw [fieldAt, slice_append_left h, fieldAt]

theorem fieldAt_slice {bs : List Byte} {a m off n : Nat} (h : off + n ≤ m) :
    fieldAt (slice bs a m) off n = fieldAt bs (a + off) n := by rw [fieldAt, slice_slice h, fieldAt]

/-- The field that stands first. -/
theorem fieldAt_here (n v : Nat) (rest : List Byte) : fieldAt (beBytes n v ++ rest) 0 n = v % 256 ^ n := by
  rw [fieldAt, slice_append_left (by simp), slice_all (beBytes_length n v), beNat_beBytes]

/-- A field behind the first one. -/
theorem fieldAt_skip {m v off n : Nat} {rest : List Byte} (h : m ≤ off) :
    fieldAt (beBytes m v ++ rest) off n = fieldAt rest (off - m) n := by
  rw [fieldAt, slice_append_right (by rw [beBytes_length]; exact h), beBytes_length, fieldAt]

theorem fieldAt_middle (a c : List Byte) {n v : Nat} (h : v < 256 ^ n) : fieldAt (a ++ beBytes n v ++ c) a.length n = v := by
  rw [List.append_assoc, fieldAt, slice_append_right (Nat.le_refl _), Nat.sub_self, ← fieldAt, fieldAt_here,
    Nat.mod_eq_of_lt h]

/-! ## Bits -/

theorem testBit_bitsToNat (l : List Bool) : ∀ i : Nat, (bitsToNat l).testBit i = l.getD i false := by
  induction l with
  | nil => intro i; simp [bitsToNat]
  | cons b l ih =>
    intro i
    cases i with
    | zero => cases b <;> simp [bitsToNat, Nat.testBit_zero]
    | succ i =>
      rw [bitsToNat, Nat.testBit_succ]
      have hhalf : ((if b then 1 else 0) + 2 * bitsToNat l) / 2 = bitsToNat l := by
        cases b
        · simp
        · simp
          omega
      rw [hhalf, ih]
      rfl

end Sys2Proof.Machine

/-! # Trunk frames as bytes (Section 10.2) -/

namespace Sys2Proof.Machine

/-- The one field there is. -/
theorem fieldAt_only (n v : Nat) : fieldAt (beBytes n v) 0 n = v % 256 ^ n := by
  have h := fieldAt_here n v []
  rwa [List.append_nil] at h

/-! ## The frame's header and its parts -/

section
variable (f : Frame)

theorem Frame.header_length : f.header.length = 28 := by simp [Frame.header]

theorem Frame.checked_length : f.checked.length = 8188 := by
  rw [Frame.checked, List.length_append, Frame.header_length, slice_length]
  rfl

theorem Frame.toBytes_length : f.toBytes.length = 8192 := by
  rw [Frame.toBytes, List.length_append, Frame.checked_length, beBytes_length]

theorem Frame.header_fields : fieldAt f.header 0 1 = f.kind % 256 ∧ fieldAt f.header 1 1 = f.flags % 256
    ∧ fieldAt f.header 2 1 = f.site % 256 ∧ fieldAt f.header 3 1 = f.k % 256 ∧ fieldAt f.header 4 4 = f.align.toNat
    ∧ fieldAt f.header 8 8 = f.incarnation.toNat ∧ fieldAt f.header 16 6 = f.number % 256 ^ 6
    ∧ fieldAt f.header 22 1 = f.cycle % 256 ∧ fieldAt f.header 24 4 = f.counter.toNat := by
  have halign : f.align.toNat % 256 ^ 4 = f.align.toNat := Nat.mod_eq_of_lt f.align.isLt
  have hstamp : f.incarnation.toNat % 256 ^ 8 = f.incarnation.toNat := Nat.mod_eq_of_lt f.incarnation.isLt
  have hcounter : f.counter.toNat % 256 ^ 4 = f.counter.toNat := Nat.mod_eq_of_lt f.counter.isLt
  refine ⟨?_, ?_, ?_, ?_, ?_, ?_, ?_, ?_, ?_⟩
  · simp only [Frame.header, List.append_assoc, fieldAt_here, Nat.pow_one]
  · simp only [Frame.header, List.append_assoc, fieldAt_skip, fieldAt_here, Nat.pow_one, Nat.reduceLeDiff, Nat.reduceSub]
  · simp only [Frame.header, List.append_assoc, fieldAt_skip, fieldAt_here, Nat.pow_one, Nat.reduceLeDiff, Nat.reduceSub]
  · simp only [Frame.header, List.append_assoc, fieldAt_skip, fieldAt_here, Nat.pow_one, Nat.reduceLeDiff, Nat.reduceSub]
  · simp only [Frame.header, List.append_assoc, fieldAt_skip, fieldAt_here, halign, Nat.reduceLeDiff, Nat.reduceSub]
  · simp only [Frame.header, List.append_assoc, fieldAt_skip, fieldAt_here, hstamp, Nat.reduceLeDiff, Nat.reduceSub]
  · simp only [Frame.header, List.append_assoc, fieldAt_skip, fieldAt_here, Nat.reduceLeDiff, Nat.reduceSub]
  · simp only [Frame.header, List.append_assoc, fieldAt_skip, fieldAt_here, Nat.pow_one, Nat.reduceLeDiff, Nat.reduceSub]
  · simp only [Frame.header, List.append_assoc, fieldAt_skip, fieldAt_only, hcounter, Nat.reduceLeDiff, Nat.reduceSub]

theorem Frame.flags_bits (i : Nat) : bitOf (f.flags % 256) i =
    if i < 8 then [f.ready, f.locked, f.alarm, f.heard, f.echo].getD i false else false := by
  have hpow : 256 = 2 ^ 8 := rfl
  rw [bitOf, hpow, Nat.testBit_mod_two_pow, Frame.flags, testBit_bitsToNat]
  by_cases h : i < 8
  · simp [h]
  · simp [h]

/-! ## The parts of the frame's bytes -/

theorem Frame.slice_checked : slice f.toBytes 0 8188 = f.checked := by
  rw [Frame.toBytes, slice_append_left (by rw [Frame.checked_length]), slice_all f.checked_length]

theorem Frame.slice_header : slice f.toBytes 0 28 = f.header := by
  have h := slice_slice (bs := f.toBytes) (a := 0) (m := 8188) (off := 0) (n := 28) (by decide)
  rw [← h, Frame.slice_checked, Frame.checked, slice_append_left (by rw [Frame.header_length]), slice_all f.header_length]

theorem Frame.slice_payload : slice f.toBytes 28 8160 = slice f.payload 0 8160 := by
  have h := slice_slice (bs := f.toBytes) (a := 0) (m := 8188) (off := 28) (n := 8160) (by decide)
  rw [Nat.zero_add] at h
  rw [← h, Frame.slice_checked, Frame.checked, slice_append_right (by rw [Frame.header_length]), Frame.header_length]
  exact slice_all (slice_length _ _ _)

theorem Frame.check_field : fieldAt f.toBytes 8188 4 = (frameCheck f.checked).toNat := by
  rw [Frame.toBytes, fieldAt, slice_append_right (by rw [Frame.checked_length]), Frame.checked_length, Nat.sub_self, ← fieldAt,
    fieldAt_only]
  exact Nat.mod_eq_of_lt (frameCheck f.checked).isLt

end

/-! ## The command of a frame -/

/-- The command of a frame whose check is right, by its header and its payload. -/
def commandOf (t : Trunk) (h payload : List Byte) : Instr :=
  let flags := fieldAt h 1 1
  if fieldAt h 0 1 = frameHead then
    .headReceived t ⟨BitVec.ofNat 8 (fieldAt h 2 1), BitVec.ofNat 8 (fieldAt h 3 1), BitVec.ofNat 32 (fieldAt h 4 4),
      BitVec.ofNat 64 (fieldAt h 8 8), BitVec.ofNat 8 (fieldAt h 22 1), bitOf flags 0, bitOf flags 1, bitOf flags 2⟩
  else if fieldAt h 0 1 = frameService then
    if fieldAt payload 40 2 ≤ 1000 then .serviceReceived t (parseService payload) else .invalidFrameReceived t
  else if fieldAt h 0 1 = frameCarry then .carryReceived t (fieldAt h 16 6) payload
  else if fieldAt h 0 1 = frameFill then
    .fillReceived t ⟨BitVec.ofNat 8 (fieldAt h 2 1), BitVec.ofNat 64 (fieldAt h 8 8), bitOf flags 0⟩
  else if fieldAt h 0 1 = frameProbe then
    .probeReceived t ⟨BitVec.ofNat 8 (fieldAt h 2 1), BitVec.ofNat 64 (fieldAt h 8 8), bitOf flags 3⟩
  else if fieldAt h 0 1 = frameTest then .testFrameReceived t (BitVec.ofNat 32 (fieldAt h 24 4)) payload
  else .invalidFrameReceived t

section
variable {t : Trunk} {f : Frame}

theorem frameCommand_toBytes (t : Trunk) (f : Frame) :
    frameCommand t f.toBytes = commandOf t f.header (slice f.payload 0 8160) := by
  have hcommand : frameCommand t f.toBytes =
      if fieldAt f.toBytes 8188 4 ≠ (frameCheck (slice f.toBytes 0 8188)).toNat then .invalidFrameReceived t
      else commandOf t (slice f.toBytes 0 28) (slice f.toBytes 28 8160) := rfl
  rw [hcommand, Frame.slice_checked, Frame.check_field, if_neg (not_not.2 rfl), Frame.slice_header, Frame.slice_payload]

theorem byte_of_mod (v : Nat) : BitVec.ofNat 8 (v % 256) = BitVec.ofNat 8 v := BitVec.eq_of_toNat_eq (by simp)

theorem word_of_toNat {w : Nat} (x : BitVec w) : BitVec.ofNat w x.toNat = x := BitVec.eq_of_toNat_eq (by simp)

/-- The frame's kind, read. -/
theorem Frame.header_kind {k : Nat} (hkind : f.kind = k) (hk : k < 256) : fieldAt f.header 0 1 = k := by
  rw [f.header_fields.1, hkind, Nat.mod_eq_of_lt hk]

theorem commandOf_head (hkind : f.kind = 1) (payload : List Byte) : commandOf t f.header payload = .headReceived t
    ⟨BitVec.ofNat 8 f.site, BitVec.ofNat 8 f.k, f.align, f.incarnation, BitVec.ofNat 8 f.cycle, f.ready, f.locked, f.alarm⟩ := by
  obtain ⟨-, hflags, hsite, hk, halign, hstamp, -, hcycle, -⟩ := f.header_fields
  have hread : fieldAt f.header 0 1 = frameHead := Frame.header_kind hkind (by decide)
  unfold commandOf
  dsimp only
  rw [if_pos hread, hflags, hsite, hk, halign, hstamp, hcycle, f.flags_bits 0, f.flags_bits 1, f.flags_bits 2]
  simp only [byte_of_mod, word_of_toNat]
  rfl

theorem commandOf_service (hkind : f.kind = 2) {payload : List Byte} (h : fieldAt payload 40 2 ≤ 1000) :
    commandOf t f.header payload = .serviceReceived t (parseService payload) := by
  have hread : fieldAt f.header 0 1 = 2 := Frame.header_kind hkind (by decide)
  unfold commandOf
  dsimp only
  rw [hread, if_neg (by decide), if_pos (by decide), if_pos h]

theorem commandOf_carry (hkind : f.kind = 3) (hnumber : f.number < 2 ^ 48) (payload : List Byte) :
    commandOf t f.header payload = .carryReceived t f.number payload := by
  obtain ⟨-, -, -, -, -, -, hread, -, -⟩ := f.header_fields
  have hkindRead : fieldAt f.header 0 1 = 3 := Frame.header_kind hkind (by decide)
  have hpow : 256 ^ 6 = 2 ^ 48 := by decide
  unfold commandOf
  dsimp only
  rw [hkindRead, if_neg (by decide), if_neg (by decide), if_pos (by decide), hread, hpow, Nat.mod_eq_of_lt hnumber]

theorem commandOf_fill (hkind : f.kind = 4) (payload : List Byte) :
    commandOf t f.header payload = .fillReceived t ⟨BitVec.ofNat 8 f.site, f.incarnation, f.ready⟩ := by
  obtain ⟨-, hflags, hsite, -, -, hstamp, -, -, -⟩ := f.header_fields
  have hread : fieldAt f.header 0 1 = 4 := Frame.header_kind hkind (by decide)
  unfold commandOf
  dsimp only
  rw [hread, if_neg (by decide), if_neg (by decide), if_neg (by decide), if_pos (by decide), hflags, hsite, hstamp,
    f.flags_bits 0]
  simp only [byte_of_mod, word_of_toNat]
  rfl

theorem commandOf_probe (hkind : f.kind = 5) (payload : List Byte) :
    commandOf t f.header payload = .probeReceived t ⟨BitVec.ofNat 8 f.site, f.incarnation, f.heard⟩ := by
  obtain ⟨-, hflags, hsite, -, -, hstamp, -, -, -⟩ := f.header_fields
  have hread : fieldAt f.header 0 1 = 5 := Frame.header_kind hkind (by decide)
  unfold commandOf
  dsimp only
  rw [hread, if_neg (by decide), if_neg (by decide), if_neg (by decide), if_neg (by decide), if_pos (by decide), hflags, hsite,
    hstamp, f.flags_bits 3]
  simp only [byte_of_mod, word_of_toNat]
  rfl

theorem commandOf_test (hkind : f.kind = 6) (payload : List Byte) :
    commandOf t f.header payload = .testFrameReceived t f.counter payload := by
  obtain ⟨-, -, -, -, -, -, -, -, hcounter⟩ := f.header_fields
  have hread : fieldAt f.header 0 1 = 6 := Frame.header_kind hkind (by decide)
  unfold commandOf
  dsimp only
  rw [hread, if_neg (by decide), if_neg (by decide), if_neg (by decide), if_neg (by decide), if_neg (by decide),
    if_pos (by decide), hcounter, word_of_toNat]

end

end Sys2Proof.Machine

/-! # SERVICE payloads and the frame layouts, settled -/

namespace Sys2Proof.Machine

/-! ## Marks, packed and unpacked (Section 10.2.1) -/

theorem packMarks_length (n : Nat) : ∀ ms : List Bool, (packMarks n ms).length = n := by
  induction n with
  | zero => exact fun ms => rfl
  | succ n ih => exact fun ms => congrArg (· + 1) (ih (ms.drop 8))

/-- The bits of one packed byte. -/
theorem packedByte_bit (ms : List Bool) {i : Nat} (h : i < 8) :
    (BitVec.ofNat 8 (bitsToNat ((ms ++ List.replicate 8 false).take 8).reverse)).getLsbD (7 - i) = ms.getD i false := by
  have hlen : ((ms ++ List.replicate 8 false).take 8).length = 8 := by simp
  have hrev : 7 - i < ((ms ++ List.replicate 8 false).take 8).reverse.length := by
    rw [List.length_reverse, hlen]
    omega
  rw [BitVec.getLsbD_ofNat, testBit_bitsToNat, List.getD_eq_getElem _ _ hrev, List.getElem_reverse]
  have hindex : ((ms ++ List.replicate 8 false).take 8).length - 1 - (7 - i) = i := by omega
  simp only [hindex, List.getElem_take]
  have hlt : 7 - i < 8 := by omega
  rw [decide_eq_true hlt, Bool.true_and]
  by_cases hi : i < ms.length
  · rw [List.getElem_append_left hi, List.getD_eq_getElem _ _ hi]
  · rw [List.getElem_append_right (Nat.not_lt.1 hi), List.getElem_replicate, List.getD_eq_default _ _ (Nat.not_lt.1 hi)]

theorem packMarks_bit (n : Nat) : ∀ {ms : List Bool} {i : Nat}, i < 8 * n →
    ((packMarks n ms).getD (i / 8) 0#8).getLsbD (7 - i % 8) = ms.getD i false := by
  induction n with
  | zero => intro ms i h; omega
  | succ n ih =>
    intro ms i h
    by_cases hi : i < 8
    · rw [Nat.div_eq_of_lt hi, Nat.mod_eq_of_lt hi]
      exact packedByte_bit ms hi
    · have hdiv : i / 8 = (i - 8) / 8 + 1 := by omega
      have hmod : i % 8 = (i - 8) % 8 := by omega
      have hdrop : (ms.drop 8).getD (i - 8) false = ms.getD i false := by
        rw [List.getD_eq_getElem?_getD, List.getElem?_drop, ← List.getD_eq_getElem?_getD, Nat.add_sub_cancel' (Nat.not_lt.1 hi)]
      rw [hdiv, hmod, ← hdrop]
      exact ih (ms := ms.drop 8) (by omega)

theorem unpackMarks_packMarks (n : Nat) : ∀ {ms : List Bool}, ms.length = 8 * n → unpackMarks (packMarks n ms) = ms := by
  induction n with
  | zero =>
    intro ms h
    rw [List.length_eq_zero_iff.1 h]
    rfl
  | succ n ih =>
    intro ms h
    have hrest : unpackMarks (packMarks n (ms.drop 8)) = ms.drop 8 := ih (by rw [List.length_drop]; omega)
    have hfirst : (List.range 8).map (fun i => ms.getD i false) = ms.take 8 := by
      refine List.ext_getElem (by simp; omega) fun i hi _ => ?_
      have hlt : i < ms.length := by
        have : i < 8 := by simpa using hi
        omega
      rw [List.getElem_map, List.getElem_range, List.getElem_take, List.getD_eq_getElem _ _ hlt]
    have hbits : (List.range 8).map (fun i => (BitVec.ofNat 8
        (bitsToNat ((ms ++ List.replicate 8 false).take 8).reverse)).getLsbD (7 - i)) = ms.take 8 := by
      rw [← hfirst]
      exact List.map_congr_left fun i hi => packedByte_bit ms (List.mem_range.1 hi)
    calc unpackMarks (packMarks (n + 1) ms)
        = (List.range 8).map (fun i => (BitVec.ofNat 8
            (bitsToNat ((ms ++ List.replicate 8 false).take 8).reverse)).getLsbD (7 - i))
          ++ unpackMarks (packMarks n (ms.drop 8)) := rfl
      _ = ms.take 8 ++ ms.drop 8 := by rw [hbits, hrest]
      _ = ms := List.take_append_drop 8 ms

/-! ## Entry acknowledgements -/

theorem fieldAt_shift (pre bs : List Byte) (off n : Nat) : fieldAt (pre ++ bs) (pre.length + off) n = fieldAt bs off n := by
  rw [fieldAt, slice_append_right (Nat.le_add_right _ _), Nat.add_sub_cancel_left, fieldAt]

theorem EntryAck.toBytes_length (a : EntryAck) : (EntryAck.toBytes a).length = 8 := by simp [EntryAck.toBytes]

theorem EntryAck.toBytes_fields {a : EntryAck} (h : a.wellFormed = true) (rest : List Byte) :
    fieldAt (EntryAck.toBytes a ++ rest) 0 2 = a.bucket ∧ fieldAt (EntryAck.toBytes a ++ rest) 2 2 = a.epoch
    ∧ fieldAt (EntryAck.toBytes a ++ rest) 4 4 = a.seq := by
  simp only [EntryAck.wellFormed, Bool.and_eq_true, decide_eq_true_eq] at h
  obtain ⟨⟨hbucket, hepoch⟩, hseq⟩ := h
  simp only [EntryAck.toBytes, List.append_assoc, fieldAt_skip, fieldAt_here, Nat.reduceLeDiff, Nat.reduceSub, Nat.reducePow]
  exact ⟨Nat.mod_eq_of_lt hbucket, Nat.mod_eq_of_lt hepoch, Nat.mod_eq_of_lt hseq⟩

theorem parseAcks_toBytes (post : List Byte) : ∀ (acks : List EntryAck) (pre : List Byte), acks.all EntryAck.wellFormed = true →
    parseAcks (pre ++ (acks.flatMap EntryAck.toBytes ++ post)) acks.length pre.length = acks
  | [], _, _ => rfl
  | a :: acks, pre, h => by
    rw [List.all_cons, Bool.and_eq_true] at h
    obtain ⟨hbucket, hepoch, hseq⟩ := EntryAck.toBytes_fields h.1 (acks.flatMap EntryAck.toBytes ++ post)
    have hrest := parseAcks_toBytes post acks (pre ++ EntryAck.toBytes a) h.2
    rw [List.length_append, EntryAck.toBytes_length, List.append_assoc] at hrest
    have hzero := fieldAt_shift pre (EntryAck.toBytes a ++ (acks.flatMap EntryAck.toBytes ++ post)) 0 2
    rw [Nat.add_zero] at hzero
    rw [List.flatMap_cons, List.append_assoc, List.length_cons, parseAcks, hzero, fieldAt_shift, fieldAt_shift, hbucket, hepoch,
      hseq, hrest]

/-! ## SERVICE payloads -/

section
variable {f : ServiceFrame}

/-- The 48 bytes before the acknowledgements. -/
def serviceLead (f : ServiceFrame) : List Byte := beBytes 6 (throughField f.through) ++ beBytes 2 0 ++ packMarks 32 f.marks
  ++ beBytes 2 f.acks.length ++ beBytes 6 0

theorem serviceLead_length (f : ServiceFrame) : (serviceLead f).length = 48 := by simp [serviceLead, packMarks_length]

theorem serviceLead_through (rest : List Byte) : fieldAt (serviceLead f ++ rest) 0 6 = throughField f.through % 256 ^ 6 := by
  simp only [serviceLead, List.append_assoc, fieldAt_here]

theorem serviceLead_marks (rest : List Byte) : slice (serviceLead f ++ rest) 8 32 = packMarks 32 f.marks := by
  have hlen := packMarks_length 32 f.marks
  have h := slice_middle (beBytes 6 (throughField f.through) ++ beBytes 2 0) (packMarks 32 f.marks)
    (beBytes 2 f.acks.length ++ beBytes 6 0 ++ rest)
  rw [hlen, List.length_append, beBytes_length, beBytes_length] at h
  simpa only [serviceLead, List.append_assoc] using h

theorem serviceLead_count (rest : List Byte) : fieldAt (serviceLead f ++ rest) 40 2 = f.acks.length % 256 ^ 2 := by
  have h := fieldAt_shift (beBytes 6 (throughField f.through) ++ beBytes 2 0 ++ packMarks 32 f.marks)
    (beBytes 2 f.acks.length ++ beBytes 6 0 ++ rest) 0 2
  simp only [List.length_append, beBytes_length, packMarks_length, List.append_assoc, fieldAt_here] at h
  simpa only [serviceLead, List.append_assoc] using h

theorem throughField_read (h : f.wellFormed = true) : (if throughField f.through % 256 ^ 6 = Config.noFrame then none
    else some (throughField f.through % 256 ^ 6)) = f.through := by
  simp only [ServiceFrame.wellFormed, Bool.and_eq_true, decide_eq_true_eq] at h
  cases hthrough : f.through with
  | none => rfl
  | some n =>
    have hn : n < 281474976710655 := by
      have h := h.1.1.1
      rw [hthrough] at h
      exact of_decide_eq_true h
    have hmod : throughField (some n) % 256 ^ 6 = n := Nat.mod_eq_of_lt (Nat.lt_trans hn (by decide))
    rw [hmod]
    exact if_neg (Nat.ne_of_lt hn)

theorem servicePayload_eq (f : ServiceFrame) : servicePayload f = serviceLead f ++ f.acks.flatMap EntryAck.toBytes := rfl

theorem servicePayload_length (f : ServiceFrame) : (servicePayload f).length = 48 + 8 * f.acks.length := by
  have hacks : ∀ l : List EntryAck, (l.flatMap EntryAck.toBytes).length = 8 * l.length := by
    intro l
    induction l with
    | nil => rfl
    | cons a l ih =>
      rw [List.flatMap_cons, List.length_append, ih, EntryAck.toBytes_length, List.length_cons]
      omega
  rw [servicePayload_eq, List.length_append, serviceLead_length, hacks]

theorem servicePayload_padded (hacks : f.acks.length ≤ 1000) : slice (servicePayload f) 0 8160 = serviceLead f
    ++ (f.acks.flatMap EntryAck.toBytes ++ List.replicate (8160 - (servicePayload f).length) 0#8) := by
  rw [slice_padded (by rw [servicePayload_length]; omega), ← List.append_assoc, ← servicePayload_eq]

theorem parseService_servicePayload (h : f.wellFormed = true) :
    fieldAt (slice (servicePayload f) 0 8160) 40 2 = f.acks.length
    ∧ parseService (slice (servicePayload f) 0 8160) = f := by
  have hall := h
  simp only [ServiceFrame.wellFormed, Bool.and_eq_true, decide_eq_true_eq] at h
  obtain ⟨⟨⟨-, hmarks⟩, hlen⟩, hacks⟩ := h
  have hcount : fieldAt (slice (servicePayload f) 0 8160) 40 2 = f.acks.length := by
    rw [servicePayload_padded hlen, serviceLead_count]
    exact Nat.mod_eq_of_lt (Nat.lt_of_le_of_lt hlen (by decide))
  refine ⟨hcount, ?_⟩
  unfold parseService
  rw [hcount, servicePayload_padded hlen, serviceLead_through, serviceLead_marks, throughField_read hall,
    unpackMarks_packMarks 32 hmarks, ← serviceLead_length f, parseAcks_toBytes _ _ _ hacks]

end

/-! ## The test patterns (Table 5-6) -/

theorem customByte_eq (c : BitVec 64) (i : Nat) : customByte c i = BitVec.ofNat 8 (c.toNat / 256 ^ (7 - i % 8)) := by
  have hpow : 2 ^ (8 * (7 - i % 8)) = 256 ^ (7 - i % 8) := Nat.pow_mul 2 8 _
  refine BitVec.eq_of_toNat_eq ?_
  rw [customByte, BitVec.toNat_setWidth, BitVec.toNat_ushiftRight, BitVec.toNat_ofNat, Nat.shiftRight_eq_div_pow, hpow]

theorem rampByte_eq (f i : Nat) : BitVec.ofNat 8 (f * 8160 + i) = BitVec.ofNat 8 (224 * f + i) := by
  refine BitVec.eq_of_toNat_eq ?_
  rw [BitVec.toNat_ofNat, BitVec.toNat_ofNat]
  omega

theorem Frame.flags_eq (f : Frame) :
    let bit := fun (b : Bool) => if b then 1 else 0
    f.flags = bit f.ready + 2 * bit f.locked + 4 * bit f.alarm + 8 * bit f.heard + 16 * bit f.echo :=
  bitsToNat_five _ _ _ _ _

/-- Settles O59: the layouts by definition, and each kind of frame read back field by field. -/
theorem frameLayoutAndRoundTrip : Obligations.FrameLayoutAndRoundTrip := by
  refine ⟨fun f => ?layout, fun bs => rfl, fun f => ⟨packMarks 32 f.marks, rfl, packMarks_length _ _, fun i hi =>
    packMarks_bit 32 hi⟩, fun c1 c2 f i => ?patterns, fun x c1 c2 f => rfl, fun t => ⟨fun f => ?_, fun f => ?_, fun f => ?_,
    fun f h echo => ?_, fun n payload hn hlen => ?_, fun counter payload hlen => ?_⟩⟩
  case layout =>
    intro bit
    refine ⟨?_, f.header_length, fun hlen => ?_⟩
    · rw [Frame.header, f.flags_eq]
      rfl
    · intro bytes
      have hchecked : f.checked = bytes := by
        unfold bytes
        rw [Frame.checked, List.append_assoc]
        exact congrArg (f.header ++ ·) (slice_padded hlen)
      rw [← hchecked]
      exact ⟨rfl, f.toBytes_length⟩
  case patterns =>
    intro custom
    refine ⟨rfl, rfl, rfl, rampByte_eq f i, customByte_eq c1 i, ?_⟩
    show (if f % 2 = 0 then customByte c1 i else customByte c2 i) = _
    rw [customByte_eq, customByte_eq]
  · rw [frameCommand_toBytes, commandOf_head rfl]
    simp only [word_of_toNat]
  · rw [frameCommand_toBytes, commandOf_fill rfl]
    simp only [word_of_toNat]
  · rw [frameCommand_toBytes, commandOf_probe rfl]
    simp only [word_of_toNat]
  · obtain ⟨hcount, hparse⟩ := parseService_servicePayload h
    simp only [ServiceFrame.wellFormed, Bool.and_eq_true, decide_eq_true_eq] at h
    rw [frameCommand_toBytes, commandOf_service rfl (by rw [hcount]; exact h.1.2), hparse]
  · rw [frameCommand_toBytes, commandOf_carry rfl hn, slice_all hlen]
  · rw [frameCommand_toBytes, commandOf_test rfl, slice_all hlen]

end Sys2Proof.Machine

/-! # Pieces and records as bytes (Sections 10.1 and 10.2.2) -/

namespace Sys2Proof.Machine

/-! ## Single bytes and bits -/

theorem beBytes_one (v : Nat) : beBytes 1 v = [BitVec.ofNat 8 v] := by simp [beBytes]

theorem bitOf_eq (v i : Nat) : bitOf v i = decide (v / 2 ^ i % 2 = 1) := Nat.testBit_eq_decide_div_mod_eq

/-! ## Patch writes -/

theorem patchBytes_cons (p : PatchWrite) (ps : List PatchWrite) :
    patchBytes (p :: ps) = beBytes 1 p.field ++ beBytes 1 p.value.length ++ p.value ++ patchBytes ps := by
  rw [beBytes_one, beBytes_one]
  rfl

theorem patchBytes_length_cons (p : PatchWrite) (ps : List PatchWrite) :
    (patchBytes (p :: ps)).length = 2 + p.value.length + (patchBytes ps).length := by
  rw [patchBytes_cons]
  simp only [List.length_append, beBytes_length]

/-- Patch writes stand within 50 bytes each, where each value fits. -/
theorem patchBytes_length_le : ∀ {ps : List PatchWrite}, (∀ p ∈ ps, p.value.length ≤ 48) →
    (patchBytes ps).length ≤ 50 * ps.length
  | [], _ => Nat.le_refl _
  | p :: ps, h => by
    have hp := h p List.mem_cons_self
    have hps := patchBytes_length_le fun q hq => h q (List.mem_cons_of_mem _ hq)
    rw [patchBytes_length_cons, List.length_cons]
    omega

/-- One write more is read where it stands. -/
theorem parsePatches_step {bs : List Byte} {limit n off k : Nat} {v : List Byte} (hlength : fieldAt bs (off + 1) 1 = v.length)
    (hfield : fieldAt bs off 1 = k) (hvalue : slice bs (off + 2) v.length = v) (hfits : off + 2 + v.length ≤ limit) :
    parsePatches bs limit (n + 1) off =
      (parsePatches bs limit n (off + 2 + v.length)).map fun r => (⟨k, v⟩ :: r.1, r.2) := by
  rw [parsePatches, hlength, if_pos ⟨by omega, hfits⟩, hfield, hvalue]

/-- Patch writes are read back, whatever stands before and behind them. -/
theorem parsePatches_patchBytes (post : List Byte) (limit : Nat) : ∀ (ps : List PatchWrite) (pre : List Byte),
    (∀ p ∈ ps, p.field < 256 ∧ p.value.length < 256) → pre.length + (patchBytes ps).length ≤ limit →
    parsePatches (pre ++ (patchBytes ps ++ post)) limit ps.length pre.length = some (ps, pre.length + (patchBytes ps).length)
  | [], _, _, _ => rfl
  | p :: ps, pre, h, hlimit => by
    obtain ⟨hfield, hlength⟩ := h p List.mem_cons_self
    have hrest := parsePatches_patchBytes post limit ps (pre ++ (beBytes 1 p.field ++ beBytes 1 p.value.length ++ p.value))
      (fun q hq => h q (List.mem_cons_of_mem _ hq))
    have hsplit : pre ++ (patchBytes (p :: ps) ++ post) =
        pre ++ (beBytes 1 p.field ++ (beBytes 1 p.value.length ++ (p.value ++ (patchBytes ps ++ post)))) := by
      rw [patchBytes_cons]
      simp only [List.append_assoc]
    have hread := fieldAt_shift pre (beBytes 1 p.field ++ (beBytes 1 p.value.length ++ (p.value ++ (patchBytes ps ++ post)))) 0 1
    have hreadLength :=
      fieldAt_shift pre (beBytes 1 p.field ++ (beBytes 1 p.value.length ++ (p.value ++ (patchBytes ps ++ post)))) 1 1
    have hvalue := slice_middle (pre ++ (beBytes 1 p.field ++ beBytes 1 p.value.length)) p.value (patchBytes ps ++ post)
    rw [patchBytes_length_cons] at hlimit ⊢
    simp only [List.length_append, beBytes_length, List.append_assoc] at hrest hvalue
    rw [Nat.add_zero, fieldAt_here, Nat.pow_one, Nat.mod_eq_of_lt hfield] at hread
    rw [fieldAt_skip (Nat.le_refl _), Nat.sub_self, fieldAt_here, Nat.pow_one, Nat.mod_eq_of_lt hlength] at hreadLength
    have hoff : pre.length + 2 + p.value.length = pre.length + (1 + (1 + p.value.length)) := by omega
    rw [hsplit, List.length_cons, parsePatches_step hreadLength hread hvalue (by omega), hoff, hrest (by omega)]
    simp only [Option.map_some, Option.some.injEq, Prod.mk.injEq, true_and]
    omega

/-! ## The SUBMIT body (Table 10-3) -/

section
variable {head : List Byte} {ps : List PatchWrite}

theorem submitPatches_patchBytes (hhead : head.length = 40) (hcount : fieldAt head 3 1 = ps.length)
    (hps : ∀ p ∈ ps, p.field < 256 ∧ p.value.length < 256) :
    submitPatches (head ++ patchBytes ps) = some (ps, (head ++ patchBytes ps).length) := by
  have hparse := parsePatches_patchBytes [] (head ++ patchBytes ps).length ps head hps (by rw [List.length_append])
  rw [List.append_nil, hhead] at hparse
  rw [submitPatches, fieldAt_left (by omega), hcount, hparse, List.length_append, hhead]

theorem fitsSubmit_patchBytes (hhead : head.length = 40) (hcount : fieldAt head 3 1 = ps.length)
    (hps : ∀ p ∈ ps, p.field < 256 ∧ p.value.length < 256) : fitsSubmit (head ++ patchBytes ps) = true := by
  rw [fitsSubmit, submitPatches_patchBytes hhead hcount hps]
  exact beq_self_eq_true _

theorem parseSubmit_patchBytes (hhead : head.length = 40) (hcount : fieldAt head 3 1 = ps.length)
    (hps : ∀ p ∈ ps, p.field < 256 ∧ p.value.length < 256) : parseSubmit (head ++ patchBytes ps) =
      ⟨fieldAt head 0 2, fieldAt head 2 1, fieldAt head 4 4, BitVec.ofNat 128 (fieldAt head 8 16),
        BitVec.ofNat 64 (fieldAt head 24 8), BitVec.ofNat 64 (fieldAt head 32 8), ps⟩ := by
  have hleft : ∀ off n, off + n ≤ 40 → fieldAt (head ++ patchBytes ps) off n = fieldAt head off n := fun off n h =>
    fieldAt_left (by omega)
  rw [parseSubmit, submitPatches_patchBytes hhead hcount hps, hleft 0 2 (by decide), hleft 2 1 (by decide),
    hleft 4 4 (by decide), hleft 8 16 (by decide), hleft 24 8 (by decide), hleft 32 8 (by decide)]
  rfl

end

/-! ## NOTICE and SEGMENT (Section 10.2.2) -/

/-- The 52 bytes of a NOTICE before its patch writes. -/
def noticeLead (n : Notice) : List Byte :=
  beBytes 1 1 ++ beBytes 1 n.kind ++ beBytes 1 (flag n.rebase) ++ beBytes 1 n.patches.length ++ beBytes 2 n.bucket
    ++ beBytes 2 n.epoch ++ beBytes 4 n.seq ++ beBytes 4 n.bodyLength ++ beBytes 4 n.segments ++ beBytes 16 n.digest.toNat
    ++ beBytes 8 n.stamp.toNat ++ beBytes 8 n.check.toNat

theorem noticePayload_eq (n : Notice) : noticePayload n = noticeLead n ++ patchBytes n.patches := rfl

theorem noticeLead_length (n : Notice) : (noticeLead n).length = 52 := by simp [noticeLead]

theorem noticeLead_fields (n : Notice) (rest : List Byte) :
    fieldAt (noticeLead n ++ rest) 0 1 = 1 ∧ fieldAt (noticeLead n ++ rest) 1 1 = n.kind % 256
    ∧ fieldAt (noticeLead n ++ rest) 2 1 = flag n.rebase % 256 ∧ fieldAt (noticeLead n ++ rest) 3 1 = n.patches.length % 256
    ∧ fieldAt (noticeLead n ++ rest) 4 2 = n.bucket % 65536 ∧ fieldAt (noticeLead n ++ rest) 6 2 = n.epoch % 65536
    ∧ fieldAt (noticeLead n ++ rest) 8 4 = n.seq % 2 ^ 32 ∧ fieldAt (noticeLead n ++ rest) 12 4 = n.bodyLength % 2 ^ 32
    ∧ fieldAt (noticeLead n ++ rest) 16 4 = n.segments % 2 ^ 32
    ∧ fieldAt (noticeLead n ++ rest) 20 16 = n.digest.toNat
    ∧ fieldAt (noticeLead n ++ rest) 36 8 = n.stamp.toNat ∧ fieldAt (noticeLead n ++ rest) 44 8 = n.check.toNat := by
  have hdigest : n.digest.toNat % 256 ^ 16 = n.digest.toNat := Nat.mod_eq_of_lt n.digest.isLt
  have hstamp : n.stamp.toNat % 256 ^ 8 = n.stamp.toNat := Nat.mod_eq_of_lt n.stamp.isLt
  have hcheck : n.check.toNat % 256 ^ 8 = n.check.toNat := Nat.mod_eq_of_lt n.check.isLt
  simp only [Nat.reducePow] at hdigest hstamp hcheck
  refine ⟨?_, ?_, ?_, ?_, ?_, ?_, ?_, ?_, ?_, ?_, ?_, ?_⟩ <;>
    simp only [noticeLead, List.append_assoc, fieldAt_skip, fieldAt_here, Nat.reduceLeDiff, Nat.reduceSub, Nat.reducePow,
      Nat.reduceMod, hdigest, hstamp, hcheck]

theorem parsePiece_notice {n : Notice} (hkind : n.kind < 256) (hbucket : n.bucket < 65536) (hepoch : n.epoch < 65536)
    (hseq : n.seq < 2 ^ 32) (hbody : n.bodyLength < 2 ^ 32) (hsegments : n.segments < 2 ^ 32) (hcount : n.patches.length ≤ 32)
    (hpatches : ∀ p ∈ n.patches, p.field < 256 ∧ p.value.length ≤ 48) :
    parsePiece (slice (noticePayload n) 0 8160) = .notice n := by
  have hsize := patchBytes_length_le fun p hp => (hpatches p hp).2
  have hlen : (noticePayload n).length ≤ 8160 := by
    rw [noticePayload_eq, List.length_append, noticeLead_length]
    omega
  have hpadded : slice (noticePayload n) 0 8160 =
      noticeLead n ++ (patchBytes n.patches ++ List.replicate (8160 - (noticePayload n).length) 0#8) := by
    rw [slice_padded hlen, ← List.append_assoc, ← noticePayload_eq]
  have hparse := parsePatches_patchBytes (List.replicate (8160 - (noticePayload n).length) 0#8) 8160 n.patches (noticeLead n)
    (fun p hp => ⟨(hpatches p hp).1, Nat.lt_of_le_of_lt (hpatches p hp).2 (by decide)⟩) (by rw [noticeLead_length]; omega)
  obtain ⟨htype, hkindRead, hflagRead, hcountRead, hbucketRead, hepochRead, hseqRead, hbodyRead, hsegmentsRead, hdigestRead,
    hstampRead, hcheckRead⟩ := noticeLead_fields n (patchBytes n.patches
      ++ List.replicate (8160 - (noticePayload n).length) 0#8)
  rw [← hpadded] at hparse htype hkindRead hflagRead hcountRead hbucketRead hepochRead hseqRead hbodyRead
  rw [← hpadded] at hsegmentsRead hdigestRead hstampRead hcheckRead
  rw [Nat.mod_eq_of_lt hkind] at hkindRead
  rw [Nat.mod_eq_of_lt (by omega)] at hcountRead
  rw [Nat.mod_eq_of_lt hbucket] at hbucketRead
  rw [Nat.mod_eq_of_lt hepoch] at hepochRead
  rw [Nat.mod_eq_of_lt hseq] at hseqRead
  rw [Nat.mod_eq_of_lt hbody] at hbodyRead
  rw [Nat.mod_eq_of_lt hsegments] at hsegmentsRead
  have hrebase : bitOf (flag n.rebase % 256) 0 = n.rebase := by
    cases n.rebase
    · rfl
    · rfl
  generalize slice (noticePayload n) 0 8160 = bs at *
  rw [noticeLead_length] at hparse
  unfold parsePiece
  rw [if_pos htype, hcountRead, show Config.payloadBytes = 8160 from rfl, hparse, hkindRead, hflagRead, hbucketRead, hepochRead,
    hseqRead, hbodyRead, hsegmentsRead, hdigestRead, hstampRead, hcheckRead, hrebase, word_of_toNat, word_of_toNat,
    word_of_toNat]

/-- The 16 bytes of a SEGMENT before its data. -/
def segmentLead (g : Segment) : List Byte :=
  beBytes 1 2 ++ beBytes 1 0 ++ beBytes 2 g.bucket ++ beBytes 4 g.seq ++ beBytes 4 g.index ++ beBytes 2 g.count ++ beBytes 2 0

theorem segmentPayload_eq (g : Segment) : segmentPayload g = segmentLead g ++ g.bytes := rfl

theorem segmentLead_length (g : Segment) : (segmentLead g).length = 16 := by simp [segmentLead]

theorem segmentLead_fields (g : Segment) (rest : List Byte) :
    fieldAt (segmentLead g ++ rest) 0 1 = 2 ∧ fieldAt (segmentLead g ++ rest) 2 2 = g.bucket % 65536
    ∧ fieldAt (segmentLead g ++ rest) 4 4 = g.seq % 2 ^ 32 ∧ fieldAt (segmentLead g ++ rest) 8 4 = g.index % 2 ^ 32
    ∧ fieldAt (segmentLead g ++ rest) 12 2 = g.count % 65536 := by
  refine ⟨?_, ?_, ?_, ?_, ?_⟩ <;>
    simp only [segmentLead, List.append_assoc, fieldAt_skip, fieldAt_here, Nat.reduceLeDiff, Nat.reduceSub, Nat.reducePow,
      Nat.reduceMod]

theorem parsePiece_segment {g : Segment} (hbucket : g.bucket < 65536) (hseq : g.seq < 2 ^ 32) (hindex : g.index < 2 ^ 32)
    (hcount : g.count = g.bytes.length) (hfits : g.count ≤ 8128) : parsePiece (slice (segmentPayload g) 0 8160) = .segment g := by
  have hlen : (segmentPayload g).length ≤ 8160 := by
    rw [segmentPayload_eq, List.length_append, segmentLead_length]
    omega
  have hpadded : slice (segmentPayload g) 0 8160 =
      segmentLead g ++ (g.bytes ++ List.replicate (8160 - (segmentPayload g).length) 0#8) := by
    rw [slice_padded hlen, ← List.append_assoc, ← segmentPayload_eq]
  obtain ⟨htype, hbucketRead, hseqRead, hindexRead, hcountRead⟩ := segmentLead_fields g
    (g.bytes ++ List.replicate (8160 - (segmentPayload g).length) 0#8)
  have hbytes := slice_middle (segmentLead g) g.bytes (List.replicate (8160 - (segmentPayload g).length) 0#8)
  rw [← hpadded] at htype hbucketRead hseqRead hindexRead hcountRead hbytes
  rw [Nat.mod_eq_of_lt hbucket] at hbucketRead
  rw [Nat.mod_eq_of_lt hseq] at hseqRead
  rw [Nat.mod_eq_of_lt hindex] at hindexRead
  rw [Nat.mod_eq_of_lt (by omega)] at hcountRead
  rw [segmentLead_length, ← hcount] at hbytes
  generalize slice (segmentPayload g) 0 8160 = bs at *
  unfold parsePiece
  rw [if_neg (by rw [htype]; decide), if_pos htype, hbucketRead, hseqRead, hindexRead, hcountRead,
    if_pos (show g.count ≤ Config.segBytes from hfits), hbytes]

end Sys2Proof.Machine

/-! # Site link records as bytes, and the layouts settled (Section 10.1) -/

namespace Sys2Proof.Machine

/-! ## The header of a record (Table 10-1) -/

section
variable (kind : Byte) (flags tag result length : Nat)

theorem headerLead_eq : headerLead kind flags tag result length = beBytes 2 0xC35A ++ (beBytes 1 kind.toNat
    ++ (beBytes 1 flags ++ (beBytes 2 tag ++ (beBytes 2 result ++ beBytes 2 length)))) := by
  rw [beBytes_one, beBytes_one, word_of_toNat, headerLead]
  simp only [List.append_assoc]
  rfl

theorem headerLead_length : (headerLead kind flags tag result length).length = 10 := by
  rw [headerLead_eq]
  simp only [List.length_append, beBytes_length]

theorem headerLead_fields (rest : List Byte) :
    fieldAt (headerLead kind flags tag result length ++ rest) 0 2 = 0xC35A
    ∧ fieldAt (headerLead kind flags tag result length ++ rest) 2 1 = kind.toNat
    ∧ fieldAt (headerLead kind flags tag result length ++ rest) 3 1 = flags % 256
    ∧ fieldAt (headerLead kind flags tag result length ++ rest) 4 2 = tag % 65536
    ∧ fieldAt (headerLead kind flags tag result length ++ rest) 8 2 = length % 65536 := by
  have hkind : kind.toNat % 256 = kind.toNat := Nat.mod_eq_of_lt kind.isLt
  rw [headerLead_eq]
  refine ⟨?_, ?_, ?_, ?_, ?_⟩ <;>
    simp only [List.append_assoc, fieldAt_skip, fieldAt_here, Nat.reduceLeDiff, Nat.reduceSub, Nat.reducePow, Nat.reduceMod,
      hkind]

theorem headerBytes_eq : headerBytes kind flags tag result length = headerLead kind flags tag result length
    ++ (beBytes 2 (headerCheck (headerLead kind flags tag result length ++ beBytes 4 0)).toNat ++ beBytes 4 0) := by
  rw [← List.append_assoc]
  rfl

/-- A header passes the assembler's tests (R178). -/
theorem headerOk_headerBytes (hlength : length ≤ 65520) : headerOk (headerBytes kind flags tag result length) = true := by
  obtain ⟨hmarker, -, -, -, hlengthRead⟩ := headerLead_fields kind flags tag result length
    (beBytes 2 (headerCheck (headerLead kind flags tag result length ++ beBytes 4 0)).toNat ++ beBytes 4 0)
  have hlen := headerLead_length kind flags tag result length
  rw [headerOk_iff, headerBytes_eq, hmarker, hlengthRead, Nat.mod_eq_of_lt (by omega)]
  generalize headerLead kind flags tag result length = lead at *
  generalize hcheck : headerCheck (lead ++ beBytes 4 0) = check
  have hfield : fieldAt (lead ++ (beBytes 2 check.toNat ++ beBytes 4 0)) 10 2 = check.toNat := by
    have h := fieldAt_shift lead (beBytes 2 check.toNat ++ beBytes 4 0) 0 2
    rw [hlen, fieldAt_here, Nat.mod_eq_of_lt (show check.toNat < 256 ^ 2 from check.isLt)] at h
    exact h
  have hlead : slice (lead ++ (beBytes 2 check.toNat ++ beBytes 4 0)) 0 10 = lead := by
    rw [slice_append_left (by omega), slice_all hlen]
  have htail : slice (lead ++ (beBytes 2 check.toNat ++ beBytes 4 0)) 12 4 = beBytes 4 0 := by
    rw [slice_append_right (by omega), hlen, slice_append_right (by rw [beBytes_length]), beBytes_length]
    exact slice_all (beBytes_length 4 0)
  rw [hfield, hlead, htail, hcheck]
  exact ⟨rfl, rfl, hlength⟩

end

/-- The record of a host request is its command (Table 10-2). -/
theorem recordCommand_headerBytes (kind : Byte) (w : Wire) :
    recordCommand (headerBytes kind 0 w.tag.toNat 0 w.body.length) w.body (beBytes 4 w.check.toNat) = requestCommand kind w := by
  obtain ⟨-, hkind, hflags, htag, -⟩ := headerLead_fields kind 0 w.tag.toNat 0 w.body.length
    (beBytes 2 (headerCheck (headerLead kind 0 w.tag.toNat 0 w.body.length ++ beBytes 4 0)).toNat ++ beBytes 4 0)
  have hcheck : beNat (beBytes 4 w.check.toNat) = w.check.toNat := by
    rw [beNat_beBytes]
    exact Nat.mod_eq_of_lt w.check.isLt
  rw [Nat.mod_eq_of_lt (show w.tag.toNat < 65536 from w.tag.isLt)] at htag
  rw [← headerBytes_eq] at hkind hflags htag
  unfold recordCommand
  rw [hkind, hflags, htag, hcheck, word_of_toNat, word_of_toNat, word_of_toNat]
  rfl

theorem requestCommand_hostRequests : ∀ c ∈ hostRequests, ∀ w : Wire, requestCommand c.1 w = c.2 w := by
  simp only [hostRequests, List.forall_mem_cons]
  exact ⟨fun _ => rfl, fun _ => rfl, fun _ => rfl, fun _ => rfl, fun _ => rfl, fun _ => rfl, fun _ => rfl, fun _ => rfl,
    fun _ => rfl, fun _ => rfl, fun _ => rfl, fun _ => rfl, fun _ => rfl, fun _ => rfl, fun _ => rfl, fun _ => rfl,
    fun _ => rfl, fun _ => rfl, fun _ => rfl, fun _ => rfl, fun _ => rfl, List.forall_mem_nil _⟩

theorem LinkRecord.flags_eq (r : LinkRecord) :
    r.flags = (if r.partTag then 1 else 0) + if r.reply then 2 else 0 := by
  rw [LinkRecord.flags]
  cases r.partTag <;> cases r.reply <;> rfl

/-- Three flags in the low bits of a byte, as the statements write them. -/
theorem bitsToNat_weights (a b c : Bool) : bitsToNat [a, b, c] =
    (if a then 1 else 0) + 2 * (if b then 1 else 0) + 4 * (if c then 1 else 0) := by
  cases a <;> cases b <;> cases c <;> rfl

theorem SubmitReq.change_cases (q : SubmitReq) :
    (q.kind = 1 → q.length ≠ 0 → q.change = .body q.length q.check q.ref q.patches)
    ∧ (q.kind = 1 → q.length = 0 → q.change = .body 0 0#64 q.ref q.patches)
    ∧ (q.kind = 2 → q.change = .patch q.patches) ∧ (q.kind = 3 → q.change = .drop) := by
  refine ⟨fun hkind hlength => ?_, fun hkind hlength => ?_, fun hkind => ?_, fun hkind => ?_⟩
  · rw [SubmitReq.change, if_pos hkind, if_neg hlength]
  · rw [SubmitReq.change, if_pos hkind, if_pos hlength, hlength]
    rfl
  · rw [SubmitReq.change, if_neg (by omega), if_pos hkind]
  · rw [SubmitReq.change, if_neg (by omega), if_neg (by omega)]

/-- Settles O60: the checks and layouts by definition, and each piece and each host request read back. -/
theorem pieceAndRecordLayoutAndRoundTrip : Obligations.PieceAndRecordLayoutAndRoundTrip := by
  refine ⟨fun bs => rfl, fun bs => rfl, ⟨rfl, fun r bs => rfl, fun r => rfl, by decide⟩, fun n v => ⟨rfl, rfl⟩,
    fun before after n v h => fieldAt_middle before after h, fun n => rfl, fun g => rfl, ⟨rfl, patchBytes_cons⟩,
    fun head ps hhead hcount hps => ⟨fitsSubmit_patchBytes hhead hcount hps, parseSubmit_patchBytes hhead hcount hps⟩,
    SubmitReq.change_cases, fun tag t n unchecked prior => ?apply, fun t c => ?config, fun b => ?parse, fun r => ?record,
    fun n => parsePiece_notice, fun g => parsePiece_segment, fun c hc w hlen => ⟨?_, ?_⟩⟩
  case apply =>
    rw [applyRecord, bitsToNat_weights]
    rfl
  case config =>
    rw [configBlock, bitsToNat_weights]
    rfl
  case parse =>
    intro bit
    rw [parseConfig, bitOf_eq, bitOf_eq, bitOf_eq]
  case record =>
    intro lead
    have hlead : headerLead r.kind r.flags r.tag r.result.code r.body.length = lead := by
      unfold lead
      rw [headerLead, beBytes_one, r.flags_eq]
      simp only [List.append_assoc]
      rfl
    rw [LinkRecord.toBytes, headerBytes, hlead]
    rfl
  · exact headerOk_headerBytes c.1 0 w.tag.toNat 0 w.body.length hlen
  · exact (recordCommand_headerBytes c.1 w).trans (requestCommand_hostRequests c hc w)

end Sys2Proof.Machine
